-- ==== Sys2Proof/Word.lean ====
section
/-! DEFINITION. The plainest types of the model: octets, bus names, and the whole-number helpers of spec/00 section 0.6. -/

namespace Sys2Proof

/-- One octet of either link. -/
abbrev Byte := BitVec 8

/-- A bus A..D, numbered 0..3 as the requests carry it (Table 1-3). -/
abbrev Bus := Fin 4

/-- A field stated to saturate at `limit` holds a result beyond it at the limit (section 0.6). -/
def saturate (limit n : Nat) : Nat := min n limit

/-- ceil(a / b) of section 0.6, for b above 0. -/
def ceilDiv (a b : Nat) : Nat := (a + b - 1) / b

/-- `value` held to the range `low`..`high`: the nearer limit where it lies outside (R7). -/
def clampTo (low high value : Nat) : Nat := max low (min value high)

end Sys2Proof
end

