-- ==== Sys2Proof/Syntax.lean ====
section
/-! DEFINITION. The commands the part takes: one constructor of `Instr` for each row of spec/opcode_table.json,
with the operands the rules give it. A request row carries the tag and the body octets of its frame (Table 10-2). -/

namespace Sys2Proof

/-- The levels of the two cabinet link lines as the part reads them: true where a line reads low (R26, R30). -/
structure LineLevels where
  lckLow : Bool
  ldaLow : Bool
  deriving DecidableEq, Repr

/-- The end of an alert: its check octet, and the lines as they read once the stop has been issued (R25, R29). -/
structure AlertEnd where
  check : Byte
  after : LineLevels
  deriving DecidableEq, Repr

/-- What a start samples: the BAUD1:0 inputs (R167), and the lines once the stop of R26 has been issued. -/
structure StartPins where
  baud : BitVec 2
  lines : LineLevels
  deriving DecidableEq, Repr

/-- How an attempt that expects a reply ends on the line (R18, R19, R27, R32), the stretch timeout, recovery and
arbitration apart, which are commands of their own. `reply` carries the payload and the reply check octet received. -/
inductive AttemptEnd (ρ : Type) where
  | notAcknowledged
  | checkNotAcknowledged
  | bitMismatch
  | reply (payload : ρ) (check : Byte)
  deriving DecidableEq, Repr

/-- How a FREEZE ends on the line: sent to its stop, or a bit mismatch after the header (R20, R27). -/
inductive FreezeEnd where
  | sent
  | bitMismatch
  deriving DecidableEq, Repr

/-- Reply payload of a POLL (Table 2-2). -/
structure PollReply where
  stateWord : Byte
  echo : Byte
  value : BitVec 32
  deriving DecidableEq, Repr

/-- Reply payload of a COMMAND (Table 2-2). -/
structure CommandReply where
  stateWord : Byte
  result : Byte
  deriving DecidableEq, Repr

/-- Reply payload of a TEST_READ (Table 2-2): ΔVstr and ΔVsh in µV, the step charge in A·s. -/
structure TestReadReply where
  ready : Byte
  deltaString : BitVec 32
  deltaShunt : BitVec 32
  charge : BitVec 32
  deriving DecidableEq, Repr

/-- The two images of the image store (section 11.2). -/
inductive ImageId where
  | configuration
  | ageing
  deriving DecidableEq, Repr

/-- The request kinds of Table 10-3. -/
inductive RequestKind where
  | ident
  | status
  | setTime
  | restart
  | setNoticeMask
  | fetchNotices
  | defineFloor
  | defineBus
  | defineCabinet
  | defineString
  | undefine
  | commitConfig
  | seedAgeing
  | scanEdit
  | scanTiming
  | scanStart
  | scanStop
  | readBus
  | readCabinets
  | readStrings
  | readReadings
  | readPermits
  | readVisit
  | readHistory
  | requestWithdraw
  | requestBusBypass
  | returnPermit
  | cancelRequest
  | startStringTest
  | abortStringTest
  | bookVisit
  | cancelVisit
  | extendVisit
  | closeVisit
  | declareReplaced
  deriving DecidableEq, Repr

/-- The commands, in the order of the opcode table. -/
inductive Instr where
  -- starts
  | powerOn (pins : StartPins)
  | resetnRelease (pins : StartPins)
  | warmStart (pins : StartPins)
  -- the host line
  | hostOctetReceived (octet : Byte) (stopBitLow : Bool)
  | hostGapTimeout
  | replySent
  -- requests
  | unknownKindRequest (kind tag : Byte) (body : List Byte)
  | ident (tag : Byte) (body : List Byte)
  | status (tag : Byte) (body : List Byte)
  | setTime (tag : Byte) (body : List Byte)
  | restart (tag : Byte) (body : List Byte)
  | setNoticeMask (tag : Byte) (body : List Byte)
  | fetchNotices (tag : Byte) (body : List Byte)
  | defineFloor (tag : Byte) (body : List Byte)
  | defineBus (tag : Byte) (body : List Byte)
  | defineCabinet (tag : Byte) (body : List Byte)
  | defineString (tag : Byte) (body : List Byte)
  /-- UNDEFINE with target 3: the frame's body is `visit`, 3, then `rest` (cabinet and slot). -/
  | undefineString (tag visit : Byte) (rest : List Byte)
  /-- UNDEFINE with target 2: the frame's body is `visit`, 2, then `rest`. -/
  | undefineCabinet (tag visit : Byte) (rest : List Byte)
  /-- UNDEFINE with target 1: the frame's body is `visit`, 1, then `rest`. -/
  | undefineBus (tag visit : Byte) (rest : List Byte)
  | commitConfig (tag : Byte) (body : List Byte)
  | seedAgeing (tag : Byte) (body : List Byte)
  /-- SCAN_EDIT with operation 1: the frame's body is 1, then `rest` (position, cabinet, point, skip, mode). -/
  | scanEditInsert (tag : Byte) (rest : List Byte)
  /-- SCAN_EDIT with operation 2. -/
  | scanEditRemove (tag : Byte) (rest : List Byte)
  /-- SCAN_EDIT with operation 3. -/
  | scanEditReplace (tag : Byte) (rest : List Byte)
  | scanTiming (tag : Byte) (body : List Byte)
  | scanStart (tag : Byte) (body : List Byte)
  | scanStop (tag : Byte) (body : List Byte)
  | readBus (tag : Byte) (body : List Byte)
  | readCabinets (tag : Byte) (body : List Byte)
  | readStrings (tag : Byte) (body : List Byte)
  | readReadings (tag : Byte) (body : List Byte)
  | readPermits (tag : Byte) (body : List Byte)
  | readVisit (tag : Byte) (body : List Byte)
  | readHistory (tag : Byte) (body : List Byte)
  | requestWithdraw (tag : Byte) (body : List Byte)
  | requestBusBypass (tag : Byte) (body : List Byte)
  | returnPermit (tag : Byte) (body : List Byte)
  | cancelRequest (tag : Byte) (body : List Byte)
  | startStringTest (tag : Byte) (body : List Byte)
  | abortStringTest (tag : Byte) (body : List Byte)
  | bookVisit (tag : Byte) (body : List Byte)
  | cancelVisit (tag : Byte) (body : List Byte)
  | extendVisit (tag : Byte) (body : List Byte)
  | closeVisit (tag : Byte) (body : List Byte)
  | declareReplaced (tag : Byte) (body : List Byte)
  -- the cabinet link
  | freezeComplete (ending : FreezeEnd)
  | pollComplete (ending : AttemptEnd PollReply)
  | commandComplete (ending : AttemptEnd CommandReply)
  | testReadComplete (ending : AttemptEnd TestReadReply)
  | arbitrationLost
  | alertStart
  | alertReceived (header stateWord cause : Byte) (ending : AlertEnd)
  | stretchTimeoutExpiry
  /-- The lines as they read at expiry, and as they read at step 6 of the recovery procedure (R30). -/
  | stuckLineTimerExpiry (atExpiry after : LineLevels)
  /-- The lines as they read after the retry's stop (R31). -/
  | recoveryRetryExpiry (after : LineLevels)
  -- timers
  | overlayDeadlineExpiry (cabinet : Nat)
  | scanDelayExpiry
  | passTick
  | dayCheck
  | rechargeHoldExpiry (cabinet slot : Nat)
  | settleTimerExpiry
  | stepTimerExpiry
  | rereadTimerExpiry
  | waitDeadlineExpiry (permit : Nat)
  | transferSpacingExpiry (bus : Bus)
  | syncTimerExpiry (bus : Bus)
  | transferTimerExpiry (bus : Bus)
  | visitStartArrival (visit : Nat)
  | visitDeadlineExpiry (visit : Nat)
  | overdueReminderExpiry (visit : Nat)
  | closeDeadlineExpiry (visit : Nat)
  -- the image store, the link after a stretch, and the supply
  | imageWriteEnd (image : ImageId) (readBackOk : Bool)
  | lckRiseAfterStretch
  | resetnHeldLow
  | powerDown
  deriving DecidableEq, Repr

end Sys2Proof
end

