-- ==== Sys2Proof/Config.lean ====
section
/-! DEFINITION. What the spec fixes for every part, and the free values it leaves open.
A constant without a body is a free value: nothing in Lean can evaluate it. -/

namespace Sys2Proof.Config

/-- The configuration image format number the part writes; IDENT carries it (R175), no rule states it.
Free value (log 5). -/
opaque configFormat : Byte

/-- The ageing image format number the part writes (R175). Free value (log 5). -/
opaque ageingFormat : Byte

/-- The length of the n-th image body the part has written, before it is held to the image's range: the
body's layout is not stated (section 11.2). Free value (log 6). -/
opaque freeBodyLength : Nat → Nat

/-- The uptime after its greatest value 2^32 - 1 (R182 gives the range and no rule beyond it). Free value (log 4). -/
opaque uptimePastTop : Nat

/-- The grant sequence after its greatest value 2^32 - 1 (Table 8-1 gives the range and no rule beyond it). Free value
(log 22). -/
opaque grantPastTop : Nat

/-- The booking sequence after its greatest value 2^32 - 1 (Table 9-1). Free value (log 22). -/
opaque bookingPastTop : Nat

/-- The close sequence after its greatest value 2^32 - 1 (Table 9-1). Free value (log 22). -/
opaque closePastTop : Nat

/-- The silicon stepping number of this manual (Table 10-5). -/
def stepping : Nat := 1

/-- Cabinets the part supervises (Table 10-5). -/
def cabinetCount : Nat := 24

/-- Slots of a cabinet (Table 10-5). -/
def slotCount : Nat := 4

/-- Entries of a scan list (R52). -/
def scanEntries : Nat := 128

/-- Live permits of the permit table (R127). -/
def permitCapacity : Nat := 32

/-- Permits of one bus wait queue (R127). -/
def waitCapacity : Nat := 8

/-- Slots of the visit table (R149). -/
def visitSlots : Nat := 8

/-- Notices of the notice queue (R179). -/
def noticeCapacity : Nat := 32

/-- Frames of the receive queue, and entries of the busy list (R170). -/
def frameCapacity : Nat := 4

/-- Greatest body of a configuration image, 8 KiB (R185). -/
def configImageMax : Nat := 8192

/-- Greatest body of an ageing image, 20 KiB (R185). -/
def ageingImageMax : Nat := 20480

end Sys2Proof.Config
end

