-- ==== Sys2Proof/Machine/State.lean ====
section
/-! DEFINITION. The state of the part as plain data, block by block (Table 0-1), and its value right after reset. -/

namespace Sys2Proof.Machine

/-! ### Chapter 1: the floor description -/

/-- Floor record (R1, Table 1-1). The start-up scan delay is absent for OFF. -/
structure FloorRec where
  linkRate : Nat
  stretchMs : Nat
  unreachableThreshold : Nat
  staleRounds : Nat
  closeTimeoutMin : Nat
  reminderMin : Nat
  startScanDelay : Option Nat
  deriving DecidableEq, Repr

/-- The defaults of Table 1-1. -/
def FloorRec.defaults : FloorRec :=
  { linkRate := 100, stretchMs := 25, unreachableThreshold := 3, staleRounds := 3, closeTimeoutMin := 15,
    reminderMin := 30, startScanDelay := none }

/-- Bus record (R2, Table 1-2). -/
structure BusRec where
  reserve : Nat
  headroom : Nat
  minAutonomy : Nat
  spacing : Nat
  syncTimeout : Nat
  transferTimeout : Nat
  deriving DecidableEq, Repr

/-- The defaults of Table 1-2, for the fields an older image lacks (R185). -/
def BusRec.defaults : BusRec :=
  { reserve := 1, headroom := 10, minAutonomy := 5, spacing := 5, syncTimeout := 10, transferTimeout := 60 }

/-- Cabinet record (R3, Table 1-3). -/
structure CabinetRec where
  address : Nat
  bus : Bus
  rating : Nat
  stringCount : Nat
  master : Bool
  tag : List Byte
  deriving DecidableEq, Repr

/-- How several samples or step results become one (R52, Table 1-4). -/
inductive CombineMode where
  | mean
  | max
  | min
  | first
  deriving DecidableEq, Repr

/-- String record (R4, Table 1-4). -/
structure StringRec where
  capacity : Nat
  energy : Nat
  designLife : Nat
  cycles : Nat
  shunt : Nat
  minSignal : Nat
  stepTime : Nat
  settleTime : Nat
  floatThreshold : Nat
  holdHours : Nat
  serviceLead : Nat
  alarmLevel : Nat
  combine : CombineMode
  deriving DecidableEq, Repr

/-! ### Chapter 3: cabinet tracking -/

/-- The mode field of a state word (Table 2-3). -/
inductive Mode where
  | online
  | onBattery
  | staticBypass
  | standby
  | isolated
  | fault
  deriving DecidableEq, Repr

/-- State word of a cabinet (Table 2-3); bit 7 is disregarded (R24). -/
structure StateWord where
  mode : Mode
  syncOk : Bool
  bypassSourceOk : Bool
  bypassClosed : Bool
  testActive : Bool
  deriving DecidableEq, Repr

/-- Tracked states (Table 3-2). -/
inductive Tracked where
  | unknown
  | online
  | onBattery
  | staticBypass
  | standby
  | isolated
  | fault
  | withdrawing
  | returning
  | unreachable
  deriving DecidableEq, Repr

/-- The transfer overlays (R42). -/
inductive Overlay where
  | withdrawing
  | returning
  deriving DecidableEq, Repr

/-- Tracking record (R36, Table 3-1). The tracked state is computed from it (R37). -/
structure Track where
  lastWord : Option StateWord
  failures : Nat
  unreachable : Bool
  unreachableSince : Option Nat
  lastSuccess : Option Nat
  overlay : Option Overlay
  overlayDeadline : Option Nat
  orphan : Bool
  firstReportPending : Bool
  bypassCheckPending : Bool
  deriving DecidableEq, Repr

/-! ### Chapter 5: battery ageing -/

/-- String states (section 5.6). -/
inductive StringState where
  | float
  | discharging
  | testing
  | recharging
  deriving DecidableEq, Repr

/-- Kinds of discharge record (R86). -/
inductive DischargeKind where
  | outage
  | test
  | testAborted
  deriving DecidableEq, Repr

/-- Discharge record (R86); `openedAt` is the uptime from which the duration is counted. -/
structure DischargeRec where
  kind : DischargeKind
  start : Nat
  startIsUptime : Bool
  openedAt : Nat
  duration : Nat
  charge : Nat
  minVoltage : Option Nat
  isOpen : Bool
  awaitingClose : Bool
  cutByStart : Bool
  deriving DecidableEq, Repr

/-- A time held as floor time, or as uptime with the uptime mark (R182). -/
structure Stamp where
  time : Nat
  isUptime : Bool
  deriving DecidableEq, Repr

/-- String ageing record (R71, Table 5-1) with the derived figures held with it (R72, Table 5-2). -/
structure AgeRec where
  calendarWear : Nat
  cycleCharge : Nat
  counterBase : Option Nat
  lastAccrual : Nat
  lastTemperature : Option Nat
  baseline : Nat
  lastImpedance : Nat
  lastTest : Option Stamp
  window : List Nat
  boundaryWear : Nat
  remainingDays : Nat
  history : List DischargeRec
  state : StringState
  rechargeStart : Option Nat
  rechargeExpiry : Option Nat
  ageingLost : Bool
  tempUnknown : Bool
  baselinePending : Bool
  dueFlagged : Bool
  impFlagged : Bool
  gapPending : Bool
  cycleWear : Nat
  totalWear : Nat
  wearHealth : Nat
  impHealth : Nat
  health : Nat
  energy : Nat
  deriving DecidableEq, Repr

/-- A defined slot: its string record and its ageing record (R4, R71). -/
structure StringUnit where
  defn : StringRec
  age : AgeRec
  deriving DecidableEq, Repr

/-- A defined cabinet: its record, its tracking record (R36) and its slots. -/
structure Cabinet where
  defn : CabinetRec
  track : Track
  strings : Vector (Option StringUnit) 4
  deriving DecidableEq, Repr

/-! ### Chapter 7: bus figures -/

/-- Security of a bus (R118). -/
inductive Security where
  | unknown
  | secure
  | deficit
  | bypassed
  deriving DecidableEq, Repr

/-- Bus figures record (R113, Table 7-1). -/
structure BusFigures where
  load : Nat
  uncertain : Bool
  uncertainCount : Nat
  online : Nat
  capacity : Nat
  required : Nat
  spare : Int
  margin : Int
  energy : Nat
  autonomy : Nat
  security : Security
  roundSeen : Bool
  deriving DecidableEq, Repr

/-- A defined bus: its record and its figures. -/
structure BusUnit where
  defn : BusRec
  fig : BusFigures
  deriving DecidableEq, Repr

/-! ### Chapter 2: the cabinet link -/

/-- Points of a cabinet (Table 2-4); the string points carry their slot. -/
inductive Point where
  | state
  | outputPower
  | stringVoltage (slot : Nat)
  | stringCurrent (slot : Nat)
  | stringTemp (slot : Nat)
  | stringCharge (slot : Nat)
  deriving DecidableEq, Repr

/-- Cabinet commands with their arguments (Table 2-4). -/
inductive CabinetCommand where
  | withdraw
  | goOnline
  | bypassPrepare
  | bypassCancel
  | bypassClose
  | bypassOpen
  | testBegin (slot : Nat)
  | testStep (level : Nat)
  | testEnd
  deriving DecidableEq, Repr

/-- Transaction classes begun by the part, with their payload (Table 2-2). -/
inductive TxClass where
  | freeze (sequence : Nat)
  | poll (point : Point)
  | command (command : CabinetCommand)
  | testRead (slot : Nat)
  deriving DecidableEq, Repr

/-- Who asked for a transaction (R34). -/
inductive Requester where
  | transfer (bus : Bus)
  | test
  | scan
  deriving DecidableEq, Repr

/-- A request at the CLC (R34). `begun` is set as its first attempt begins (R35); `credited` is cleared when its cabinet
is undefined (R14), and stays clear where a cabinet is defined there again (log 36); `counted` is cleared when the scanner
that handed it has been stopped (R59). -/
structure LinkRequest where
  requester : Requester
  cls : TxClass
  cabinet : Nat
  attempts : Nat
  begun : Bool
  address : Nat
  credited : Bool
  counted : Bool
  deriving DecidableEq, Repr

/-- The transaction in flight, with the rate and stretch timeout it began with (R8, R17). -/
structure InFlight where
  request : LinkRequest
  rate : Nat
  stretchMs : Nat
  deriving DecidableEq, Repr

/-- Link states (Table 2-5). -/
inductive LinkState where
  | idle
  | own
  | alertIn
  | recovery
  | down
  deriving DecidableEq, Repr

/-- Outcomes of an attempt that are handed on (Table 2-6); LOST is handed to nobody. -/
inductive TxOutcome where
  | ok
  | noAnswer
  | checkFail
  | stretchTimeout
  | linkDown
  | refused (code : Nat)
  deriving DecidableEq, Repr

/-- Cabinet Link Controller (sections 2.4 to 2.6). `alertRate` is the rate that the alert in reception, or else the last
one, began with (R8, R17). `stuckTimer` notes that the stuck-line timer runs; while it stands in IDLE the link is not free
(R17, R29; log 8). -/
structure Clc where
  link : LinkState
  inFlight : Option InFlight
  alertRate : Nat
  slots : Vector (Option LinkRequest) 4
  testSlot : Option LinkRequest
  scanQueue : List LinkRequest
  turn : Bus
  turnBefore : Bus
  recoveryFlag : Bool
  stuckTimer : Bool
  stretchWait : Bool
  retryDue : Option Nat
  retries : Nat
  deriving DecidableEq, Repr

/-! ### Chapter 4: the scanner -/

/-- Scanner states (section 4.3). -/
inductive ScannerState where
  | stopped
  | delayed
  | running
  deriving DecidableEq, Repr

/-- Pass period P and averaging count A (R55). -/
structure ScanTiming where
  period : Nat
  average : Nat
  deriving DecidableEq, Repr

/-- Scan entry (R52). -/
structure ScanEntry where
  cabinet : Nat
  point : Point
  skip : Nat
  combine : CombineMode
  deriving DecidableEq, Repr

/-- Quality of a reading (R66). -/
inductive Quality where
  | none
  | fresh
  | held
  | stale
  deriving DecidableEq, Repr

/-- Last outcome of an entry's poll (R63). -/
inductive LastOutcome where
  | noneYet
  | ok
  | staleFreeze
  | noAnswer
  | checkFail
  | stretchTimeout
  | linkDown
  deriving DecidableEq, Repr

/-- Reading record (R66, R70); the value is the point's, signed or unsigned (R21). -/
structure Reading where
  value : Int
  round : Nat
  quality : Quality
  held : Nat
  lastOutcome : LastOutcome
  deriving DecidableEq, Repr

/-- What the scanner keeps of an entry's successful samples over the round (R63). -/
structure Samples where
  count : Nat
  sum : Int
  greatest : Int
  least : Int
  first : Int
  deriving DecidableEq, Repr

/-- An entry of the active copy with its reading record and its samples of the round (R53). -/
structure ActiveEntry where
  entry : ScanEntry
  reading : Reading
  samples : Samples
  deriving DecidableEq, Repr

/-- Scan Scheduler (R70). `outstanding` counts the final outcomes the pass in flight still awaits (R62). -/
structure Scs where
  scanner : ScannerState
  delayDue : Option Nat
  startCause : Nat
  active : List ActiveEntry
  timing : ScanTiming
  pendingList : List ScanEntry
  pendingTiming : ScanTiming
  round : Nat
  passCount : Nat
  passSequence : Nat
  totalRounds : Nat
  outstanding : Nat
  lastTick : Option Nat
  nextTick : Option Nat
  overruns : Nat
  overrunSeen : Bool
  scanFailures : Nat
  deriving DecidableEq, Repr

/-! ### Chapter 6: the test engine -/

/-- Test phases (R98). -/
inductive TestPhase where
  | idle
  | begin
  | settle
  | search
  | measure
  | ending
  deriving DecidableEq, Repr

/-- Causes of a test's end (Table 6-4). -/
inductive TestCause where
  | none
  | cabinet
  | noData
  | lowSignal
  | request
  | returned
  | yield
  | cabinetState
  | visitClose
  | busOnBattery
  deriving DecidableEq, Repr

/-- Outcomes of a test (R98). -/
inductive TestOutcome where
  | none
  | done
  | failed
  | aborted
  deriving DecidableEq, Repr

/-- The one wait a test may hold (Table 6-1). -/
inductive TestTimer where
  | none
  | settle
  | step
  | reread
  deriving DecidableEq, Repr

/-- The request of the test engine in hand at the CLC (Table 6-1). -/
inductive TestRequest where
  | testEnd
  | testBegin
  | testStep
  | testRead
  deriving DecidableEq, Repr

/-- The string under test. -/
structure TestUnit where
  cabinet : Nat
  bus : Bus
  slot : Nat
  deriving DecidableEq, Repr

/-- Summary of the most recent test (Table 6-1). -/
structure LastTest where
  outcome : TestOutcome
  cause : TestCause
  result : Nat
  charge : Nat
  confirmed : Bool
  deriving DecidableEq, Repr

/-- Test context (R98, Table 6-1). `endNeeded` and `endHanded` are the two conditions of R110 step 5. -/
structure TestContext where
  phase : TestPhase
  permit : Option Nat
  holder : Nat
  subject : Option TestUnit
  steps : Nat
  level : Nat
  locked : Nat
  results : List Nat
  notReady : Nat
  charge : Nat
  beginHanded : Bool
  timer : TestTimer
  timerDue : Nat
  inHand : Option TestRequest
  endNeeded : Bool
  endHanded : Bool
  last : LastTest
  deriving DecidableEq, Repr

/-! ### Chapter 8: permits and transfers -/

/-- Kinds of permit (Table 8-1); a test carries its slot and step count. -/
inductive PermitKind where
  | withdraw
  | busBypass
  | stringTest (slot steps : Nat)
  deriving DecidableEq, Repr

/-- Return policies (R129). -/
inductive Policy where
  | onRequest
  | whenDone
  | yield
  | hold
  deriving DecidableEq, Repr

/-- Live permit states (R128). -/
inductive PermitState where
  | waiting
  | granted
  | returning
  | returnBlocked
  deriving DecidableEq, Repr

/-- Results of a permit's end (Table 8-10). -/
inductive PermitResult where
  | returned
  | done
  | cancelled
  | expired
  | refusedByCabinet
  | failed
  | aborted
  deriving DecidableEq, Repr

/-- Permit record (R127, Table 8-1). `yieldSequence` is the model's own: it orders the yields of a bus, as the priority lane needs
(R138; log 44). -/
structure Permit where
  id : Nat
  kind : PermitKind
  bus : Bus
  cabinet : Option Nat
  holder : Nat
  policy : Option Policy
  state : PermitState
  requestUptime : Nat
  deadline : Option Nat
  grantUptime : Option Nat
  grantSequence : Option Nat
  returnOrdered : Bool
  yielded : Bool
  yieldSequence : Option Nat
  adopted : Bool
  sent : Bool
  deriving DecidableEq, Repr

/-- Commands of the transfer queues (R138). -/
inductive TransferCommand where
  | withdraw
  | goOnline
  | prepare
  | cancel
  | close
  | openBypass
  deriving DecidableEq, Repr

/-- Entry of a transfer queue (R138): cabinet, command, and the permit it serves. -/
structure TransferEntry where
  cabinet : Nat
  command : TransferCommand
  permit : Option Nat
  deriving DecidableEq, Repr

/-- The command in hand (R138); `used` is cleared when its outcome is to be used for nothing. -/
structure InHand where
  entry : TransferEntry
  used : Bool
  deriving DecidableEq, Repr

/-- Transfer queue of one bus (R138). -/
structure TransferQueue where
  priority : List TransferEntry
  ordinary : List TransferEntry
  inHand : Option InHand
  spacingDue : Option Nat
  deriving DecidableEq, Repr

/-- States of a bus bypass sequencer (R142). -/
inductive SeqState where
  | normal
  | preparing
  | closing
  | onMaintBypass
  | returnWait
  | rePreparing
  | opening
  deriving DecidableEq, Repr

/-- A cabinet of the prepared set (R142): whether its PREPARE was handed to the CLC, and accepted. -/
structure Prepared where
  cabinet : Nat
  handed : Bool
  accepted : Bool
  deriving DecidableEq, Repr

/-- Bus bypass sequencer (R142). -/
structure Sequencer where
  state : SeqState
  orphan : Bool
  prepared : List Prepared
  syncDue : Option Nat
  transferDue : Option Nat
  closeHanded : Bool
  returnSince : Option Nat
  deriving DecidableEq, Repr

/-- Permit Arbiter (R127, R138, R142). -/
structure Par where
  permits : List Permit
  nextId : Nat
  grants : Nat
  queues : Vector TransferQueue 4
  seqs : Vector Sequencer 4
  deriving DecidableEq, Repr

/-! ### Chapter 9: service visits -/

/-- Levels of authority (Table 9-1), coded 0..3. -/
inductive Level where
  | observe
  | operate
  | battery
  | supervise
  deriving DecidableEq, Repr

/-- Visit states (Table 9-1), coded 0..4. -/
inductive VisitState where
  | booked
  | active
  | overdue
  | closing
  | closed
  deriving DecidableEq, Repr

/-- Result of a closed visit (Table 9-1). -/
inductive VisitResult where
  | clean
  | incomplete
  deriving DecidableEq, Repr

/-- Report of a visit (Table 9-1). -/
structure Report where
  result : Option VisitResult
  mismatch : Bool
  overdue : Bool
  ended : Nat
  rehomed : Nat
  deriving DecidableEq, Repr

/-- Visit record (R149, Table 9-1). `lastOverdue` is the uptime of the last VISIT_OVERDUE raised for it (R8). -/
structure Visit where
  id : Nat
  credential : Nat
  level : Level
  scope : List Nat
  bookedStart : Nat
  duration : Nat
  sequence : Nat
  state : VisitState
  waitingLock : Bool
  activation : Option Nat
  deadline : Option Nat
  nextReminder : Option Nat
  lastOverdue : Option Nat
  actions : Nat
  expected : Option Nat
  replaced : List (Nat × Nat)
  closeDeadline : Option Nat
  closeSet : List Nat
  closeSequence : Option Nat
  report : Report
  deriving DecidableEq, Repr

/-- Visit Controller (R149, R151). The lock table names the locking visit of each cabinet, or none. -/
structure Vct where
  slots : Vector (Option Visit) 8
  locks : Vector (Option Nat) 24
  nextId : Nat
  bookings : Nat
  closes : Nat
  deriving DecidableEq, Repr

/-! ### Chapter 11: clock and stored images -/

/-- Floor Clock (R182). -/
structure Clock where
  uptime : Nat
  offset : Nat
  valid : Bool
  lastDay : Nat
  backwardMark : Bool
  deriving DecidableEq, Repr

/-- Status of an image (R185). -/
inductive ImageStatus where
  | absent
  | valid
  | corrupt
  deriving DecidableEq, Repr

/-- The header's length field (Table 11-1): a number found in the store, or the length of the n-th body the part
wrote, whose number no rule states (log 6). -/
inductive ImageLength where
  | stated (octets : Nat)
  | written (n : Nat)
  deriving DecidableEq, Repr

/-- The header's format number (R185): the one the part writes; an earlier one that lacks no fields but those of
the floor and bus records; or any other. -/
inductive ImageFormat where
  | current
  | earlier (number : Byte)
  | other (number : Byte)
  deriving DecidableEq, Repr

/-- Image header (Table 11-1). `crcMatches` says whether the CRC-16 over the body is the header's. -/
structure ImageHeader where
  length : ImageLength
  format : ImageFormat
  savedTime : Nat
  crcMatches : Bool
  deriving DecidableEq, Repr

/-- The floor record as an image holds it: a field an earlier format lacks is absent (R185). -/
structure FloorImage where
  linkRate : Option Nat
  stretchMs : Option Nat
  unreachableThreshold : Option Nat
  staleRounds : Option Nat
  closeTimeoutMin : Option Nat
  reminderMin : Option Nat
  startScanDelay : Option (Option Nat)
  deriving DecidableEq, Repr

/-- A bus record as an image holds it (R185). -/
structure BusImage where
  reserve : Option Nat
  headroom : Option Nat
  minAutonomy : Option Nat
  spacing : Option Nat
  syncTimeout : Option Nat
  transferTimeout : Option Nat
  deriving DecidableEq, Repr

/-- A cabinet record with the string records of its defined slots, as an image holds them. -/
structure CabinetImage where
  defn : CabinetRec
  strings : Vector (Option StringRec) 4
  deriving DecidableEq, Repr

/-- Body of the configuration image (R185). -/
structure ConfigBody where
  floor : FloorImage
  buses : Vector (Option BusImage) 4
  cabinets : Vector (Option CabinetImage) 24
  list : List ScanEntry
  timing : ScanTiming
  deriving DecidableEq, Repr

/-- A string's record in the ageing image: every field of Table 5-1 but those R95 sets at a start. -/
structure AgeImage where
  cabinet : Nat
  slot : Nat
  calendarWear : Nat
  cycleCharge : Nat
  lastTemperature : Option Nat
  baseline : Nat
  lastImpedance : Nat
  lastTest : Option Stamp
  window : List Nat
  boundaryWear : Nat
  remainingDays : Nat
  history : List DischargeRec
  ageingLost : Bool
  tempUnknown : Bool
  baselinePending : Bool
  dueFlagged : Bool
  impFlagged : Bool
  deriving DecidableEq, Repr

/-- An image of the store: header and body (Table 11-1). -/
structure StoredImage (β : Type) where
  header : ImageHeader
  body : β
  deriving DecidableEq, Repr

/-- Save state of an image (R186), with the snapshot being written and whether a further save is pending. -/
inductive SaveState (β : Type) where
  | idle
  | saving (snapshot : StoredImage β) (again : Bool)
  deriving DecidableEq, Repr

/-- Image Store (section 11.2). -/
structure Ims where
  config : StoredImage ConfigBody
  ageing : StoredImage (List AgeImage)
  configStatus : ImageStatus
  ageingStatus : ImageStatus
  configSave : SaveState ConfigBody
  ageingSave : SaveState (List AgeImage)
  deriving DecidableEq, Repr

/-! ### Chapter 10: host link and notices -/

/-- A good frame (Table 10-2). -/
structure Frame where
  kind : Byte
  tag : Byte
  body : List Byte
  deriving DecidableEq, Repr

/-- The receiver (R169): hunting, waiting for the LEN octet, or storing octets with a count still expected. -/
inductive Receiver where
  | hunting
  | awaitingLength
  | inFrame (octets : List Byte) (expected : Nat)
  deriving DecidableEq, Repr

/-- What follows the end of the reply in progress: nothing, a CLOSED visit leaves the table (R165), or the wait
for a warm start (R188). -/
inductive AfterReply where
  | nothing
  | dropVisit (slot id : Nat)
  | restart
  deriving DecidableEq, Repr

/-- Receiver and transmitter of the Host Link Controller (R169 to R171, R177). `reply` holds the octets of the
reply in progress on HTX. -/
structure HostLine where
  receiver : Receiver
  queue : List Frame
  busy : List (Byte × Byte)
  reply : Option (List Byte)
  afterReply : AfterReply
  restartWaiting : Bool
  framingErrors : Nat
  dropped : Nat
  rateCode : Nat
  deriving DecidableEq, Repr

/-- Notice kinds (Table 10-7). -/
inductive NoticeKind where
  | cabinetState
  | cabinetUnreachable
  | cabinetRecovered
  | orphanCabinet
  | orphanBypass
  | busDeficit
  | busSecure
  | loadUncertain
  | permitGranted
  | permitExpired
  | permitYielded
  | permitEnded
  | returnBlocked
  | bypassDone
  | bypassFailed
  | testDone
  | testAborted
  | testFailed
  | serviceDue
  | impedanceHigh
  | ageingLost
  | rechargeLong
  | visitActive
  | visitOverdue
  | visitClosed
  | linkStuck
  | linkDown
  | linkUp
  | scanOverrun
  | scanRunning
  | startup
  | clockBackward
  | storeFault
  deriving DecidableEq, Repr

/-- Notice record (R178, Table 10-8). The bus is coded 1..4, and 0 stands for none in every subject field. -/
structure Notice where
  kind : NoticeKind
  stamp : Stamp
  bus : Nat
  cabinet : Nat
  slot : Nat
  permit : Nat
  visit : Nat
  value : Nat
  result : Nat
  deriving DecidableEq, Repr

/-- Notice queue, class mask, overflow flag and ATTNN (R179, R180); `attention` is true while ATTNN is low. -/
structure Notices where
  queue : List Notice
  mask : Byte
  overflow : Bool
  attention : Bool
  deriving DecidableEq, Repr

/-! ### Signals inside a command -/

/-- How an overlay ended, beside a result (R43 to R45): with a reported mode, or by its deadline. -/
inductive OverlayCause where
  | mode (m : Mode)
  | timeout
  deriving DecidableEq, Repr

/-- Overlay results handed to the PAR (R42 to R45). -/
inductive OverlayResult where
  | withdrawn (m : Mode)
  | withdrawFailed (cause : OverlayCause)
  | returned
  | returnFailed (cause : OverlayCause)
  | superseded
  deriving DecidableEq, Repr

/-- A signal from block to block, or the next part of a block's work, not yet handed on (log 10). -/
inductive Task where
  | meet
  | openHold
  | closeHold
  | recompute (bus : Bus)
  | yieldTests (bus : Bus)
  | yieldWithdrawals (bus : Bus)
  | grantAdoptions (bus : Bus)
  | grantHeads (bus : Bus)
  | returnCheck (bus : Bus)
  | trackAttempt (cabinet : Nat) (outcome : TxOutcome) (isTestRead : Bool) (word : Option StateWord)
  | trackAlert (cabinet : Nat) (word : StateWord) (cause : Nat)
  | ageingOnChange (cabinet : Nat) (old new : Tracked)
  | testOnChange (cabinet : Nat) (bus : Bus) (new : Tracked)
  | permitOnOverlay (cabinet : Nat) (result : OverlayResult)
  | permitOnChange (cabinet : Nat) (old new : Tracked)
  | bypassFoundClosed (bus : Bus)
  | permitOnFlags (cabinet : Nat)
  | setOverlay (cabinet : Nat) (overlay : Overlay)
  | transferFinal (bus : Bus) (outcome : TxOutcome)
  | testFinal (outcome : TxOutcome) (reading : Option TestReadReply)
  | scanFinal (request : LinkRequest) (outcome : TxOutcome) (echo : Nat) (value : BitVec 32)
  | linkIdle (low : Bool)
  | drainDown
  | recoveryEnd (atExpiry after : LineLevels)
  | testAbort (cause : TestCause)
  | testGrant (permit : Nat)
  | permitEnd (permit : Nat) (result : PermitResult)
  | testEnding
  | testIdle (bus : Bus)
  | visitPermitEnd (visit permit : Nat)
  | visitOrder (visit permit : Nat)
  | visitOrdersDone (visit : Nat) (ordered : List Nat)
  | gapAccrual (anchor : Int)
  | dayCheck
  | arrivals
  | startupNotice
  | autoScan
  deriving DecidableEq, Repr

/-- Whether the part runs, is held in cold reset by RESETN (R167), or has no supply (R186). -/
inductive Power where
  | running
  | heldInReset
  | unpowered
  deriving DecidableEq, Repr

/-- The whole part. `pending` is the queue of commands waiting; `agenda`, `triggers`, `hold` and `freeCount` are
the model's own fields (logs 6 and 10), the rest the spec's. -/
structure State where
  pending : List Instr
  power : Power
  startCause : Nat
  floor : FloorRec
  buses : Vector (Option BusUnit) 4
  cabinets : Vector (Option Cabinet) 24
  loadedSaved : Nat
  clc : Clc
  scs : Scs
  test : TestContext
  par : Par
  vct : Vct
  ims : Ims
  clock : Clock
  host : HostLine
  notices : Notices
  agenda : List Task
  triggers : Vector Bool 4
  hold : Nat
  freeCount : Nat
  deriving DecidableEq, Repr

/-! ### Values after a start -/

/-- The CLC after every start (R26). -/
def Clc.initial : Clc :=
  { link := .idle, inFlight := none, alertRate := 0, slots := Vector.replicate 4 none, testSlot := none, scanQueue := [],
    turn := 3, turnBefore := 3, recoveryFlag := false, stuckTimer := false, stretchWait := false, retryDue := none,
    retries := 0 }

/-- The scan timing of a part without a valid configuration image (R70). -/
def ScanTiming.initial : ScanTiming := { period := 10, average := 6 }

/-- A new reading record (R70). -/
def Reading.initial : Reading := { value := 0, round := 0, quality := .none, held := 0, lastOutcome := .noneYet }

/-- No sample of the round yet (R63, R70). -/
def Samples.initial : Samples := { count := 0, sum := 0, greatest := 0, least := 0, first := 0 }

/-- An entry with a new reading record (R54, R70). -/
def ActiveEntry.new (e : ScanEntry) : ActiveEntry := { entry := e, reading := .initial, samples := .initial }

/-- The SCS after every start, with the list and timing of the configuration image (R70). -/
def Scs.initial (list : List ScanEntry) (timing : ScanTiming) : Scs :=
  { scanner := .stopped, delayDue := none, startCause := 1, active := list.map ActiveEntry.new, timing := timing,
    pendingList := list, pendingTiming := timing, round := 0, passCount := 0, passSequence := 0, totalRounds := 0,
    outstanding := 0, lastTick := none, nextTick := none, overruns := 0, overrunSeen := false, scanFailures := 0 }

/-- The test context after every start (R98, Table 6-1). The rest of the last-test summary beside outcome none is 0 and
clear (log 38). -/
def TestContext.initial : TestContext :=
  { phase := .idle, permit := none, holder := 0, subject := none, steps := 1, level := 0, locked := 0, results := [],
    notReady := 0, charge := 0, beginHanded := false, timer := .none, timerDue := 0, inHand := none,
    endNeeded := false, endHanded := false,
    last := { outcome := .none, cause := .none, result := 0, charge := 0, confirmed := false } }

/-- An empty transfer queue (R138). -/
def TransferQueue.initial : TransferQueue := { priority := [], ordinary := [], inHand := none, spacingDue := none }

/-- A sequencer after a start (R142). -/
def Sequencer.initial : Sequencer :=
  { state := .normal, orphan := false, prepared := [], syncDue := none, transferDue := none, closeHanded := false,
    returnSince := none }

/-- The PAR after every start (R127, R138, R142). -/
def Par.initial : Par :=
  { permits := [], nextId := 1, grants := 0, queues := Vector.replicate 4 .initial, seqs := Vector.replicate 4 .initial }

/-- The VCT after every start (R149, R151). -/
def Vct.initial : Vct :=
  { slots := Vector.replicate 8 none, locks := Vector.replicate 24 none, nextId := 1, bookings := 0, closes := 0 }

/-- The receiver and transmitter after every start (R177), with the rate code sampled (R167). -/
def HostLine.initial (rateCode : Nat) : HostLine :=
  { receiver := .hunting, queue := [], busy := [], reply := none, afterReply := .nothing, restartWaiting := false,
    framingErrors := 0, dropped := 0, rateCode := rateCode }

/-- The notice queue after every start, before STARTUP is queued (R177). -/
def Notices.initial : Notices := { queue := [], mask := 0xFF#8, overflow := false, attention := false }

/-- The header of an absent image (R185). -/
def ImageHeader.absent : ImageHeader :=
  { length := .stated 0xFFFF, format := .current, savedTime := 0, crcMatches := false }

/-- A floor image that lacks every field. -/
def FloorImage.empty : FloorImage :=
  { linkRate := none, stretchMs := none, unreachableThreshold := none, staleRounds := none, closeTimeoutMin := none,
    reminderMin := none, startScanDelay := none }

/-- A configuration body that describes nothing. -/
def ConfigBody.empty : ConfigBody :=
  { floor := .empty, buses := Vector.replicate 4 none, cabinets := Vector.replicate 24 none, list := [], timing := .initial }

/-- The image store with both images absent and nothing being written (R185; log 1). -/
def Ims.initial : Ims :=
  { config := { header := .absent, body := .empty }, ageing := { header := .absent, body := [] },
    configStatus := .absent, ageingStatus := .absent, configSave := .idle, ageingSave := .idle }

/-- The clock after a cold start without a valid ageing image (R182). -/
def Clock.initial : Clock := { uptime := 0, offset := 0, valid := false, lastDay := 0, backwardMark := false }

/-- The STARTUP notice of a power-on that finds both images absent (R189). -/
def Notice.firstStartup : Notice :=
  { kind := .startup, stamp := { time := 0, isUptime := true }, bus := 0, cabinet := 0, slot := 0, permit := 0,
    visit := 0, value := 0, result := 1 }

/-- The part right after reset: the end of the start-up sequence (R189) of a power-on with both images absent
(log 1). The command queue is empty. -/
def State.reset : State :=
  { pending := [], power := .running, startCause := 1, floor := .defaults, buses := Vector.replicate 4 none,
    cabinets := Vector.replicate 24 none, loadedSaved := 0, clc := .initial, scs := .initial [] .initial,
    test := .initial, par := .initial, vct := .initial, ims := .initial, clock := .initial, host := .initial 0,
    notices := { queue := [.firstStartup], mask := 0xFF#8, overflow := false, attention := true }, agenda := [],
    triggers := Vector.replicate 4 false, hold := 0, freeCount := 0 }

/-! ### The reasons a step can stop -/

/-- The manual names no condition that stops the part: no fault is ever raised (INVENTORY, Faults), which is safe. -/
inductive Fault where
  deriving DecidableEq, Repr

/-- A command without a meaning in this model. -/
inductive Refusal where
  /-- Raised by an arm of exec whose command has no meaning yet; safe. No arm gives it now. -/
  | notModelled (mnemonic : String)
  deriving DecidableEq, Repr

end Sys2Proof.Machine
end

