-- ==== Sys2Proof/Machine/Ops.lean ====
section
/-! DEFINITION. The named operations every block is written with: updates of one part of the state, cabinets, strings and
buses by their index, octet lists, notices, and the triggers and signals inside a command. -/

namespace Sys2Proof.Machine

/-! ### Updates of one part of the state -/

/-- Changes the `pending` part of the state and nothing else. -/
def State.onPending (s : State) (f : List Instr → List Instr) : State := { s with pending := f s.pending }

/-- Changes the `power` part of the state and nothing else. -/
def State.onPower (s : State) (f : Power → Power) : State := { s with power := f s.power }

/-- Changes the `startCause` part of the state and nothing else. -/
def State.onStartCause (s : State) (f : Nat → Nat) : State := { s with startCause := f s.startCause }

/-- Changes the `floor` part of the state and nothing else. -/
def State.onFloor (s : State) (f : FloorRec → FloorRec) : State := { s with floor := f s.floor }

/-- Changes the `buses` part of the state and nothing else. -/
def State.onBuses (s : State) (f : Vector (Option BusUnit) 4 → Vector (Option BusUnit) 4) : State := { s with buses := f s.buses }

/-- Changes the `cabinets` part of the state and nothing else. -/
def State.onCabinets (s : State) (f : Vector (Option Cabinet) 24 → Vector (Option Cabinet) 24) : State := { s with cabinets := f s.cabinets }

/-- Changes the `loadedSaved` part of the state and nothing else. -/
def State.onLoadedSaved (s : State) (f : Nat → Nat) : State := { s with loadedSaved := f s.loadedSaved }

/-- Changes the `clc` part of the state and nothing else. -/
def State.onClc (s : State) (f : Clc → Clc) : State := { s with clc := f s.clc }

/-- Changes the `scs` part of the state and nothing else. -/
def State.onScs (s : State) (f : Scs → Scs) : State := { s with scs := f s.scs }

/-- Changes the `test` part of the state and nothing else. -/
def State.onTest (s : State) (f : TestContext → TestContext) : State := { s with test := f s.test }

/-- Changes the `par` part of the state and nothing else. -/
def State.onPar (s : State) (f : Par → Par) : State := { s with par := f s.par }

/-- Changes the `vct` part of the state and nothing else. -/
def State.onVct (s : State) (f : Vct → Vct) : State := { s with vct := f s.vct }

/-- Changes the `ims` part of the state and nothing else. -/
def State.onIms (s : State) (f : Ims → Ims) : State := { s with ims := f s.ims }

/-- Changes the `clock` part of the state and nothing else. -/
def State.onClock (s : State) (f : Clock → Clock) : State := { s with clock := f s.clock }

/-- Changes the `host` part of the state and nothing else. -/
def State.onHost (s : State) (f : HostLine → HostLine) : State := { s with host := f s.host }

/-- Changes the `notices` part of the state and nothing else. -/
def State.onNotices (s : State) (f : Notices → Notices) : State := { s with notices := f s.notices }

/-- Changes the `agenda` part of the state and nothing else. -/
def State.onAgenda (s : State) (f : List Task → List Task) : State := { s with agenda := f s.agenda }

/-- Changes the `triggers` part of the state and nothing else. -/
def State.onTriggers (s : State) (f : Vector Bool 4 → Vector Bool 4) : State := { s with triggers := f s.triggers }

/-- Changes the `hold` part of the state and nothing else. -/
def State.onHold (s : State) (f : Nat → Nat) : State := { s with hold := f s.hold }

/-- Changes the `freeCount` part of the state and nothing else. -/
def State.onFreeCount (s : State) (f : Nat → Nat) : State := { s with freeCount := f s.freeCount }

/-! ### Cabinets, slots and buses -/

/-- The cabinet indices 1..24 (section 0.6). -/
def cabinetIndices : List Nat := List.range' 1 24

/-- The slots 1..4 of a cabinet. -/
def slotIndices : List Nat := [1, 2, 3, 4]

/-- The buses A..D. -/
def busList : List Bus := [0, 1, 2, 3]

/-- The buses from the one after `b` going round A, B, C, D (R35, R137). -/
def busesAfter (b : Bus) : List Bus := [b + 1, b + 2, b + 3, b]

/-- The defined cabinet of index `c`, if any (R3). -/
def State.cabinet (s : State) (c : Nat) : Option Cabinet :=
  if c = 0 then none else (s.cabinets[c - 1]?).join

/-- Stores or removes the cabinet of index `c`. -/
def State.setCabinet (s : State) (c : Nat) (k : Option Cabinet) : State :=
  if c = 0 then s else s.onCabinets fun v => v.setIfInBounds (c - 1) k

/-- Changes cabinet `c` where it is defined. -/
def State.onCabinet (s : State) (c : Nat) (f : Cabinet → Cabinet) : State :=
  match s.cabinet c with
  | none => s
  | some k => s.setCabinet c (some (f k))

/-- Changes the tracking record of cabinet `c` where it is defined. -/
def State.onTrack (s : State) (c : Nat) (f : Track → Track) : State :=
  s.onCabinet c fun k => { k with track := f k.track }

/-- The defined slot `slot` of a cabinet, if any (R4). -/
def Cabinet.slot (k : Cabinet) (slot : Nat) : Option StringUnit :=
  if slot = 0 then none else (k.strings[slot - 1]?).join

/-- Stores or removes a slot of a cabinet. -/
def Cabinet.setSlot (k : Cabinet) (slot : Nat) (u : Option StringUnit) : Cabinet :=
  if slot = 0 then k else { k with strings := k.strings.setIfInBounds (slot - 1) u }

/-- The string in `slot` of cabinet `c`, if defined. -/
def State.string (s : State) (c slot : Nat) : Option StringUnit :=
  (s.cabinet c).bind fun k => k.slot slot

/-- The defined cabinets with their indices, in order of index. -/
def State.definedCabinets (s : State) : List (Nat × Cabinet) :=
  cabinetIndices.filterMap fun c => (s.cabinet c).map fun k => (c, k)

/-- The defined cabinets of a bus, in order of index. -/
def State.cabinetsOf (s : State) (b : Bus) : List (Nat × Cabinet) :=
  s.definedCabinets.filter fun p => p.2.defn.bus == b

/-- The bypass master of a bus: its cabinet with the master flag (R2, R11). -/
def State.masterOf (s : State) (b : Bus) : Option Nat :=
  ((s.cabinetsOf b).find? fun p => p.2.defn.master).map fun p => p.1

/-- The bus of cabinet `c`, where it is defined. -/
def State.busOf (s : State) (c : Nat) : Option Bus := (s.cabinet c).map fun k => k.defn.bus

/-- The defined bus `b`, if any (R2). -/
def State.bus (s : State) (b : Bus) : Option BusUnit := s.buses[b]

/-- Stores or removes bus `b`. -/
def State.setBus (s : State) (b : Bus) (u : Option BusUnit) : State := s.onBuses fun v => v.set b u

/-- The part is configured while some bus is defined (R16). -/
def State.configured (s : State) : Bool := busList.any fun b => (s.bus b).isSome

/-- The bus transfer queue of `b` (R138). -/
def State.queueOf (s : State) (b : Bus) : TransferQueue := s.par.queues[b]

/-- Changes the transfer queue of `b`. -/
def State.onQueue (s : State) (b : Bus) (f : TransferQueue → TransferQueue) : State :=
  s.onPar fun p => { p with queues := p.queues.set b (f p.queues[b]) }

/-- The bypass sequencer of `b` (R142). -/
def State.seqOf (s : State) (b : Bus) : Sequencer := s.par.seqs[b]

/-- Changes the bypass sequencer of `b`. -/
def State.onSeq (s : State) (b : Bus) (f : Sequencer → Sequencer) : State :=
  s.onPar fun p => { p with seqs := p.seqs.set b (f p.seqs[b]) }

/-! ### Codes of the named values -/

/-- Tracked state of a reported mode (R37 case 4). -/
def Mode.tracked : Mode → Tracked
  | .online => .online
  | .onBattery => .onBattery
  | .staticBypass => .staticBypass
  | .standby => .standby
  | .isolated => .isolated
  | .fault => .fault

/-- Tracked state codes (Table 3-2). -/
def Tracked.code : Tracked → Nat
  | .unknown => 0
  | .online => 1
  | .onBattery => 2
  | .staticBypass => 3
  | .standby => 4
  | .isolated => 5
  | .fault => 6
  | .withdrawing => 7
  | .returning => 8
  | .unreachable => 9

/-- The tracked state of a record: the first case of R37 that applies. -/
def Track.state (t : Track) : Tracked :=
  if t.unreachable then .unreachable
  else match t.lastWord with
    | none => .unknown
    | some w => match t.overlay with
      | some .withdrawing => .withdrawing
      | some .returning => .returning
      | none => w.mode.tracked

/-- The tracked state of cabinet `c`, if it is defined. -/
def State.tracked (s : State) (c : Nat) : Option Tracked := (s.cabinet c).map fun k => k.track.state

/-- Security codes (R113). -/
def Security.code : Security → Nat
  | .unknown => 0
  | .secure => 1
  | .deficit => 2
  | .bypassed => 3

/-- Permit kind codes (Table 8-11). -/
def PermitKind.code : PermitKind → Nat
  | .withdraw => 0
  | .busBypass => 1
  | .stringTest _ _ => 2

/-- Permit state codes (R128). -/
def PermitState.code : PermitState → Nat
  | .waiting => 0
  | .granted => 1
  | .returning => 2
  | .returnBlocked => 3

/-- Permit result codes (Table 8-10). -/
def PermitResult.code : PermitResult → Nat
  | .returned => 1
  | .done => 2
  | .cancelled => 3
  | .expired => 4
  | .refusedByCabinet => 5
  | .failed => 6
  | .aborted => 7

/-- Policy codes (Table 8-4). -/
def Policy.code : Policy → Nat
  | .onRequest => 0
  | .whenDone => 1
  | .yield => 2
  | .hold => 3

/-- Sequencer state codes (R142). -/
def SeqState.code : SeqState → Nat
  | .normal => 0
  | .preparing => 1
  | .closing => 2
  | .onMaintBypass => 3
  | .returnWait => 4
  | .rePreparing => 5
  | .opening => 6

/-- Level codes (Table 9-1). -/
def Level.code : Level → Nat
  | .observe => 0
  | .operate => 1
  | .battery => 2
  | .supervise => 3

/-- Visit state codes (Table 9-1). -/
def VisitState.code : VisitState → Nat
  | .booked => 0
  | .active => 1
  | .overdue => 2
  | .closing => 3
  | .closed => 4

/-- Test cause codes (Table 6-4). -/
def TestCause.code : TestCause → Nat
  | .none => 0
  | .cabinet => 1
  | .noData => 2
  | .lowSignal => 3
  | .request => 4
  | .returned => 5
  | .yield => 6
  | .cabinetState => 7
  | .visitClose => 8
  | .busOnBattery => 9

/-- Test phase codes (Table 10-6). -/
def TestPhase.code : TestPhase → Nat
  | .idle => 0
  | .begin => 1
  | .settle => 2
  | .search => 3
  | .measure => 4
  | .ending => 5

/-- Last-test outcome codes (Table 10-6). -/
def TestOutcome.code : TestOutcome → Nat
  | .none => 0
  | .done => 1
  | .failed => 2
  | .aborted => 3

/-- Image status codes (R176). -/
def ImageStatus.code : ImageStatus → Nat
  | .absent => 0
  | .valid => 1
  | .corrupt => 2

/-- Save state codes (R186). -/
def SaveState.code {β : Type} : SaveState β → Nat
  | .idle => 0
  | .saving _ false => 1
  | .saving _ true => 2

/-- Codes of the failed outcomes in CABINET_UNREACHABLE and the test detail word (Tables 3-3, 6-6). -/
def TxOutcome.failureCode : TxOutcome → Nat
  | .noAnswer => 1
  | .checkFail => 2
  | .stretchTimeout => 3
  | .linkDown => 4
  | _ => 0

/-- An outcome that counts as a failure at the CTK (R38). -/
def TxOutcome.isFailure : TxOutcome → Bool
  | .noAnswer | .checkFail | .stretchTimeout | .linkDown => true
  | .ok | .refused _ => false

/-! ### Time -/

/-- The present uptime (R182). -/
def State.now (s : State) : Nat := s.clock.uptime

/-- Floor time is uptime plus offset, modulo 2^32 (R182). -/
def Clock.floorTime (c : Clock) : Nat := (c.uptime + c.offset) % 2 ^ 32

/-- The time stamp of the present moment: floor time while the clock is valid, uptime with the mark otherwise (R182). -/
def Clock.stamp (c : Clock) : Stamp :=
  if c.valid then { time := c.floorTime, isUptime := false } else { time := c.uptime, isUptime := true }

/-- The next of a sequence of range 0..2^32 - 1; past its top it is the free value given (Tables 8-1 and 9-1; log 22). -/
def nextSequence (pastTop n : Nat) : Nat := if n < 2 ^ 32 - 1 then n + 1 else pastTop % 2 ^ 32

/-- A deadline held as an uptime has been reached. -/
def State.reached (s : State) (due : Option Nat) : Bool :=
  match due with
  | none => false
  | some t => decide (t ≤ s.now)

/-! ### Octets -/

/-- `n` octets of a quantity, high octet first (section 0.6). -/
def octets : Nat → Nat → List Byte
  | 0, _ => []
  | n + 1, v => BitVec.ofNat 8 (v / 256 ^ n) :: octets n v

/-- The quantity that octets carry, high octet first. -/
def quantity (bytes : List Byte) : Nat := bytes.foldl (fun v b => v * 256 + b.toNat) 0

/-- A quantity of `n` octets in two's complement; a value that does not fit is taken modulo (log 46). -/
def signedOctets (n : Nat) (v : Int) : List Byte := octets n (v % (256 ^ n : Nat)).toNat

/-- A 32-bit figure reported held at 0xFFFFFFFF. -/
def octetsHeld (v : Nat) : List Byte := octets 4 (min v 0xFFFFFFFF)

/-- A 32-bit field that reads 0xFFFFFFFF while absent. -/
def octetsOrAll (v : Option Nat) : List Byte :=
  match v with
  | none => octets 4 0xFFFFFFFF
  | some n => octets 4 n

/-- A flag at bit `n` of an octet. -/
def bit (n : Nat) (flag : Bool) : Nat := if flag then 2 ^ n else 0

/-! ### Notices (section 10.5) -/

/-- Notice kind codes (Table 10-7). -/
def NoticeKind.code : NoticeKind → Nat
  | .cabinetState => 0x11
  | .cabinetUnreachable => 0x12
  | .cabinetRecovered => 0x13
  | .orphanCabinet => 0x14
  | .orphanBypass => 0x15
  | .busDeficit => 0x21
  | .busSecure => 0x22
  | .loadUncertain => 0x23
  | .permitGranted => 0x31
  | .permitExpired => 0x32
  | .permitYielded => 0x33
  | .permitEnded => 0x34
  | .returnBlocked => 0x35
  | .bypassDone => 0x36
  | .bypassFailed => 0x37
  | .testDone => 0x41
  | .testAborted => 0x42
  | .testFailed => 0x43
  | .serviceDue => 0x51
  | .impedanceHigh => 0x52
  | .ageingLost => 0x53
  | .rechargeLong => 0x54
  | .visitActive => 0x61
  | .visitOverdue => 0x62
  | .visitClosed => 0x63
  | .linkStuck => 0x71
  | .linkDown => 0x72
  | .linkUp => 0x73
  | .scanOverrun => 0x81
  | .scanRunning => 0x82
  | .startup => 0x83
  | .clockBackward => 0x84
  | .storeFault => 0x85

/-- A notice's class is enabled: the class is the upper four bits of the kind code, and bit n of the mask enables
class n + 1 (R178, R180). -/
def NoticeKind.enabledBy (mask : Byte) (k : NoticeKind) : Bool := mask.getLsbD (k.code / 16 - 1)

/-- The condition under which ATTNN is asserted (R180). -/
def Notices.attentionDue (n : Notices) : Bool := n.queue.any fun x => x.kind.enabledBy n.mask

/-- The HLC re-examines ATTNN (R180). -/
def Notices.examine (n : Notices) : Notices := { n with attention := n.attentionDue }

/-- A notice joins the tail of the queue, or sets the overflow flag where 32 are held (R179). -/
def Notices.join (n : Notices) (x : Notice) : Notices :=
  if n.queue.length < Config.noticeCapacity then { n with queue := n.queue ++ [x] }.examine
  else { n with overflow := true }.examine

/-- The subject of a notice; a field that a kind does not use is 0, and a bus is coded 1..4 (R178). -/
structure Subject where
  bus : Nat := 0
  cabinet : Nat := 0
  slot : Nat := 0
  permit : Nat := 0
  visit : Nat := 0

/-- The subject code of a bus (R178). -/
def busCode (b : Bus) : Nat := b.val + 1

/-- Raises a notice, stamped with the present time (R178, R179). -/
def State.raise (s : State) (kind : NoticeKind) (subject : Subject) (value result : Nat) : State :=
  s.onNotices fun n => n.join
    { kind := kind, stamp := s.clock.stamp, bus := subject.bus, cabinet := subject.cabinet, slot := subject.slot,
      permit := subject.permit, visit := subject.visit, value := value % 2 ^ 32, result := result }

/-- A 16-bit two's complement figure (Table 7-2). -/
def margin16 (m : Int) : Nat := (m % 65536).toNat

/-! ### Signals and triggers inside a command (R120; log 10) -/

/-- Hands signals on, behind those already waiting to be handed on. -/
def State.push (s : State) (tasks : List Task) : State := s.onAgenda fun a => a ++ tasks

/-- Raises a recomputation trigger for a bus (R120). -/
def State.trigger (s : State) (b : Bus) : State := s.onTriggers fun v => v.set b true

/-- Raises a trigger for the bus of a defined cabinet. -/
def State.triggerCabinet (s : State) (c : Nat) : State :=
  match s.busOf c with
  | none => s
  | some b => s.trigger b

/-- Raises a trigger for every defined bus (R67, R189). -/
def State.triggerAll (s : State) : State :=
  busList.foldl (fun s b => if (s.bus b).isSome then s.trigger b else s) s

/-- The first bus with a trigger not yet met. -/
def State.firstTrigger (s : State) : Option Bus := busList.find? fun b => s.triggers[b]

end Sys2Proof.Machine
end

