-- ==== Sys2Proof/Machine/Ageing.lean ====
section
/-! DEFINITION. The Ageing Unit (spec/05): wear, health, energy, projection, string states and discharge records. -/

namespace Sys2Proof.Machine

/-! ### Calendar wear (section 5.2) -/

/-- A temperature reading in 0.1 °C, clamped to 0..700 and rounded to a whole degree (R73 steps 1 and 2). -/
def degreesOf (reading : Int) : Nat := ((max 0 (min reading 700)).toNat + 5) / 10

/-- Table 5-3. -/
def factorTable : List Nat := [256, 274, 294, 315, 338, 362, 388, 416, 446, 478]

/-- The temperature factor at a whole degree (R73 steps 3 and 4). -/
def temperatureFactor (degrees : Nat) : Nat :=
  if degrees ≤ 25 then 256
  else factorTable.getD ((degrees - 25) % 10) 0 * 2 ^ ((degrees - 25) / 10)

/-- The greatest wear a record holds (Table 5-1). -/
def wearLimit : Nat := 2 ^ 40 - 1

/-! ### Health (sections 5.3 and 5.4) -/

/-- End-of-life wear (R72). -/
def StringRec.wearAtEnd (d : StringRec) : Nat := d.designLife * 86400 * 256

/-- Wear charged for one full equivalent cycle (R72). -/
def StringRec.perCycle (d : StringRec) : Nat := d.wearAtEnd / d.cycles

/-- Cycle wear of a cycle charge (R77). -/
def cycleWearOf (d : StringRec) (charge : Nat) : Nat :=
  min (charge * 1000 / (d.capacity * 3600) * d.perCycle / 1000) wearLimit

/-- Wear health of a total wear (R78). -/
def wearHealthOf (d : StringRec) (wear : Nat) : Nat :=
  if d.wearAtEnd ≤ wear then 0 else 100 - 100 * wear / d.wearAtEnd

/-- Impedance health of a last result against a baseline (R78). -/
def impHealthOf (baseline last : Nat) : Nat :=
  if baseline = 0 ∨ last ≤ baseline then 100 else 100 - 200 * (last - baseline) / baseline

/-- Available energy of a health in a string state (R81). -/
def energyOf (d : StringRec) (health : Nat) (state : StringState) : Nat :=
  match state with
  | .testing => 0
  | .recharging => d.energy * health / 100 / 2
  | .float | .discharging => d.energy * health / 100

/-- The figures of Table 5-2 in order (R72). -/
def AgeRec.derive (d : StringRec) (a : AgeRec) : AgeRec :=
  let cycle := cycleWearOf d a.cycleCharge
  let total := min (a.calendarWear + cycle) wearLimit
  let wear := wearHealthOf d total
  let imp := impHealthOf a.baseline a.lastImpedance
  { a with cycleWear := cycle, totalWear := total, wearHealth := wear, impHealth := imp, health := min wear imp,
           energy := energyOf d (min wear imp) a.state }

/-- A notice of Table 5-7 about one string, with its value and result code. -/
structure AgeNotice where
  kind : NoticeKind
  value : Nat
  result : Nat
  deriving DecidableEq, Repr

/-- A string's record after some of the AGU's work, with the notices that work raises, in order. -/
structure AgeWork where
  age : AgeRec
  raised : List AgeNotice
  deriving DecidableEq, Repr

/-- Work that raises nothing. -/
def AgeWork.quiet (a : AgeRec) : AgeWork := { age := a, raised := [] }

/-- One piece of work after another. -/
def AgeWork.andThen (w : AgeWork) (f : AgeRec → AgeWork) : AgeWork :=
  { age := (f w.age).age, raised := w.raised ++ (f w.age).raised }

/-- The impedance flag check (R79). -/
def impedanceCheck (d : StringRec) (a : AgeRec) : AgeWork :=
  if a.impHealth ≤ d.alarmLevel ∧ a.impFlagged = false then
    { age := { a with impFlagged := true }, raised := [{ kind := .impedanceHigh, value := a.lastImpedance, result := a.impHealth }] }
  else if d.alarmLevel < a.impHealth ∧ a.impFlagged = true then .quiet { a with impFlagged := false }
  else .quiet a

/-- The health recomputation with its flag check (R72, R79). -/
def healthRecompute (d : StringRec) (a : AgeRec) : AgeWork := impedanceCheck d (a.derive d)

/-- Remaining days of a wear and a window (R84). -/
def remainingDaysOf (d : StringRec) (wear : Nat) (window : List Nat) : Nat :=
  if d.wearAtEnd ≤ wear then 0
  else if window.sum = 0 then 65535
  else min ((d.wearAtEnd - wear) * window.length / window.sum) 65535

/-- The recomputation of remaining days with the service-due check (R84). -/
def remainingRecompute (d : StringRec) (a : AgeRec) : AgeWork :=
  let days := remainingDaysOf d a.totalWear a.window
  let a := { a with remainingDays := days }
  if days ≤ d.serviceLead ∧ a.dueFlagged = false then
    { age := { a with dueFlagged := true }, raised := [{ kind := .serviceDue, value := days, result := 0 }] }
  else if d.serviceLead < days ∧ a.dueFlagged = true then .quiet { a with dueFlagged := false }
  else .quiet a

/-! ### Accruals -/

/-- Adds calendar wear at a factor up to the present uptime, without the recomputation (R74 steps 1 to 3). -/
def AgeRec.addCalendar (a : AgeRec) (now factor : Nat) : AgeRec :=
  { a with calendarWear := saturate wearLimit (a.calendarWear + factor * (now - a.lastAccrual)), lastAccrual := now }

/-- The factor of the last temperature, and 256 while it is absent (R75). -/
def AgeRec.lastFactor (a : AgeRec) : Nat :=
  match a.lastTemperature with
  | none => 256
  | some t => temperatureFactor t

/-- Every accrual but a round end's (R74, R75). -/
def accrue (now : Nat) (d : StringRec) (a : AgeRec) : AgeWork :=
  healthRecompute d { a.addCalendar now a.lastFactor with tempUnknown := a.tempUnknown || a.lastTemperature.isNone }

/-- The accrual of a round end, and the round's temperature stored (R75, R89 steps 1 and 2). -/
def accrueRound (now : Nat) (temperature : Option Int) (d : StringRec) (a : AgeRec) : AgeWork :=
  match temperature with
  | none => accrue now d a
  | some r =>
    healthRecompute d { a.addCalendar now (temperatureFactor (degreesOf r)) with
      lastTemperature := some (degreesOf r), tempUnknown := false }

/-- The charge of a round for a counter base and a reading (R76). -/
def roundCharge (base : Option Nat) (reading : Nat) : Nat :=
  match base with
  | none => 0
  | some b => if 2 ^ 31 < (reading + (2 ^ 32 - b)) % 2 ^ 32 then 0 else (reading + (2 ^ 32 - b)) % 2 ^ 32

/-- The charge of the round, and the record with Qc and the counter base moved (R76). -/
def AgeRec.takeCharge (a : AgeRec) (reading : Option Int) : Nat × AgeRec :=
  match reading with
  | none => (0, a)
  | some r =>
    let q := roundCharge a.counterBase r.toNat
    (q, { a with cycleCharge := saturate (2 ^ 48 - 1) (a.cycleCharge + q), counterBase := some r.toNat })

/-! ### Discharge records (section 5.6) -/

/-- Applies a change to the newest record of a history, if there is one. -/
def onNewest (h : List DischargeRec) (f : DischargeRec → DischargeRec) : List DischargeRec :=
  match h.getLast? with
  | none => []
  | some r => h.dropLast ++ [f r]

/-- A record is open or awaits close (R86). -/
def DischargeRec.live (r : DischargeRec) : Bool := r.isOpen || r.awaitingClose

/-- The end of a discharge or test fixes the duration; the record then awaits close (R86). -/
def DischargeRec.endAt (r : DischargeRec) (now : Nat) : DischargeRec :=
  if r.isOpen then { r with duration := now - r.openedAt, isOpen := false, awaitingClose := true } else r

/-- A record closed at once (R86). -/
def DischargeRec.closeAt (r : DischargeRec) (now : Nat) : DischargeRec := { r.endAt now with awaitingClose := false }

/-- A new record, open (R86). -/
def DischargeRec.new (kind : DischargeKind) (c : Clock) : DischargeRec :=
  { kind := kind, start := c.stamp.time, startIsUptime := c.stamp.isUptime, openedAt := c.uptime, duration := 0,
    charge := 0, minVoltage := none, isOpen := true, awaitingClose := false, cutByStart := false }

/-- A record joins the history as its newest; of nine the oldest is dropped (R86). -/
def joinHistory (h : List DischargeRec) (r : DischargeRec) : List DischargeRec :=
  if 8 ≤ h.length then (h ++ [r]).drop (h.length - 7) else h ++ [r]

/-- The round's work on the newest record: the charge credited, the minimum voltage, the close (R89 steps 4, 5). -/
def DischargeRec.credit (r : DischargeRec) (charge : Nat) (voltage : Option Int) : DischargeRec :=
  if r.live then
    let low := match voltage, r.minVoltage with
      | none, m => m
      | some v, none => some (min v.toNat 65534)
      | some v, some m => some (min m (min v.toNat 65534))
    { r with charge := saturate (2 ^ 32 - 1) (r.charge + charge), minVoltage := low, awaitingClose := false }
  else r

/-! ### String states (R85 to R88) -/

/-- The events of Table 5-4 that other blocks hand the AGU. -/
inductive StringEvent where
  | dischargeStart
  | dischargeEnd
  | testBegin
  | testEnd (done : Bool)
  deriving DecidableEq, Repr

/-- A string enters DISCHARGING: a record not yet closed is closed at once, and an OUTAGE record opens (R85). -/
def AgeRec.enterDischarging (a : AgeRec) (c : Clock) : AgeRec :=
  let closed := onNewest a.history fun r =>
    { r.closeAt c.uptime with kind := if r.isOpen && r.kind == .test then .testAborted else r.kind }
  { a with state := .discharging, rechargeStart := none, rechargeExpiry := none,
           history := joinHistory closed (.new .outage c) }

/-- A string enters TESTING: a record not yet closed is closed at once, and a TEST record opens (R85). -/
def AgeRec.enterTesting (a : AgeRec) (c : Clock) : AgeRec :=
  { a with state := .testing, rechargeStart := none, rechargeExpiry := none,
           history := joinHistory (onNewest a.history (DischargeRec.closeAt · c.uptime)) (.new .test c) }

/-- A string enters RECHARGING: its open record awaits close and the recharge timer starts (R85, R87). -/
def AgeRec.enterRecharging (d : StringRec) (a : AgeRec) (c : Clock) (aborted : Bool) : AgeRec :=
  let ended := onNewest a.history fun r =>
    { r.endAt c.uptime with kind := if aborted && r.isOpen then .testAborted else r.kind }
  { a with state := .recharging, rechargeStart := some c.uptime, rechargeExpiry := some (c.uptime + d.holdHours * 3600),
           history := ended }

/-- A string returns to FLOAT: its recharge timer stops (R87, R88). -/
def AgeRec.enterFloat (a : AgeRec) : AgeRec := { a with state := .float, rechargeStart := none, rechargeExpiry := none }

/-- Table 5-4, with the health recomputation that follows each change of state (R85). -/
def stringEvent (c : Clock) (e : StringEvent) (d : StringRec) (a : AgeRec) : AgeWork :=
  match e, a.state with
  | .dischargeStart, .float => healthRecompute d (a.enterDischarging c)
  | .dischargeStart, .testing => healthRecompute d (a.enterDischarging c)
  | .dischargeStart, .recharging => healthRecompute d (a.enterDischarging c)
  | .dischargeStart, .discharging => .quiet a
  | .dischargeEnd, .discharging => healthRecompute d (a.enterRecharging d c false)
  | .dischargeEnd, .float => .quiet a
  | .dischargeEnd, .testing => .quiet a
  | .dischargeEnd, .recharging => .quiet a
  | .testBegin, .float => healthRecompute d (a.enterTesting c)
  | .testBegin, .recharging => healthRecompute d (a.enterTesting c)
  | .testBegin, .discharging => .quiet a
  | .testBegin, .testing => .quiet a
  | .testEnd done, .testing => healthRecompute d (a.enterRecharging d c (!done))
  | .testEnd _, .float => .quiet a
  | .testEnd _, .discharging => .quiet a
  | .testEnd _, .recharging => .quiet a

/-- The recharge check of a round end (R88, R89 step 7). -/
def rechargeCheck (current : Option Int) (d : StringRec) (a : AgeRec) : AgeWork :=
  match current with
  | none => .quiet a
  | some i => if a.state = .recharging ∧ -(d.floatThreshold : Int) ≤ i then healthRecompute d a.enterFloat else .quiet a

/-- The recharge hold limit expires: FLOAT, and RECHARGE_LONG with the seconds spent recharging (R88). -/
def holdExpiry (now : Nat) (d : StringRec) (a : AgeRec) : AgeWork :=
  AgeWork.andThen (healthRecompute d a.enterFloat) fun b =>
    { age := b, raised := [{ kind := .rechargeLong, value := now - a.rechargeStart.getD now, result := 0 }] }

/-- The round-end work on one string; `item` gives the value of a round-fresh item of the string (R89). -/
def roundWork (now : Nat) (temperature charge voltage current : Option Int) (d : StringRec) (a : AgeRec) : AgeWork :=
  let accrued := accrueRound now temperature d a
  let taken := accrued.age.takeCharge charge
  let credited := { taken.2 with history := onNewest taken.2.history (DischargeRec.credit · taken.1 voltage) }
  AgeWork.andThen { age := credited, raised := accrued.raised } fun b =>
    AgeWork.andThen (healthRecompute d b) (rechargeCheck current d)

/-! ### Test results, rollover, gap, replacement, seeding -/

/-- The result of a completed impedance test (R80). -/
def takeTestResult (stamp : Stamp) (result : Nat) (d : StringRec) (a : AgeRec) : AgeWork :=
  healthRecompute d
    { a with lastImpedance := result, lastTest := some stamp,
             baseline := if a.baselinePending then result else a.baseline, baselinePending := false }

/-- The day's wear joins the daily window; of nine figures the oldest is dropped (R83). -/
def AgeRec.pushDay (a : AgeRec) : AgeRec :=
  let window := a.window ++ [a.totalWear - a.boundaryWear]
  { a with window := window.drop (window.length - 8), boundaryWear := a.totalWear }

/-- The work of a day rollover on one string (R82). -/
def dayWork (now : Nat) (d : StringRec) (a : AgeRec) : AgeWork :=
  AgeWork.andThen (accrue now d a) fun b => remainingRecompute d b.pushDay

/-- The gap of a start on one string: accrued where the mark is set, which is cleared (R91 step 4). -/
def gapWork (gap : Nat) (d : StringRec) (a : AgeRec) : AgeWork :=
  if a.gapPending then
    healthRecompute d { a with calendarWear := saturate wearLimit (a.calendarWear + a.lastFactor * gap), gapPending := false }
  else .quiet a

/-- A new ageing record, before its recomputations (R12, R95). -/
def AgeRec.fresh (now : Nat) (lost : Bool) : AgeRec :=
  { calendarWear := 0, cycleCharge := 0, counterBase := none, lastAccrual := now, lastTemperature := none, baseline := 0,
    lastImpedance := 0, lastTest := none, window := [], boundaryWear := 0, remainingDays := 65535, history := [],
    state := .float, rechargeStart := none, rechargeExpiry := none, ageingLost := lost, tempUnknown := false,
    baselinePending := true, dueFlagged := false, impFlagged := false, gapPending := false, cycleWear := 0,
    totalWear := 0, wearHealth := 0, impHealth := 0, health := 0, energy := 0 }

/-- The record as a replacement leaves it, before the recomputations (R93 step 2). -/
def AgeRec.replaced (a : AgeRec) : AgeRec :=
  { a with calendarWear := 0, cycleCharge := 0, boundaryWear := 0, lastImpedance := 0, baseline := 0, counterBase := none,
           lastTest := none, rechargeStart := none, rechargeExpiry := none, window := [], history := [],
           baselinePending := true, dueFlagged := false, impFlagged := false, ageingLost := false, gapPending := false,
           state := .float }

/-- Both recomputations, health first (R93 step 4, R94 steps 7 and 8, R95). -/
def bothRecomputes (d : StringRec) (a : AgeRec) : AgeWork :=
  AgeWork.andThen (healthRecompute d a) (remainingRecompute d)

/-- The record as a seed leaves it (R94 steps 1 to 6). -/
def AgeRec.seeded (a : AgeRec) (now wear charge baseline : Nat) (d : StringRec) : AgeRec :=
  let b := { a with calendarWear := wear, cycleCharge := charge, baseline := baseline,
                    baselinePending := decide (baseline = 0), lastAccrual := now, ageingLost := false, gapPending := false }
  { b with boundaryWear := (b.derive d).totalWear }

/-- The record that a valid image holds, as a start loads it (R95), before its recomputations. -/
def AgeImage.load (i : AgeImage) (gapPending : Bool) : AgeRec :=
  { calendarWear := i.calendarWear, cycleCharge := i.cycleCharge, counterBase := none, lastAccrual := 0,
    lastTemperature := i.lastTemperature, baseline := i.baseline, lastImpedance := i.lastImpedance,
    lastTest := i.lastTest, window := i.window, boundaryWear := i.boundaryWear, remainingDays := i.remainingDays,
    history := i.history.map fun r =>
      if r.live then { r with isOpen := false, awaitingClose := false, cutByStart := true } else r,
    state := .float, rechargeStart := none, rechargeExpiry := none, ageingLost := i.ageingLost,
    tempUnknown := i.tempUnknown, baselinePending := i.baselinePending, dueFlagged := i.dueFlagged,
    impFlagged := i.impFlagged, gapPending := gapPending, cycleWear := 0, totalWear := 0, wearHealth := 0,
    impHealth := 0, health := 0, energy := 0 }

/-- The record as an image holds it: an open record with the duration elapsed up to the save (R86, R95). -/
def AgeRec.image (a : AgeRec) (cabinet slot now : Nat) : AgeImage :=
  { cabinet := cabinet, slot := slot, calendarWear := a.calendarWear, cycleCharge := a.cycleCharge,
    lastTemperature := a.lastTemperature, baseline := a.baseline, lastImpedance := a.lastImpedance,
    lastTest := a.lastTest, window := a.window, boundaryWear := a.boundaryWear, remainingDays := a.remainingDays,
    history := a.history.map fun r => if r.isOpen then { r with duration := now - r.openedAt } else r,
    ageingLost := a.ageingLost, tempUnknown := a.tempUnknown, baselinePending := a.baselinePending,
    dueFlagged := a.dueFlagged, impFlagged := a.impFlagged }

/-! ### The unit's work on the state -/

/-- Raises a string's notices in order, with the cabinet, its bus and the slot as subject (Table 5-7). -/
def State.raiseAge (s : State) (b : Bus) (c slot : Nat) (raised : List AgeNotice) : State :=
  raised.foldl (fun s n => s.raise n.kind { bus := busCode b, cabinet := c, slot := slot } n.value n.result) s

/-- The AGU's work on one defined string: the record stored, its notices raised, and a recomputation trigger for the
bus where the string's state or available energy changed (R81). -/
def State.ageString (s : State) (c slot : Nat) (f : StringRec → AgeRec → AgeWork) : State :=
  match s.cabinet c with
  | none => s
  | some k => match k.slot slot with
    | none => s
    | some u =>
      let w := f u.defn u.age
      let s := s.setCabinet c (some (k.setSlot slot (some { u with age := w.age })))
      let s := s.raiseAge k.defn.bus c slot w.raised
      if w.age.energy = u.age.energy ∧ w.age.state = u.age.state then s else s.trigger k.defn.bus

/-- Work on every slot of a cabinet, in order of slot. -/
def State.forSlots (s : State) (c : Nat) (f : State → Nat → Nat → State) : State :=
  slotIndices.foldl (fun s slot => f s c slot) s

/-- Work on every slot of the floor, in order of cabinet and then slot. -/
def State.forStrings (s : State) (f : State → Nat → Nat → State) : State :=
  cabinetIndices.foldl (fun s c => s.forSlots c f) s

/-- A calendar accrual of every defined string (R74). -/
def State.accrueAll (s : State) : State := s.forStrings fun s c slot => s.ageString c slot (accrue s.now)

/-- The round-end work of every defined string; `item` gives a round-fresh value of a cabinet's point (R89). -/
def State.ageingRoundEnd (s : State) (item : Nat → Point → Option Int) : State :=
  s.forStrings fun s c slot => s.ageString c slot
    (roundWork s.now (item c (.stringTemp slot)) (item c (.stringCharge slot)) (item c (.stringVoltage slot))
      (item c (.stringCurrent slot)))

/-- A discharge start or end for every defined string of a cabinet, as its tracked state enters or leaves
ON_BATTERY (R49, R85). -/
def State.ageingOnChange (s : State) (c : Nat) (old new : Tracked) : State :=
  if new = .onBattery then s.forSlots c fun s c slot => s.ageString c slot (stringEvent s.clock .dischargeStart)
  else if old = .onBattery then s.forSlots c fun s c slot => s.ageString c slot (stringEvent s.clock .dischargeEnd)
  else s

/-- The gap accrual of every string that has the mark (R91, R92): `anchor` is the floor time of the start. -/
def State.gapAccrual (s : State) (anchor : Int) : State :=
  let gap := anchor - (s.loadedSaved : Int)
  let s := if gap < 0 then s.raise .clockBackward {} (min (-gap).toNat (2 ^ 32 - 1)) 1 else s
  s.forStrings fun s c slot => s.ageString c slot (gapWork (min gap.toNat 31622400))

/-- The saved floor time of an ageing image save (R90). -/
def State.savedTime (s : State) : Nat :=
  if s.clock.valid then s.clock.floorTime
  else if s.loadedSaved ≠ 0 then (s.loadedSaved + s.now) % 2 ^ 32
  else 0

end Sys2Proof.Machine
end

