-- ==== Sys2Proof/Machine/ImageStore.lean ====
section
/-! DEFINITION. The Image Store (spec/11 section 11.2): statuses, snapshots, save states and the ends of writes. -/

namespace Sys2Proof.Machine

/-- The length a header states; a body the part wrote has a length no rule states, within the image's range (log 6). -/
def ImageLength.octets (limit : Nat) : ImageLength → Nat
  | .stated n => n
  | .written n => 1 + Config.freeBodyLength n % limit

/-- A format number that a start accepts (R185). -/
def ImageFormat.accepted : ImageFormat → Bool
  | .current | .earlier _ => true
  | .other _ => false

/-- The status a start finds for an image (R185). -/
def ImageHeader.status (h : ImageHeader) (limit : Nat) : ImageStatus :=
  if h.length.octets limit = 0 ∨ h.length.octets limit = 0xFFFF then .absent
  else if h.length.octets limit ≤ limit ∧ h.format.accepted = true ∧ h.crcMatches = true then .valid
  else .corrupt

/-- The header of a snapshot the part writes (Table 11-1). -/
def ImageHeader.ofSave (n savedTime : Nat) : ImageHeader :=
  { length := .written n, format := .current, savedTime := savedTime, crcMatches := true }

/-- The floor record as an image holds it. -/
def FloorRec.image (f : FloorRec) : FloorImage :=
  { linkRate := some f.linkRate, stretchMs := some f.stretchMs, unreachableThreshold := some f.unreachableThreshold,
    staleRounds := some f.staleRounds, closeTimeoutMin := some f.closeTimeoutMin, reminderMin := some f.reminderMin,
    startScanDelay := some f.startScanDelay }

/-- A floor image as loaded: a field it lacks takes its default (R185, Table 1-1). -/
def FloorImage.load (i : FloorImage) : FloorRec :=
  let d := FloorRec.defaults
  { linkRate := i.linkRate.getD d.linkRate, stretchMs := i.stretchMs.getD d.stretchMs,
    unreachableThreshold := i.unreachableThreshold.getD d.unreachableThreshold,
    staleRounds := i.staleRounds.getD d.staleRounds, closeTimeoutMin := i.closeTimeoutMin.getD d.closeTimeoutMin,
    reminderMin := i.reminderMin.getD d.reminderMin, startScanDelay := i.startScanDelay.getD d.startScanDelay }

/-- A bus record as an image holds it. -/
def BusRec.image (b : BusRec) : BusImage :=
  { reserve := some b.reserve, headroom := some b.headroom, minAutonomy := some b.minAutonomy, spacing := some b.spacing,
    syncTimeout := some b.syncTimeout, transferTimeout := some b.transferTimeout }

/-- A bus image as loaded: a field it lacks takes its default (R185, Table 1-2). -/
def BusImage.load (i : BusImage) : BusRec :=
  let d := BusRec.defaults
  { reserve := i.reserve.getD d.reserve, headroom := i.headroom.getD d.headroom,
    minAutonomy := i.minAutonomy.getD d.minAutonomy, spacing := i.spacing.getD d.spacing,
    syncTimeout := i.syncTimeout.getD d.syncTimeout, transferTimeout := i.transferTimeout.getD d.transferTimeout }

/-- A cabinet as an image holds it. -/
def Cabinet.image (k : Cabinet) : CabinetImage :=
  { defn := k.defn, strings := k.strings.map fun o => o.map fun u => u.defn }

/-- The body of a configuration image taken now: the records, the pending list and its timing (R185). -/
def State.configBody (s : State) : ConfigBody :=
  { floor := s.floor.image, buses := s.buses.map fun o => o.map fun u => u.defn.image,
    cabinets := s.cabinets.map fun o => o.map Cabinet.image, list := s.scs.pendingList, timing := s.scs.pendingTiming }

/-- The body of an ageing image taken now: the record of every defined string (R185). -/
def State.ageingBody (s : State) : List AgeImage :=
  s.definedCabinets.flatMap fun p => slotIndices.filterMap fun slot =>
    (p.2.slot slot).map fun u => u.age.image p.1 slot s.now

/-- A snapshot of the configuration image is taken and its writing begins (R186), also where no bus is defined any more
(log 42). -/
def State.beginConfigSave (s : State) : State :=
  let snapshot := { header := ImageHeader.ofSave s.freeCount 0, body := s.configBody }
  (s.onIms fun i => { i with configSave := .saving snapshot false }).onFreeCount (· + 1)

/-- Every string is accrued, a snapshot of the ageing image is taken, and its writing begins (R74, R90, R186). -/
def State.beginAgeingSave (s : State) : State :=
  let s := s.accrueAll
  let snapshot := { header := ImageHeader.ofSave s.freeCount s.savedTime, body := s.ageingBody }
  (s.onIms fun i => { i with ageingSave := .saving snapshot false }).onFreeCount (· + 1)

/-- A save state with one further save pending (R186). -/
def SaveState.coalesce {β : Type} : SaveState β → SaveState β
  | .idle => .idle
  | .saving snapshot _ => .saving snapshot true

/-- A save of the configuration image is requested; after a RESTART reply none is taken (R186, R188). -/
def State.requestConfigSave (s : State) : State :=
  if s.host.restartWaiting then s
  else match s.ims.configSave with
    | .idle => s.beginConfigSave
    | .saving _ _ => s.onIms fun i => { i with configSave := i.configSave.coalesce }

/-- A save of the ageing image is requested; after a RESTART reply none is taken (R186, R188). -/
def State.requestAgeingSave (s : State) : State :=
  if s.host.restartWaiting then s
  else match s.ims.ageingSave with
    | .idle => s.beginAgeingSave
    | .saving _ _ => s.onIms fun i => { i with ageingSave := i.ageingSave.coalesce }

/-- An image whose header does not match its body. -/
def StoredImage.broken {β : Type} (i : StoredImage β) : StoredImage β := { i with header := { i.header with crcMatches := false } }

/-- STORE_FAULT with the image's length (R186). -/
def State.raiseStoreFault (s : State) (h : ImageHeader) (limit result : Nat) : State :=
  s.raise .storeFault {} (h.length.octets limit) result

/-- The write of the configuration image ends, with the result of its read-back; a pending save takes its snapshot now,
whatever is defined (R186; log 42). -/
def State.configWriteEnd (s : State) (ok : Bool) : State :=
  match s.ims.configSave with
  | .idle => s
  | .saving snapshot again =>
    let s := s.onIms fun i =>
      { i with config := if ok then snapshot else snapshot.broken, configStatus := if ok then .valid else .corrupt, configSave := .idle }
    let s := if ok then s else s.raiseStoreFault snapshot.header Config.configImageMax 1
    if again then s.beginConfigSave else s

/-- The write of the ageing image ends, with the result of its read-back (R186). -/
def State.ageingWriteEnd (s : State) (ok : Bool) : State :=
  match s.ims.ageingSave with
  | .idle => s
  | .saving snapshot again =>
    let s := s.onIms fun i =>
      { i with ageing := if ok then snapshot else snapshot.broken, ageingStatus := if ok then .valid else .corrupt, ageingSave := .idle }
    let s := if ok then s else s.raiseStoreFault snapshot.header Config.ageingImageMax 2
    if again then s.beginAgeingSave else s

/-- A cold start, or the loss of supply, ends the writes in progress: their images no longer match (R186). -/
def Ims.cut (i : Ims) : Ims :=
  { i with
    config := match i.configSave with
      | .idle => i.config
      | .saving snapshot _ => snapshot.broken,
    ageing := match i.ageingSave with
      | .idle => i.ageing
      | .saving snapshot _ => snapshot.broken,
    configSave := .idle, ageingSave := .idle }

/-- No image write is in progress or pending (R188). -/
def Ims.quiet (i : Ims) : Bool := i.configSave.code == 0 && i.ageingSave.code == 0

end Sys2Proof.Machine
end

