-- ==== Sys2Proof/Machine/Clock.lean ====
section
/-! DEFINITION. The Floor Clock (spec/11 section 11.1): floor time, SET_TIME's steps and the day check. -/

namespace Sys2Proof.Machine

/-- The floor day number (R82). -/
def Clock.day (c : Clock) : Nat := c.floorTime / 86400

/-- The offset that makes the floor time equal t (R183 step 1). -/
def Clock.setFloor (c : Clock) (t : Nat) : Clock :=
  { c with offset := (t + (2 ^ 32 - c.uptime % 2 ^ 32)) % 2 ^ 32, valid := true, backwardMark := false }

/-- A day rollover: every string in order, then an ageing image save (R82). -/
def State.dayRollover (s : State) : State :=
  (s.forStrings fun s c slot => s.ageString c slot (dayWork s.now)).requestAgeingSave

/-- The day check (R184). -/
def State.dayCheck (s : State) : State :=
  if s.clock.valid = false then s
  else
    let day := s.clock.day
    if s.clock.lastDay = 0 then s.onClock fun c => { c with lastDay := day }
    else if s.clock.lastDay < day then (s.onClock fun c => { c with lastDay := day }).dayRollover
    else if day < s.clock.lastDay ∧ s.clock.backwardMark = false then
      (s.onClock fun c => { c with backwardMark := true }).raise .clockBackward {} (s.clock.lastDay - day) 2
    else s

/-- SET_TIME with a floor time t of at least 1 (R183 steps 1 to 4). -/
def State.setTime (s : State) (t : Nat) : State :=
  let gap := if s.clock.valid = false ∧ s.loadedSaved ≠ 0 then [Task.gapAccrual ((t : Int) - s.now), .meet] else []
  (s.onClock fun c => c.setFloor t).push (gap ++ [.dayCheck, .meet, .arrivals, .meet])

/-- The clock after a cold start (R182). -/
def Clock.cold (savedTime : Nat) : Clock :=
  { uptime := 0, offset := 0, valid := false, lastDay := savedTime / 86400, backwardMark := false }

/-- The clock after a warm start (R182). -/
def Clock.warm (c : Clock) : Clock :=
  { uptime := 0, offset := if c.valid then c.floorTime else 0, valid := c.valid, lastDay := c.lastDay, backwardMark := false }

end Sys2Proof.Machine
end

