-- ==== Sys2Proof/Machine/Flags.lean ====
section
/-! DEFINITION. Check octets and CRCs of both links, the state word and its flags, and the codes that travel on the
cabinet link (Tables 2-1 to 2-4). -/

namespace Sys2Proof.Machine

/-! ### Checks -/

/-- One bit of the CRC-8 of R19: polynomial 0x07, most significant bit first. -/
def crc8Bit (c : Byte) : Byte := if c.msb then (c <<< 1) ^^^ 0x07#8 else c <<< 1

/-- One octet of the CRC-8 of R19. -/
def crc8Octet (c b : Byte) : Byte := (List.range 8).foldl (fun c _ => crc8Bit c) (c ^^^ b)

/-- The check octet of R19: CRC-8, initial value 0x00, no reflection, no final inversion. -/
def crc8 (bytes : List Byte) : Byte := bytes.foldl crc8Octet 0x00#8

/-- One bit of the CRC-16 of R168: polynomial 0x1021, most significant bit first. -/
def crc16Bit (c : BitVec 16) : BitVec 16 := if c.msb then (c <<< 1) ^^^ 0x1021#16 else c <<< 1

/-- One octet of the CRC-16 of R168. -/
def crc16Octet (c : BitVec 16) (b : Byte) : BitVec 16 :=
  (List.range 8).foldl (fun c _ => crc16Bit c) (c ^^^ (b.setWidth 16 <<< 8))

/-- The CRC of R168: initial value 0xFFFF, no reflection, no final inversion. -/
def crc16 (bytes : List Byte) : BitVec 16 := bytes.foldl crc16Octet 0xFFFF#16

/-! ### The state word (Table 2-3) -/

/-- The mode of a state word's bits 2..0; 6 and 7 are malformed (R24). -/
def Mode.ofBits : Nat → Option Mode
  | 0 => some .online
  | 1 => some .onBattery
  | 2 => some .staticBypass
  | 3 => some .standby
  | 4 => some .isolated
  | 5 => some .fault
  | _ => none

/-- The mode field of a state word (Table 2-3). -/
def Mode.bits : Mode → Nat
  | .online => 0
  | .onBattery => 1
  | .staticBypass => 2
  | .standby => 3
  | .isolated => 4
  | .fault => 5

/-- A received state word; none where it is malformed (R24). Bit 7 is disregarded. -/
def StateWord.ofByte (b : Byte) : Option StateWord :=
  (Mode.ofBits (b.toNat % 8)).map fun m =>
    { mode := m, syncOk := b.getLsbD 3, bypassSourceOk := b.getLsbD 4, bypassClosed := b.getLsbD 5,
      testActive := b.getLsbD 6 }

/-- The octet of a kept state word, bit 7 as 0 (Table 2-3). -/
def StateWord.toByte (w : StateWord) : Byte :=
  BitVec.ofNat 8 (w.mode.bits + bit 3 w.syncOk + bit 4 w.bypassSourceOk + bit 5 w.bypassClosed + bit 6 w.testActive)

/-- The flags whose change is handed to the PAR (R50): SYNC_OK, BYPASS_SOURCE_OK, BYPASS_CLOSED. -/
def StateWord.flagsDiffer (old : Option StateWord) (new : StateWord) : Bool :=
  match old with
  | none => true
  | some w => w.syncOk != new.syncOk || w.bypassSourceOk != new.bypassSourceOk || w.bypassClosed != new.bypassClosed

/-! ### Codes of Tables 2-1 and 2-4 -/

/-- The point code of a point (Table 2-4). -/
def Point.code : Point → Nat
  | .state => 0x00
  | .outputPower => 0x10
  | .stringVoltage s => 0x20 + s
  | .stringCurrent s => 0x30 + s
  | .stringTemp s => 0x40 + s
  | .stringCharge s => 0x50 + s

/-- The point a code names; none where the code is not of Table 2-4. -/
def Point.ofCode (code : Nat) : Option Point :=
  if code = 0x00 then some .state
  else if code = 0x10 then some .outputPower
  else if 1 ≤ code % 16 ∧ code % 16 ≤ 4 then
    match code / 16 with
    | 2 => some (.stringVoltage (code % 16))
    | 3 => some (.stringCurrent (code % 16))
    | 4 => some (.stringTemp (code % 16))
    | 5 => some (.stringCharge (code % 16))
    | _ => none
  else none

/-- The slot of a string point (Table 2-4). -/
def Point.slot : Point → Option Nat
  | .state | .outputPower => none
  | .stringVoltage s | .stringCurrent s | .stringTemp s | .stringCharge s => some s

/-- A point's 32-bit value: signed for currents and temperatures, unsigned for powers, voltages and charges; the value of
STATE is disregarded and is 0 (R21, R63). -/
def Point.valueOf (p : Point) (v : BitVec 32) : Int :=
  match p with
  | .stringCurrent _ | .stringTemp _ => v.toInt
  | .outputPower | .stringVoltage _ | .stringCharge _ => (v.toNat : Int)
  | .state => 0

/-- Command code and argument of a cabinet command (Table 2-4). -/
def CabinetCommand.code : CabinetCommand → Nat × Nat
  | .withdraw => (0x01, 0)
  | .goOnline => (0x02, 0)
  | .bypassPrepare => (0x10, 0)
  | .bypassCancel => (0x11, 0)
  | .bypassClose => (0x12, 0)
  | .bypassOpen => (0x13, 0)
  | .testBegin slot => (0x20, slot)
  | .testStep level => (0x21, level)
  | .testEnd => (0x22, 0)

/-- The header octet of a request: its class in bits 7..5, the link address in bits 4..0 (Table 2-1). -/
def LinkRequest.header (r : LinkRequest) : Byte :=
  match r.cls with
  | .freeze _ => 0x20#8
  | .poll _ => BitVec.ofNat 8 (0x40 + r.address % 32)
  | .command _ => BitVec.ofNat 8 (0x60 + r.address % 32)
  | .testRead _ => BitVec.ofNat 8 (0x80 + r.address % 32)

/-- The request payload octets (Table 2-2). -/
def LinkRequest.payload (r : LinkRequest) : List Byte :=
  match r.cls with
  | .freeze n => octets 1 n
  | .poll p => octets 1 p.code
  | .command c => octets 1 c.code.1 ++ octets 1 c.code.2
  | .testRead slot => octets 1 slot

/-- The octets the part sends in a request part: header, payload, request check octet (R18, R19). -/
def LinkRequest.requestOctets (r : LinkRequest) : List Byte :=
  let sent := r.header :: r.payload
  sent ++ [crc8 sent]

/-- The reply check octet of R19: over the header as sent and the reply payload. -/
def LinkRequest.replyCheck (r : LinkRequest) (payload : List Byte) : Byte := crc8 (r.header :: payload)

/-- The reply payload octets of a POLL, in order (Table 2-2). -/
def pollReplyOctets (p : PollReply) : List Byte := p.stateWord :: p.echo :: octets 4 p.value.toNat

/-- The reply payload octets of a COMMAND, in order (Table 2-2). -/
def commandReplyOctets (p : CommandReply) : List Byte := [p.stateWord, p.result]

/-- The reply payload octets of a TEST_READ, in order (Table 2-2). -/
def testReadReplyOctets (p : TestReadReply) : List Byte :=
  p.ready :: octets 4 p.deltaString.toNat ++ octets 4 p.deltaShunt.toNat ++ octets 4 p.charge.toNat

/-- The lines that read low, as LINK_STUCK and LINK_DOWN give them: 1 LCK alone, 2 LDA alone, 3 both (R30). -/
def linesCode (l : LineLevels) : Nat := bit 0 l.lckLow + bit 1 l.ldaLow

end Sys2Proof.Machine
end

