-- ==== Sys2Proof/Machine/CabinetLink.lean ====
section
/-! DEFINITION. The Cabinet Link Controller (spec/02): requests, the arbiter, the endings of attempts, alerts and recovery. -/

namespace Sys2Proof.Machine

/-! ### Requests -/

/-- A request names a COMMAND (Table 2-1). -/
def LinkRequest.isCommand (r : LinkRequest) : Bool :=
  match r.cls with
  | .command _ => true
  | .freeze _ | .poll _ | .testRead _ => false

/-- A request of a class that is attempted up to three times (R33). -/
def LinkRequest.retried (r : LinkRequest) : Bool :=
  match r.cls with
  | .command _ | .testRead _ => true
  | .freeze _ | .poll _ => false

/-- A request's attempts are handed to the CTK: every class but FREEZE, while credited to a cabinet (R14, R32). -/
def LinkRequest.tracked (r : LinkRequest) : Bool :=
  match r.cls with
  | .freeze _ => false
  | .poll _ | .command _ | .testRead _ => r.credited

/-- A request is a TEST_READ, whose reply carries no state word (R23). -/
def LinkRequest.isTestRead (r : LinkRequest) : Bool :=
  match r.cls with
  | .testRead _ => true
  | .freeze _ | .poll _ | .command _ => false

/-- What an ended attempt gives besides its outcome (Table 2-6). -/
structure ReplyFields where
  word : Option StateWord
  reading : Option TestReadReply
  echo : Nat
  value : BitVec 32
  deriving DecidableEq, Repr

/-- An attempt that gives no reply fields. -/
def ReplyFields.none : ReplyFields := { word := Option.none, reading := Option.none, echo := 0, value := 0#32 }

/-- The handing of an attempt to the CTK (R32 step 1). -/
def LinkRequest.toTracker (r : LinkRequest) (o : TxOutcome) (f : ReplyFields) : List Task :=
  if r.tracked then [.trackAttempt r.cabinet o r.isTestRead f.word] else []

/-- The handing of a final outcome to the requester (R32 step 2). -/
def LinkRequest.toRequester (r : LinkRequest) (o : TxOutcome) (f : ReplyFields) : List Task :=
  match r.requester with
  | .transfer b => [.transferFinal b o]
  | .test => [.testFinal o f.reading]
  | .scan => [.scanFinal r o f.echo f.value]

/-! ### The arbiter (R35) -/

/-- The waiting transfer and test requests (R34). -/
def Clc.waiting (l : Clc) : List LinkRequest := l.slots.toList.filterMap id ++ l.testSlot.toList

/-- A request may be selected: a COMMAND whose cabinet has a different COMMAND outstanding, its first attempt begun, may
not (R35). -/
def Clc.eligible (l : Clc) (r : LinkRequest) : Bool :=
  !(r.isCommand && l.waiting.any fun q =>
    q.requester != r.requester && q.isCommand && q.cabinet == r.cabinet && q.begun)

/-- The selection among transfer slots, test slot and scan queue, with the CLC left behind (R35 steps 2 to 4). -/
def Clc.select (l : Clc) : Option (LinkRequest × Clc) :=
  match (busesAfter l.turn).find? fun b => (l.slots[b]).any l.eligible with
  | some b => (l.slots[b]).map fun r => (r, { l with slots := l.slots.set b none, turnBefore := l.turn, turn := b })
  | none => match l.testSlot.filter l.eligible with
    | some r => some (r, { l with testSlot := none })
    | none => match l.scanQueue with
      | [] => none
      | r :: rest => if l.eligible r then some (r, { l with scanQueue := rest }) else none

/-- The link address of an attempt: the cabinet's present one while the request is credited to it (R34); a request of a
cabinet that was undefined keeps its last address, also where a cabinet is defined there again (log 36). -/
def State.attemptAddress (s : State) (r : LinkRequest) : Nat :=
  match r.cls with
  | .freeze _ => 0
  | .poll _ | .command _ | .testRead _ =>
    if r.credited then ((s.cabinet r.cabinet).map fun k => k.defn.address).getD r.address else r.address

/-- The arbiter: while the link is IDLE and free and a request waits, an attempt begins (R17, R35; log 8). -/
def State.arbitrate (s : State) : State :=
  if s.clc.link = .idle ∧ s.clc.stuckTimer = false then
    match s.clc.select with
    | none => s
    | some (r, l) =>
      let flight :=
        { request := { r with address := s.attemptAddress r, begun := true }, rate := s.floor.linkRate,
          stretchMs := s.floor.stretchMs }
      s.onClc fun _ => { l with link := .own, inFlight := some flight }
  else s

/-- A request is handed in: it completes at once in DOWN, and joins its slot or queue otherwise (R31, R34). -/
def State.handIn (s : State) (r : LinkRequest) : State :=
  if s.clc.link = .down then s.push (r.toTracker .linkDown .none ++ r.toRequester .linkDown .none)
  else
    let s := match r.requester with
      | .transfer b => s.onClc fun l => { l with slots := l.slots.set b (some r) }
      | .test => s.onClc fun l => { l with testSlot := some r }
      | .scan => s.onClc fun l => { l with scanQueue := l.scanQueue ++ [r] }
    s.arbitrate

/-- A request as a block hands it in (R34). -/
def State.newRequest (s : State) (who : Requester) (cls : TxClass) (c : Nat) : LinkRequest :=
  { requester := who, cls := cls, cabinet := c, attempts := 0, begun := false,
    address := ((s.cabinet c).map fun k => k.defn.address).getD 0, credited := (s.cabinet c).isSome, counted := true }

/-- A request returns to the head of its queue; a transfer request sets the turn pointer back (R27, R33). A request of a
stopped run may so be the 130th of the scan queue (log 35). -/
def Clc.giveBack (l : Clc) (r : LinkRequest) : Clc :=
  match r.requester with
  | .transfer b => { l with slots := l.slots.set b (some r), turn := l.turnBefore }
  | .test => { l with testSlot := some r }
  | .scan => { l with scanQueue := r :: l.scanQueue }

/-! ### The end of an attempt (section 2.5) -/

/-- An attempt ended so is made again: a COMMAND or TEST_READ, not yet three times (R33). -/
def LinkRequest.again (r : LinkRequest) (o : TxOutcome) : Bool :=
  r.retried && decide (r.attempts + 1 < 3) && (o == .noAnswer || o == .checkFail || o == .stretchTimeout)

/-- The transaction in flight ends with an outcome: the request goes back for a further attempt or is final, and the
outcome is handed on (R32, R33). The link state is left to the caller. -/
def State.endAttempt (s : State) (o : TxOutcome) (f : ReplyFields) : State :=
  match s.clc.inFlight with
  | none => s
  | some t =>
    let s := s.onClc fun l => { l with inFlight := none }
    if t.request.again o then
      (s.onClc fun l => l.giveBack { t.request with attempts := t.request.attempts + 1 }).push (t.request.toTracker o f)
    else s.push (t.request.toTracker o f ++ t.request.toRequester o f)

/-- The stop of a transaction: what it ended with is handed on, then the link is IDLE (R27, R32). -/
def State.finish (s : State) (result : TxOutcome × ReplyFields) : State := (s.endAttempt result.1 result.2).push [.linkIdle false]

/-- The outcome of an ending without a reply (R18, R27, R32). -/
def attemptFailure {ρ : Type} : AttemptEnd ρ → TxOutcome
  | .notAcknowledged => .noAnswer
  | .checkNotAcknowledged | .bitMismatch | .reply _ _ => .checkFail

/-- How a POLL's reply is taken (R19, R21, R24). -/
def pollResult (r : LinkRequest) (e : AttemptEnd PollReply) : TxOutcome × ReplyFields :=
  match e with
  | .reply p check =>
    if check = r.replyCheck (pollReplyOctets p) then
      match StateWord.ofByte p.stateWord with
      | none => (.checkFail, .none)
      | some w => (.ok, { ReplyFields.none with word := some w, echo := p.echo.toNat, value := p.value })
    else (.checkFail, .none)
  | other => (attemptFailure other, .none)

/-- How a COMMAND's reply is taken (R19, R22, R24). -/
def commandResult (r : LinkRequest) (e : AttemptEnd CommandReply) : TxOutcome × ReplyFields :=
  match e with
  | .reply p check =>
    if check = r.replyCheck (commandReplyOctets p) then
      match StateWord.ofByte p.stateWord with
      | none => (.checkFail, .none)
      | some w =>
        (if p.result = 0 then .ok else .refused (min p.result.toNat 4), { ReplyFields.none with word := some w })
    else (.checkFail, .none)
  | other => (attemptFailure other, .none)

/-- How a TEST_READ's reply is taken (R19, R23). -/
def testReadResult (r : LinkRequest) (e : AttemptEnd TestReadReply) : TxOutcome × ReplyFields :=
  match e with
  | .reply p check =>
    if check = r.replyCheck (testReadReplyOctets p) ∧ p.ready.toNat ≤ 1 then
      (.ok, { ReplyFields.none with reading := some p })
    else (.checkFail, .none)
  | other => (attemptFailure other, .none)

/-- How a FREEZE ends (R20, R27). -/
def freezeResult : FreezeEnd → TxOutcome × ReplyFields
  | .sent => (.ok, .none)
  | .bitMismatch => (.checkFail, .none)

/-- The link becomes IDLE and the arbiter selects (R25 to R30, R35). Where a line still reads low once the stop has been issued,
the stuck-line timer runs and the link is not free, so that no attempt begins (R17, R29; logs 8 and 48). -/
def State.linkIdle (s : State) (low : Bool) : State :=
  if s.clc.link = .down then s
  else (s.onClc fun l => { l with link := .idle, stretchWait := false, stuckTimer := low }).arbitrate

/-! ### Alerts (R25) -/

/-- The defined cabinet that holds a link address. -/
def State.atAddress (s : State) (address : Nat) : Option Nat :=
  (s.definedCabinets.find? fun p => p.2.defn.address == address).map fun p => p.1

/-- A received alert is acknowledged as valid: class ALERT, an address, a matching check, a well-formed state word. -/
def alertWord (header stateWord cause check : Byte) : Option StateWord :=
  if 1 ≤ header.toNat ∧ header.toNat ≤ 31 ∧ check = crc8 [header, stateWord, cause] then StateWord.ofByte stateWord else none

/-- The cause handed on: outside 1..7 it is OPERATOR. -/
def alertCause (cause : Byte) : Nat := if 1 ≤ cause.toNat ∧ cause.toNat ≤ 7 then cause.toNat else 7

/-- The handing of a received alert (R25). -/
def State.alertTasks (s : State) (header stateWord cause check : Byte) : List Task :=
  match alertWord header stateWord cause check with
  | none => []
  | some w => match s.atAddress header.toNat with
    | none => []
    | some c => [.trackAlert c w (alertCause cause)]

/-! ### Recovery (R29 to R31) -/

/-- A line reads low. -/
def lineLow (l : LineLevels) : Bool := l.lckLow || l.ldaLow

/-- The stuck-line timer expires outside RECOVERY and DOWN: RECOVERY is entered, and the transaction in flight ends
NO_ANSWER (R29, R30 step 1). -/
def State.enterRecovery (s : State) (atExpiry after : LineLevels) : State :=
  let s := s.onClc fun l => { l with link := .recovery, recoveryFlag := false, stretchWait := false, stuckTimer := false }
  (s.endAttempt .noAnswer .none).push [.recoveryEnd atExpiry after]

/-- Steps 5 and 6 of the recovery procedure (R30, R31). -/
def State.recoveryEnd (s : State) (atExpiry after : LineLevels) : State :=
  let s := s.raise .linkStuck {} (linesCode atExpiry) 0
  if lineLow after then
    let s := (s.onClc fun l => { l with link := .down }).raise .linkDown {} (linesCode after) 0
    (s.onClc fun l => { l with retryDue := some (s.now + 1), retries := 0 }).push [.drainDown]
  else s.push [.linkIdle false]

/-- The next request that waits as the link goes DOWN, with the CLC left behind (R31). -/
def Clc.drain (l : Clc) : Option (LinkRequest × Clc) :=
  match (busesAfter l.turn).find? fun b => (l.slots[b]).isSome with
  | some b => (l.slots[b]).map fun r => (r, { l with slots := l.slots.set b none })
  | none => match l.testSlot with
    | some r => some (r, { l with testSlot := none })
    | none => match l.scanQueue with
      | [] => none
      | r :: rest => some (r, { l with scanQueue := rest })

/-- Completes the next waiting request with LINK_DOWN, until none waits (R31). -/
def State.drainDown (s : State) : State :=
  match s.clc.drain with
  | none => s
  | some (r, l) =>
    (s.onClc fun _ => l).push (r.toTracker .linkDown .none ++ r.toRequester .linkDown .none ++ [.drainDown])

/-- A retry of the recovery, with the lines read after its stop (R31). -/
def State.retryRecovery (s : State) (after : LineLevels) : State :=
  if lineLow after then
    s.onClc fun l => { l with retries := l.retries + 1, retryDue := some (s.now + 1) }
  else
    let s := s.raise .linkUp {} (s.clc.retries + 1) 0
    (s.onClc fun l => { l with link := .idle, retryDue := none, retries := 0 }).arbitrate

/-! ### Requests whose cabinet is undefined (R14) -/

/-- The requests of a cabinet are no longer credited to it. -/
def Clc.discredit (l : Clc) (c : Nat) : Clc :=
  let drop := fun (r : LinkRequest) => if r.cabinet = c then { r with credited := false } else r
  { l with inFlight := l.inFlight.map fun t => { t with request := drop t.request },
           slots := l.slots.map fun o => o.map drop, testSlot := l.testSlot.map drop, scanQueue := l.scanQueue.map drop }

end Sys2Proof.Machine
end

