-- ==== Sys2Proof/Machine/Scan.lean ====
section
/-! DEFINITION. The Scan Scheduler (spec/04): passes, samples, round ends, starting and stopping. -/

namespace Sys2Proof.Machine

/-! ### Samples and readings (R63 to R66) -/

/-- A successful sample joins those of the round (R63). -/
def Samples.add (m : Samples) (v : Int) : Samples :=
  if m.count = 0 then { count := 1, sum := v, greatest := v, least := v, first := v }
  else { m with count := m.count + 1, sum := m.sum + v, greatest := max m.greatest v, least := min m.least v }

/-- The combined reading of at least one sample (R65). -/
def Samples.combine (m : Samples) (mode : CombineMode) : Int :=
  match mode with
  | .mean => (2 * m.sum + m.count) / (2 * m.count)
  | .max => m.greatest
  | .min => m.least
  | .first => m.first

/-- An entry is due in round k (R61). -/
def ScanEntry.due (e : ScanEntry) (k : Nat) : Bool := k % (e.skip + 1) == 0

/-- A reading record at the end of a round without a sample for its due entry (R66). -/
def Reading.empty (r : Reading) (staleRounds : Nat) : Reading :=
  if r.quality = .none then r
  else
    let held := min (r.held + 1) 255
    { r with held := held, quality := if r.quality = .stale ∨ staleRounds ≤ held then .stale else .held }

/-- An entry's record at the end of round k (R65, R66). -/
def ActiveEntry.store (e : ActiveEntry) (k total staleRounds : Nat) : ActiveEntry :=
  if e.entry.due k then
    if e.samples.count = 0 then { e with reading := e.reading.empty staleRounds }
    else { e with reading := { e.reading with value := e.samples.combine e.entry.combine, round := total, quality := .fresh, held := 0 } }
  else e

/-- Two entries read the same point. -/
def ScanEntry.samePair (a b : ScanEntry) : Bool := a.cabinet == b.cabinet && a.point == b.point

/-- A new list with the reading records carried over by pair (R56). The round's samples are discarded. -/
def carryOver (old : List ActiveEntry) (list : List ScanEntry) : List ActiveEntry :=
  list.map fun e => match old.find? fun a => a.entry.samePair e with
    | none => .new e
    | some a => { entry := e, reading := a.reading, samples := .initial }

/-- The pending copy becomes the active copy (R56). -/
def Scs.applyPending (c : Scs) : Scs :=
  { c with active := carryOver c.active c.pendingList, timing := c.pendingTiming }

/-- The round-fresh value of a cabinet's point, as a round end delivers it (R67). -/
def State.roundFresh (s : State) (c : Nat) (p : Point) : Option Int :=
  match s.scs.active.find? fun e => e.entry.cabinet == c && e.entry.point == p with
  | none => none
  | some e => if e.reading.quality = .fresh ∧ e.reading.round = s.scs.totalRounds then some e.reading.value else none

/-! ### Passes (section 4.4) -/

/-- A pass starts: the number moves, and FREEZE and the due polls are handed to the CLC (R61). -/
def State.startPass (s : State) : State :=
  let number := (s.scs.passSequence + 1) % 256
  let due := (s.scs.active.filter fun e => e.entry.due s.scs.round).map fun e => e.entry
  let s := s.onScs fun c => { c with passSequence := number, outstanding := due.length + 1 }
  let s := s.handIn (s.newRequest .scan (.freeze number) 0)
  due.foldl (fun s e => s.handIn (s.newRequest .scan (.poll e.point) e.cabinet)) s

/-- The work of a round end (R67). -/
def State.roundEnd (s : State) : State :=
  let total := (s.scs.totalRounds + 1) % 2 ^ 32
  let oldPeriod := s.scs.timing.period
  let s := s.onScs fun c =>
    { c with totalRounds := total, active := c.active.map fun e => e.store c.round total s.floor.staleRounds }
  let s := s.onScs Scs.applyPending
  let s := s.onScs fun c =>
    { c with round := (c.round + 1) % 2 ^ 32, passCount := 0, overrunSeen := false,
             nextTick := if c.timing.period = oldPeriod then c.nextTick
               else c.lastTick.map fun t => max (t + c.timing.period) s.now }
  let s := s.ageingRoundEnd s.roundFresh
  let s := s.onBuses fun v => v.map fun o => o.map fun u => { u with fig := { u.fig with roundSeen := true } }
  s.triggerAll.push [.meet]

/-- The pass in flight has ended (R62). -/
def State.passEnd (s : State) : State :=
  let s := s.onScs fun c => { c with passCount := c.passCount + 1 }
  if s.scs.timing.average ≤ s.scs.passCount then s.roundEnd else s

/-- The last outcome that a poll's final outcome stores (R63). -/
def pollOutcome (o : TxOutcome) (echoMatches : Bool) : LastOutcome :=
  match o with
  | .ok => if echoMatches then .ok else .staleFreeze
  | .noAnswer => .noAnswer
  | .checkFail => .checkFail
  | .stretchTimeout => .stretchTimeout
  | .linkDown => .linkDown
  | .refused _ => .noneYet

/-- A poll's final outcome on the active list: sample and last outcome stored for the entry of its pair, and a failed
sample counted; an outcome of a removed entry is stored nowhere (R63, R68). -/
def Scs.judge (c : Scs) (cabinet : Nat) (p : Point) (o : TxOutcome) (echo : Nat) (value : BitVec 32) : Scs :=
  let ofPair := fun (e : ActiveEntry) => e.entry.cabinet == cabinet && e.entry.point == p
  let last := pollOutcome o (echo == c.passSequence)
  if c.active.any ofPair then
    { c with
      active := c.active.map fun e => if ofPair e then
          { e with reading := { e.reading with lastOutcome := last },
                   samples := if last = .ok then e.samples.add (p.valueOf value) else e.samples }
        else e,
      scanFailures := if last = .ok then c.scanFailures else saturate 65535 (c.scanFailures + 1) }
  else c

/-- A final outcome reaches the SCS; one of a run that was stopped is discarded (R59, R62, R63). -/
def State.scanFinal (s : State) (r : LinkRequest) (o : TxOutcome) (echo : Nat) (value : BitVec 32) : State :=
  if r.counted then
    let s := match r.cls with
      | .poll p => s.onScs fun c => c.judge r.cabinet p o echo value
      | .freeze _ | .command _ | .testRead _ => s
    let s := s.onScs fun c => { c with outstanding := c.outstanding - 1 }
    if s.scs.outstanding = 0 then s.passEnd else s
  else s

/-- A tick of the pass period (R60, R64). -/
def State.tick (s : State) : State :=
  let s := s.onScs fun c => { c with lastTick := c.nextTick, nextTick := c.nextTick.map fun t => t + c.timing.period }
  if s.scs.outstanding = 0 then s.startPass
  else
    let s := s.onScs fun c => { c with overruns := saturate 65535 (c.overruns + 1) }
    if s.scs.overrunSeen then s
    else (s.onScs fun c => { c with overrunSeen := true }).raise .scanOverrun {} s.scs.round 0

/-! ### Starting and stopping (section 4.3) -/

/-- The scanner enters RUNNING (R58). -/
def State.enterRunning (s : State) : State :=
  let s := s.onScs fun c =>
    { c with scanner := .running, delayDue := none, round := 0, passCount := 0, overrunSeen := false,
             lastTick := some s.now, nextTick := some (s.now + c.timing.period) }
  (s.raise .scanRunning {} s.scs.active.length s.scs.startCause).startPass

/-- A start of the scanner with a delay in minutes and a start cause (R57). -/
def State.orderScan (s : State) (delay cause : Nat) : State :=
  let s := s.onScs fun c => { c with startCause := cause }
  if delay = 0 then s.enterRunning
  else s.onScs fun c => { c with scanner := .delayed, delayDue := some (s.now + 60 * delay) }

/-- A stop of the scanner from its present state (R59). -/
def State.stopScan (s : State) : State :=
  match s.scs.scanner with
  | .stopped => s
  | .delayed => (s.onScs fun c => { c with scanner := .stopped, delayDue := none }).accrueAll
  | .running =>
    let s := s.onScs fun c =>
      { c.applyPending with scanner := .stopped, passCount := 0, outstanding := 0, lastTick := none, nextTick := none }
    let s := s.onClc fun l =>
      { l with scanQueue := [],
               inFlight := l.inFlight.map fun t =>
                 if t.request.requester = .scan then { t with request := { t.request with counted := false } } else t }
    s.accrueAll

/-- The entries of both copies that name an undefined point are discarded (R13, R14, R68). -/
def State.dropEntries (s : State) (gone : ScanEntry → Bool) : State :=
  s.onScs fun c =>
    { c with active := c.active.filter fun e => !gone e.entry, pendingList := c.pendingList.filter fun e => !gone e }

/-- Scanner state codes (R59). -/
def ScannerState.code : ScannerState → Nat
  | .stopped => 0
  | .delayed => 1
  | .running => 2

end Sys2Proof.Machine
end

