-- ==== Sys2Proof/Machine/TestEngine.lean ====
section
/-! DEFINITION. The Test Engine (spec/06): the phases of an impedance test, its figures, and how it ends. -/

namespace Sys2Proof.Machine

/-! ### The context (R98) -/

/-- A test is running (R98). -/
def TestPhase.running : TestPhase → Bool
  | .begin | .settle | .search | .measure => true
  | .idle | .ending => false

/-- The string record of the string under test. -/
def State.testString (s : State) : Option StringRec :=
  s.test.subject.bind fun u => (s.string u.cabinet u.slot).map fun x => x.defn

/-- Hands the CLC a request for the tested cabinet (R34, R98). -/
def State.testHand (s : State) (what : TestRequest) (cls : TxClass) : State :=
  match s.test.subject with
  | none => s
  | some u => (s.onTest fun t => { t with inHand := some what }).handIn (s.newRequest .test cls u.cabinet)

/-- Hands TEST_BEGIN for the string (R103). -/
def State.handTestBegin (s : State) : State :=
  match s.test.subject with
  | none => s
  | some u => s.testHand .testBegin (.command (.testBegin u.slot))

/-- Begins a step cycle at a level (R105). -/
def State.beginStep (s : State) (level : Nat) : State :=
  (s.onTest fun t => { t with level := level }).testHand .testStep (.command (.testStep level))

/-- Hands TEST_READ for the string (R105). -/
def State.handTestRead (s : State) : State :=
  match s.test.subject with
  | none => s
  | some u => s.testHand .testRead (.testRead u.slot)

/-- Starts the one wait of a test. -/
def State.startTestTimer (s : State) (timer : TestTimer) (seconds : Nat) : State :=
  s.onTest fun t => { t with timer := timer, timerDue := s.now + seconds }

/-- SEARCH is entered with level 1 (R104). -/
def State.enterSearch (s : State) : State := (s.onTest fun t => { t with phase := .search, timer := .none }).beginStep 1

/-- The PAR has granted a STRING_TEST permit: the context is filled and BEGIN entered (R101, R103). -/
def State.testGrant (s : State) (id : Nat) : State :=
  match s.par.permits.find? fun p => p.id == id with
  | none => s
  | some p => match p.kind, p.cabinet with
    | .stringTest slot steps, some c =>
      let s := s.onTest fun _ =>
        { TestContext.initial with phase := .begin, permit := some id, holder := p.holder,
                                   subject := some { cabinet := c, bus := p.bus, slot := slot }, steps := steps }
      if ((s.cabinet c).bind fun k => k.track.lastWord).any fun w => w.testActive then
        s.testHand .testEnd (.command .testEnd)
      else s.handTestBegin
    | _, _ => s

/-! ### Figures (R107, R108) -/

/-- The greatest impedance a result holds (R107). -/
def impedanceLimit : Nat := 99999999

/-- A measurement step's impedance in µΩ (R107). -/
def stepImpedance (deltaString shunt deltaShunt : Nat) : Nat :=
  saturate impedanceLimit ((deltaString * shunt + deltaShunt / 2) / deltaShunt)

/-- The combined result of the steps (R108). -/
def combineSteps (mode : CombineMode) (results : List Nat) : Nat :=
  match mode with
  | .mean => (2 * results.sum + results.length) / (2 * results.length)
  | .max => results.foldl max 0
  | .min => results.foldl min (results.headD 0)
  | .first => results.headD 0

/-! ### The end of a test (section 6.4) -/

/-- The outcome a cause brings (Table 6-4). -/
def TestCause.outcome : TestCause → TestOutcome
  | .none => .done
  | .cabinet | .noData | .lowSignal => .failed
  | .request | .returned | .yield | .cabinetState | .visitClose | .busOnBattery => .aborted

/-- The permit result a cause brings (R110 step 4). -/
def TestCause.permitResult (c : TestCause) : PermitResult :=
  match c.outcome with
  | .done => .done
  | .failed => .failed
  | .aborted => .aborted
  | .none => .aborted

/-- The outcome that brought a CABINET failure, as the detail word holds it (R112). -/
def detailOutcome : TxOutcome → Nat
  | .refused code => 0x10 + code
  | .ok => 0
  | .noAnswer => 1
  | .checkFail => 2
  | .stretchTimeout => 3
  | .linkDown => 4

/-- The detail word (R112). -/
def TestContext.detail (t : TestContext) (outcome : Nat) : Nat :=
  t.phase.code + t.level * 2 ^ 8 + t.results.length * 2 ^ 16 + outcome * 2 ^ 24

/-- The notice of a test's end, with its value and result code (Table 6-6). -/
def State.raiseTestEnd (s : State) (cause : TestCause) (outcome result : Nat) : State :=
  match s.test.subject with
  | none => s
  | some u =>
    let subject : Subject :=
      { bus := busCode u.bus, cabinet := u.cabinet, slot := u.slot, permit := s.test.permit.getD 0, visit := s.test.holder }
    match cause.outcome with
    | .done => s.raise .testDone subject result s.test.locked
    | .failed => s.raise .testFailed subject (s.test.detail outcome) cause.code
    | .aborted => s.raise .testAborted subject (s.test.detail outcome) cause.code
    | .none => s

/-- The AGU's part of a test's end: the result of a completed test, then the test end if the begin was handed (R110
step 2). -/
def State.testAgeing (s : State) (cause : TestCause) (result : Nat) : State :=
  match s.test.subject with
  | none => s
  | some u =>
    let s := if cause.outcome = .done then s.ageString u.cabinet u.slot (takeTestResult s.clock.stamp result) else s
    if s.test.beginHanded then s.ageString u.cabinet u.slot (stringEvent s.clock (.testEnd (cause.outcome == .done))) else s

/-- Whether an ending sends TEST_END, as things stand when the test ends: not where TEST_BEGIN has not begun an attempt,
or the preliminary TEST_END was in hand (R110 step 5); a lost attempt is none (R27; log 9). A refused TEST_BEGIN is the
caller's. -/
def State.endNeeded (s : State) : Bool :=
  match s.test.phase, s.test.inHand with
  | .begin, some .testEnd => false
  | .begin, some .testBegin => !(s.clc.testSlot.any fun r => r.attempts == 0)
  | _, _ => true

/-- A running test ends (R110 steps 1 to 5, as far as the handing of TEST_END); `refused` says that a refused
TEST_BEGIN ended it. LOW_SIGNAL discards the step results, which the detail word has counted (R107; log 31). -/
def State.endTest (s : State) (cause : TestCause) (outcome result : Nat) (refused : Bool) : State :=
  let needed := s.endNeeded && !refused
  let s := s.onTest fun t => { t with timer := .none, inHand := if s.clc.testSlot.isSome then none else t.inHand }
  let s := s.onClc fun l => { l with testSlot := none }
  let s := (s.testAgeing cause result).raiseTestEnd cause outcome result
  let permit := s.test.permit
  let s := s.onTest fun t =>
    { t with phase := .ending, endNeeded := needed, endHanded := false,
             results := if cause = .lowSignal then [] else t.results,
             last := { outcome := cause.outcome, cause := cause, result := result, charge := t.charge, confirmed := false } }
  s.push ((permit.toList.map fun id => Task.permitEnd id cause.permitResult) ++ [.testEnding, .meet])

/-- A cause of Table 6-4 from another block ends a running test, and nothing else (R109, R110). -/
def State.testAbort (s : State) (cause : TestCause) : State :=
  if s.test.phase.running then s.endTest cause 0 0 false else s

/-- The context returns to IDLE, every field but the last-test summary cleared (R110 step 6; log 31); the grant passes of R137
follow at once (logs 40 and 45). -/
def State.testToIdle (s : State) : State :=
  let idle := s.onTest fun t => { TestContext.initial with last := t.last }
  match s.test.subject with
  | none => idle
  | some u => idle.push [.testIdle u.bus]

/-- The rest of an ending once no request is in flight: TEST_END is handed, or IDLE follows at once (R110 step 5). -/
def State.testEnding (s : State) : State :=
  if s.test.phase = .ending ∧ s.test.inHand = none then
    if s.test.endNeeded ∧ s.test.endHanded = false then
      (s.onTest fun t => { t with endHanded := true }).testHand .testEnd (.command .testEnd)
    else s.testToIdle
  else s

/-- A final outcome reaches the context in ENDING (R110 step 5, R111). The triggers of a late test begin and its test end are
met together, once TEST_END has been handed (R120; log 51). -/
def State.testFinalEnding (s : State) (what : TestRequest) (o : TxOutcome) : State :=
  let s := s.onTest fun t => { t with inHand := none }
  match what with
  | .testEnd =>
    let s := if s.test.endHanded then s.onTest fun t => { t with last := { t.last with confirmed := o == .ok } } else s
    s.push [.testEnding]
  | .testBegin => match o, s.test.subject with
    | .ok, some u =>
      let s := s.ageString u.cabinet u.slot (stringEvent s.clock .testBegin)
      let s := s.ageString u.cabinet u.slot (stringEvent s.clock (.testEnd false))
      (s.onTest fun t => { t with beginHanded := true }).push [.testEnding, .meet]
    | .refused _, _ => (s.onTest fun t => { t with endNeeded := false }).push [.testEnding]
    | _, _ => s.push [.testEnding]
  | .testStep | .testRead => s.push [.testEnding]

/-! ### The phases of a running test (section 6.3) -/

/-- A failed or refused final outcome fails a running test (R103, R105). -/
def State.testFailCabinet (s : State) (o : TxOutcome) (refused : Bool) : State :=
  s.endTest .cabinet (detailOutcome o) 0 refused

/-- TEST_BEGIN has been accepted: the AGU is handed the test begin and SETTLE is entered (R103, R104). The trigger that the
test begin raises waits until then, or until SEARCH has handed TEST_STEP where there is no settle time (R120; log 51). -/
def State.testBegun (s : State) : State :=
  match s.test.subject, s.testString with
  | some u, some d =>
    let s := s.ageString u.cabinet u.slot (stringEvent s.clock .testBegin)
    let s := s.onTest fun t => { t with beginHanded := true, phase := .settle }
    if d.settleTime = 0 then s.enterSearch else s.startTestTimer .settle d.settleTime
  | _, _ => s

/-- A step result joins the list; the n-th ends the test DONE (R107, R108). -/
def State.takeStep (s : State) (d : StringRec) (result : Nat) : State :=
  let s := s.onTest fun t => { t with results := t.results ++ [result] }
  if s.test.steps ≤ s.test.results.length then s.endTest .none 0 (combineSteps d.combine s.test.results) false
  else s.beginStep s.test.locked

/-- The phase judges a reading (R106, R107). -/
def State.judgeReading (s : State) (d : StringRec) (r : TestReadReply) : State :=
  let s := s.onTest fun t => { t with charge := saturate (2 ^ 32 - 1) (t.charge + r.charge.toNat) }
  if s.test.phase = .search then
    if r.deltaShunt.toNat < d.minSignal then
      if s.test.level < 15 then s.beginStep (s.test.level + 1) else s.endTest .lowSignal 0 0 false
    else (s.onTest fun t => { t with locked := t.level, phase := .measure }).beginStep s.test.level
  else if r.deltaShunt.toNat < d.minSignal then s.endTest .lowSignal 0 0 false
  else s.takeStep d (stepImpedance r.deltaString.toNat d.shunt r.deltaShunt.toNat)

/-- A reading whose measurement is not complete: read again a second later, three times at most (R105 step 4). -/
def State.notReady (s : State) : State :=
  if s.test.notReady < 3 then (s.onTest fun t => { t with notReady := t.notReady + 1 }).startTestTimer .reread 1
  else s.endTest .noData 0 0 false

/-- A final outcome reaches a running test (R103, R105). -/
def State.testFinalRunning (s : State) (what : TestRequest) (o : TxOutcome) (reading : Option TestReadReply) : State :=
  let s := s.onTest fun t => { t with inHand := none }
  match what, s.testString with
  | .testEnd, _ => s.handTestBegin
  | .testBegin, _ => match o with
    | .ok => s.testBegun
    | .refused code => s.testFailCabinet (.refused code) true
    | .noAnswer | .checkFail | .stretchTimeout | .linkDown => s.testFailCabinet o false
  | .testStep, some d =>
    if o = .ok then (s.onTest fun t => { t with notReady := 0 }).startTestTimer .step d.stepTime
    else s.testFailCabinet o false
  | .testRead, some d => match o, reading with
    | .ok, some r => if r.ready = 1 then s.judgeReading d r else s.notReady
    | _, _ => s.testFailCabinet o false
  | .testStep, none => s
  | .testRead, none => s

/-- A final outcome of a test request; one for a request already withdrawn has no effect (R103, R105, R110). The triggers it
brings are met once the TEN has taken the whole outcome (R120; log 51). -/
def State.testFinal (s : State) (o : TxOutcome) (reading : Option TestReadReply) : State :=
  match s.test.inHand with
  | none => s
  | some what =>
    if s.test.phase.running then (s.testFinalRunning what o reading).push [.meet]
    else s.testFinalEnding what o

/-- A test's wait expires (R104, R105). -/
def State.testTimerExpiry (s : State) (timer : TestTimer) : State :=
  if s.test.phase.running ∧ s.test.timer = timer ∧ s.test.timerDue ≤ s.now then
    let s := s.onTest fun t => { t with timer := .none }
    match timer with
    | .settle => s.enterSearch
    | .step => s.handTestRead
    | .reread => s.handTestRead
    | .none => s
  else s

/-- A change of tracked state reaches the TEN (R49, R109). -/
def State.testOnChange (s : State) (c : Nat) (b : Bus) (new : Tracked) : State :=
  match s.test.subject with
  | none => s
  | some u =>
    if u.bus = b ∧ new = .onBattery then s.testAbort .busOnBattery
    else if u.cabinet = c ∧ new ≠ .online then s.testAbort .cabinetState
    else s

end Sys2Proof.Machine
end

