-- ==== Sys2Proof/Machine/Redundancy.lean ====
section
/-! DEFINITION. The Redundancy Accountant (spec/07): the figures of a bus, security, and the figures on request. -/

namespace Sys2Proof.Machine

/-! ### What the figures are computed from -/

/-- A live WITHDRAW permit in one of the states given names cabinet `c`. -/
def State.withdrawnIn (s : State) (c : Nat) (states : List PermitState) : Bool :=
  s.par.permits.any fun p => p.kind == .withdraw && p.cabinet == some c && states.contains p.state

/-- A WITHDRAW permit keeps the cabinet out of the online set (R114). -/
def State.excluded (s : State) (c : Nat) : Bool := s.withdrawnIn c [.granted, .returning, .returnBlocked]

/-- The strict online set of a bus (R114). -/
def State.onlineSet (s : State) (b : Bus) : List (Nat × Cabinet) :=
  (s.cabinetsOf b).filter fun p =>
    (p.2.track.state == .online || p.2.track.state == .onBattery) && !s.excluded p.1

/-- The reading of a cabinet's point in the active list, if it has an entry (R115). -/
def State.readingOf (s : State) (c : Nat) (point : Point) : Option Reading :=
  (s.scs.active.find? fun e => e.entry.cabinet == c && e.entry.point == point).map fun e => e.reading

/-- The load a reading adds: its value whatever its quality, and 0 while it has none (R115). -/
def loadOf (r : Option Reading) : Nat :=
  match r with
  | none => 0
  | some r => if r.quality = .none then 0 else r.value.toNat

/-- A load reading is uncertain (R115). -/
def uncertainReading (r : Option Reading) : Bool :=
  match r with
  | none => true
  | some r => r.quality != .fresh

/-- The available energy of a cabinet's defined strings (R117). -/
def Cabinet.energy (k : Cabinet) : Nat :=
  (slotIndices.map fun slot => match k.slot slot with
    | none => 0
    | some u => u.age.energy).sum

/-! ### The computation (section 7.2) -/

/-- Puts a rating into a list held largest first. -/
def insertRating (x : Nat) : List Nat → List Nat
  | [] => [x]
  | y :: ys => if y ≤ x then x :: y :: ys else y :: insertRating x ys

/-- Ratings largest first (R116 step 2). -/
def sortRatings (l : List Nat) : List Nat := l.foldr insertRating []

/-- The largest number of losses, taken in the order of the list, that leaves at least the required capacity, and -1
where even none leaves less (R116 steps 2 and 3). -/
def spareCount (required : Nat) : Nat → List Nat → Int
  | capacity, [] => if required ≤ capacity then 0 else -1
  | capacity, x :: rest => if required ≤ capacity then 1 + spareCount required (capacity - x) rest else -1

/-- Required capacity (R116 step 1). -/
def requiredCapacity (load headroom : Nat) : Nat := ceilDiv (load * (100 + headroom)) 100

/-- Autonomy in minutes (R117). -/
def autonomyOf (energy load : Nat) : Nat := if load = 0 then 65535 else min (60 * energy / (load * 100)) 65535

/-- What every kind of figures carries (section 7.5). -/
structure Figures where
  load : Nat
  uncertainCount : Nat
  online : Nat
  capacity : Nat
  required : Nat
  spare : Int
  margin : Int
  energy : Nat
  autonomy : Nat
  deriving DecidableEq, Repr

/-- The load-uncertain flag (R115). -/
def Figures.uncertain (f : Figures) : Bool := decide (0 < f.uncertainCount)

/-- Figures with capacity from one set of cabinets, load from another and an energy (R114 to R117). -/
def State.figuresFrom (s : State) (d : BusRec) (carrying loading : List (Nat × Cabinet)) (energy : Nat) : Figures :=
  let ratings := carrying.map fun p => p.2.defn.rating * 10
  let readings := loading.map fun p => s.readingOf p.1 .outputPower
  let load := (readings.map loadOf).sum
  let required := requiredCapacity load d.headroom
  let spare := spareCount required ratings.sum (sortRatings ratings)
  { load := load, uncertainCount := (readings.filter uncertainReading).length, online := carrying.length,
    capacity := ratings.sum, required := required, spare := spare, margin := spare - d.reserve, energy := energy,
    autonomy := autonomyOf energy load }

/-- The energy of a set of cabinets (R117). -/
def energyOfSet (set : List (Nat × Cabinet)) : Nat := (set.map fun p => p.2.energy).sum

/-- The strict figures of a bus (R114 to R117). -/
def State.strict (s : State) (b : Bus) (d : BusRec) : Figures :=
  s.figuresFrom d (s.onlineSet b) (s.onlineSet b) (energyOfSet (s.onlineSet b))

/-- The withdrawal what-if of cabinet `c` (R122). -/
def State.whatIfWithdrawn (s : State) (b : Bus) (d : BusRec) (c : Nat) : Figures :=
  let rest := (s.onlineSet b).filter fun p => p.1 != c
  s.figuresFrom d rest (s.onlineSet b) (energyOfSet rest)

/-- The test what-if of a string (R123). -/
def State.whatIfTested (s : State) (b : Bus) (d : BusRec) (c slot : Nat) : Figures :=
  let set := s.onlineSet b
  let own := if set.any fun p => p.1 == c then (match s.string c slot with
    | none => 0
    | some u => u.age.energy) else 0
  s.figuresFrom d set set (energyOfSet set - own)

/-- The pending-credit figures (R124). -/
def State.pendingCredit (s : State) (b : Bus) (d : BusRec) : Figures :=
  let set := s.onlineSet b
  let credited := (s.cabinetsOf b).filter fun p =>
    (set.any fun q => q.1 == p.1) || s.withdrawnIn p.1 [.returning]
  s.figuresFrom d credited set (energyOfSet credited)

/-- The return-check figures (R125). -/
def State.returnFigures (s : State) (b : Bus) (d : BusRec) : Figures :=
  let set := (s.cabinetsOf b).filter fun p => p.2.track.state == .online && !s.excluded p.1
  s.figuresFrom d set set (energyOfSet set)

/-! ### Security and notices (section 7.3) -/

/-- The autonomy is below the bus's minimum, where it has one (R118). -/
def Figures.shortOfTime (f : Figures) (d : BusRec) : Bool := decide (0 < d.minAutonomy ∧ f.autonomy < d.minAutonomy)

/-- A deficit by margin or by autonomy (R118 case 3). -/
def Figures.inDeficit (f : Figures) (d : BusRec) : Bool := decide (f.margin < 0) || f.shortOfTime d

/-- The figures of a bus are known: no cabinet UNKNOWN and a round seen (R118 case 1). -/
def State.known (s : State) (b : Bus) : Bool :=
  match s.bus b with
  | none => false
  | some u => u.fig.roundSeen && (s.cabinetsOf b).all fun p => p.2.track.state != .unknown

/-- The security of a bus for its strict figures (R118). -/
def State.securityOf (s : State) (b : Bus) (d : BusRec) (f : Figures) : Security :=
  if s.known b = false then .unknown
  else if (s.seqOf b).state ≠ .normal then .bypassed
  else if f.inDeficit d then .deficit
  else .secure

/-- The figures record with new figures and security; round seen is kept (Table 7-1). -/
def BusFigures.update (old : BusFigures) (f : Figures) (security : Security) : BusFigures :=
  { load := f.load, uncertain := f.uncertain, uncertainCount := f.uncertainCount, online := f.online,
    capacity := f.capacity, required := f.required, spare := f.spare, margin := f.margin, energy := f.energy,
    autonomy := f.autonomy, security := security, roundSeen := old.roundSeen }

/-- The value of BUS_DEFICIT and BUS_SECURE (Table 7-2). -/
def Figures.noticeValue (f : Figures) : Nat := f.autonomy * 65536 + margin16 f.margin

/-- The notices of a recomputation, LOAD_UNCERTAIN first (R119). -/
def State.raiseBus (s : State) (b : Bus) (d : BusRec) (old : BusFigures) (f : Figures) (security : Security) : State :=
  let s := if f.uncertain && !old.uncertain then s.raise .loadUncertain { bus := busCode b } f.uncertainCount 0 else s
  if security = .deficit ∧ old.security ≠ .deficit then
    s.raise .busDeficit { bus := busCode b } f.noticeValue (bit 0 (decide (f.margin < 0)) + bit 1 (f.shortOfTime d))
  else if security = .secure ∧ old.security ≠ .secure then
    s.raise .busSecure { bus := busCode b } f.noticeValue old.security.code
  else s

/-- A recomputation: the record replaced, then the notices (R121 steps 1 and 2). -/
def State.recompute (s : State) (b : Bus) : State :=
  match s.bus b with
  | none => s
  | some u =>
    let f := s.strict b u.defn
    let security := s.securityOf b u.defn f
    (s.setBus b (some { u with fig := u.fig.update f security })).raiseBus b u.defn u.fig f security

/-- The figures of a bus at its creation or after a start (Table 7-1). -/
def BusFigures.initial (reserve : Nat) : BusFigures :=
  { load := 0, uncertain := false, uncertainCount := 0, online := 0, capacity := 0, required := 0, spare := 0,
    margin := 0 - reserve, energy := 0, autonomy := 65535, security := .unknown, roundSeen := false }

end Sys2Proof.Machine
end

