-- ==== Sys2Proof/Machine/Tracking.lean ====
section
/-! DEFINITION. The Cabinet Tracker (spec/03): reports, reachability, overlays, orphans, and what it hands on. -/

namespace Sys2Proof.Machine

/-- A live WITHDRAW permit names the cabinet (R46). -/
def State.hasWithdraw (s : State) (c : Nat) : Bool :=
  s.par.permits.any fun p => p.kind == .withdraw && p.cabinet == some c

/-- A BUS_BYPASS permit of the bus is live (R47). -/
def State.hasBypass (s : State) (b : Bus) : Bool := s.par.permits.any fun p => p.kind == .busBypass && p.bus == b

/-- A tracking record after a start, at creation or at a change of address (Table 3-1). -/
def Track.initial (master : Bool) : Track :=
  { lastWord := none, failures := 0, unreachable := false, unreachableSince := none, lastSuccess := none,
    overlay := none, overlayDeadline := none, orphan := false, firstReportPending := true, bypassCheckPending := master }

/-- The codes of the sources of CABINET_STATE (Table 3-3). -/
inductive Source where
  | reply
  | alert (cause : Nat)
  | threshold
  | overlaySet
  | overlayDeadline
  | testRead
  | addressChange
  deriving DecidableEq, Repr

/-- Source codes (Table 3-3). -/
def Source.code : Source → Nat
  | .reply => 1
  | .alert _ => 2
  | .threshold => 3
  | .overlaySet => 4
  | .overlayDeadline => 5
  | .testRead => 6
  | .addressChange => 7

/-- The alert cause that CABINET_STATE carries (Table 3-3). -/
def Source.cause : Source → Nat
  | .alert cause => cause
  | .reply | .threshold | .overlaySet | .overlayDeadline | .testRead | .addressChange => 0

/-! ### Overlays (section 3.4) -/

/-- How a reported mode ends an overlay, if it does (R43, R44). -/
def overlayEnd : Overlay → Mode → Option OverlayResult
  | .withdrawing, .online => none
  | .withdrawing, .onBattery => none
  | .withdrawing, .standby => some (.withdrawn .standby)
  | .withdrawing, .isolated => some (.withdrawn .isolated)
  | .withdrawing, .fault => some (.withdrawFailed (.mode .fault))
  | .withdrawing, .staticBypass => some (.withdrawFailed (.mode .staticBypass))
  | .returning, .online => some .returned
  | .returning, .standby => none
  | .returning, .onBattery => none
  | .returning, .staticBypass => none
  | .returning, .fault => some (.returnFailed (.mode .fault))
  | .returning, .isolated => some (.returnFailed (.mode .isolated))

/-- Examines the last state word under the overlay in force (R39, R42 to R44). -/
def Track.examine (t : Track) : Track × List OverlayResult :=
  match t.overlay, t.lastWord with
  | some o, some w => match overlayEnd o w.mode with
    | none => (t, [])
    | some r => ({ t with overlay := none, overlayDeadline := none }, [r])
  | _, _ => (t, [])

/-- The result of an overlay ended by its deadline (R45). -/
def timeoutResult : Overlay → OverlayResult
  | .withdrawing => .withdrawFailed .timeout
  | .returning => .returnFailed .timeout

/-! ### Handing on (R48 to R50) -/

/-- What one input did to a cabinet's record: the new record and what is to be handed on. -/
structure TrackWork where
  track : Track
  results : List OverlayResult
  recovered : Option Nat
  orphanFound : Option Mode
  bypassFound : Bool
  flagsChanged : Bool
  deriving DecidableEq, Repr

/-- Work that only changes the record. -/
def TrackWork.quiet (t : Track) : TrackWork :=
  { track := t, results := [], recovered := none, orphanFound := none, bypassFound := false, flagsChanged := false }

/-- The orphan flag clears as the tracked state becomes ONLINE (R46). -/
def Track.settle (t : Track) (old : Tracked) : Track :=
  if t.state = .online ∧ old ≠ .online then { t with orphan := false } else t

/-- The cabinet notices of one input, in the order of R48, CABINET_UNREACHABLE apart. -/
def State.raiseTrack (s : State) (c : Nat) (b : Bus) (old new : Tracked) (source : Source) (w : TrackWork) : State :=
  let subject : Subject := { bus := busCode b, cabinet := c }
  let s := match w.recovered with
    | none => s
    | some seconds => s.raise .cabinetRecovered subject seconds source.code
  let s := if old ≠ new ∨ source.cause ≠ 0 then
      s.raise .cabinetState subject (source.cause * 65536 + old.code * 256 + new.code) source.code
    else s
  let s := match w.orphanFound with
    | none => s
    | some m => s.raise .orphanCabinet subject m.tracked.code 0
  if w.bypassFound && !s.hasBypass b then s.raise .orphanBypass subject 0 0 else s

/-- What is handed on after an input, in order (R49, R50). -/
def handOn (c : Nat) (b : Bus) (old new : Tracked) (w : TrackWork) : List Task :=
  let found := if w.bypassFound then [Task.bypassFoundClosed b] else []
  let results := w.results.map (Task.permitOnOverlay c)
  let change := if old = new then found ++ results ++ [.meet]
    else [.openHold] ++ found ++ [.ageingOnChange c old new, .testOnChange c b new] ++ results ++
      [.permitOnChange c old new, .closeHold]
  change ++ (if w.flagsChanged then [.permitOnFlags c, .meet] else [])

/-- Completes an input: the record stored, notices raised, a trigger on a change, and the handing-on queued. -/
def State.completeTrack (s : State) (c : Nat) (k : Cabinet) (source : Source) (w : TrackWork) : State :=
  let old := k.track.state
  let new := w.track.state
  let s := s.setCabinet c (some { k with track := w.track.settle old })
  let s := s.raiseTrack c k.defn.bus old new source w
  let s := if old = new then s else s.trigger k.defn.bus
  s.push (handOn c k.defn.bus old new w)

/-! ### Reports and attempts (sections 3.2 and 3.3) -/

/-- A report on the record (R39): stored, examined under the overlay, and taken through the three checks. -/
def State.report (s : State) (c : Nat) (t : Track) (w : StateWord) : TrackWork :=
  let examined := { t with lastWord := some w }.examine
  let found := t.firstReportPending && (w.mode == .standby || w.mode == .isolated) && !s.hasWithdraw c
  { track := { examined.1 with orphan := examined.1.orphan || found, firstReportPending := false, bypassCheckPending := false },
    results := examined.2, recovered := none, orphanFound := if found then some w.mode else none,
    bypassFound := t.bypassCheckPending && w.bypassClosed, flagsChanged := StateWord.flagsDiffer t.lastWord w }

/-- Recovery of an unreachable cabinet at a success (R41). -/
def TrackWork.recover (w : TrackWork) (now : Nat) : TrackWork :=
  if w.track.unreachable then
    { w with track := { w.track with unreachable := false, unreachableSince := none },
             recovered := some (now - w.track.unreachableSince.getD now) }
  else w

/-- A success (R38). -/
def State.trackSuccess (s : State) (c : Nat) (word : Option StateWord) (source : Source) : State :=
  match s.cabinet c with
  | none => s
  | some k =>
    let t := { k.track with lastSuccess := some s.now, failures := 0 }
    let w := match word with
      | none => TrackWork.quiet t
      | some w => s.report c t w
    s.completeTrack c k source (w.recover s.now)

/-- A failure (R40). -/
def State.trackFailure (s : State) (c : Nat) (o : TxOutcome) : State :=
  match s.cabinet c with
  | none => s
  | some k =>
    let t := { k.track with failures := min (k.track.failures + 1) 15 }
    if s.floor.unreachableThreshold ≤ t.failures ∧ t.unreachable = false then
      let s := s.raise .cabinetUnreachable { bus := busCode k.defn.bus, cabinet := c } t.failures o.failureCode
      s.completeTrack c k .threshold (.quiet { t with unreachable := true, unreachableSince := some s.now })
    else s.setCabinet c (some { k with track := t })

/-- An attempt handed to the CTK (R38). -/
def State.trackAttempt (s : State) (c : Nat) (o : TxOutcome) (isTestRead : Bool) (word : Option StateWord) : State :=
  if o.isFailure then s.trackFailure c o else s.trackSuccess c word (if isTestRead then .testRead else .reply)

/-- The PAR asks for an overlay (R42). -/
def State.setOverlay (s : State) (c : Nat) (o : Overlay) : State :=
  match s.cabinet c with
  | none => s
  | some k =>
    let timeout := ((s.bus k.defn.bus).map fun u => u.defn.transferTimeout).getD 0
    let before := if k.track.overlay.isSome then [OverlayResult.superseded] else []
    let examined := { k.track with overlay := some o, overlayDeadline := some (s.now + timeout) }.examine
    s.completeTrack c k .overlaySet { TrackWork.quiet examined.1 with results := before ++ examined.2 }

/-- An overlay's deadline expires (R45). -/
def State.overlayTimeout (s : State) (c : Nat) : State :=
  match s.cabinet c with
  | none => s
  | some k => match k.track.overlay with
    | none => s
    | some o =>
      s.completeTrack c k .overlayDeadline
        { TrackWork.quiet { k.track with overlay := none, overlayDeadline := none } with results := [timeoutResult o] }

/-- The record set back at a change of link address, the overlay fields kept (R10, R36). -/
def Track.reset (t : Track) (master : Bool) : Track :=
  { Track.initial master with overlay := t.overlay, overlayDeadline := t.overlayDeadline }

end Sys2Proof.Machine
end

