-- ==== Sys2Proof/Machine/Permits.lean ====
section
/-! DEFINITION. The Permit Arbiter (spec/08): permits, grant and yield passes, transfer queues, bypass sequencers. -/

namespace Sys2Proof.Machine

/-! ### The permit table (R127) -/

/-- The live permit of an id. -/
def State.permit (s : State) (id : Nat) : Option Permit := s.par.permits.find? fun p => p.id == id

/-- Changes the live permit of an id. -/
def State.onPermit (s : State) (id : Nat) (f : Permit → Permit) : State :=
  s.onPar fun t => { t with permits := t.permits.map fun p => if p.id = id then f p else p }

/-- The slot of a permit, 0 where it has none. -/
def Permit.slot (p : Permit) : Nat :=
  match p.kind with
  | .stringTest slot _ => slot
  | .withdraw | .busBypass => 0

/-- A permit is a string test. -/
def Permit.isTest (p : Permit) : Bool :=
  match p.kind with
  | .stringTest _ _ => true
  | .withdraw | .busBypass => false

/-- The subject of a permit's notices (R147). -/
def Permit.subject (p : Permit) : Subject :=
  { bus := busCode p.bus, cabinet := p.cabinet.getD 0, slot := p.slot, permit := p.id, visit := p.holder }

/-- The wait queue of a bus: its WAITING permits in the order of their requests (R127). -/
def State.waitQueue (s : State) (b : Bus) : List Permit := s.par.permits.filter fun p => p.bus == b && p.state == .waiting

/-- The id after one, wrapping from 255 to 1 (R127). -/
def nextIdAfter (id : Nat) : Nat := if 255 ≤ id then 1 else id + 1

/-- The first id from `id` upward that is not taken, within `n` tries (R127, R154). -/
def freeId (taken : List Nat) : Nat → Nat → Nat
  | 0, id => id
  | n + 1, id => if taken.contains id then freeId taken n (nextIdAfter id) else id

/-- A new permit, WAITING, at the tail of the table and so of its wait queue (R127, R130). -/
def State.createPermit (s : State) (kind : PermitKind) (b : Bus) (c : Option Nat) (holder : Nat) (policy : Option Policy)
    (deadlineMin : Nat) : State × Nat :=
  let id := freeId (s.par.permits.map fun p => p.id) 255 s.par.nextId
  let p : Permit :=
    { id := id, kind := kind, bus := b, cabinet := c, holder := holder, policy := policy, state := .waiting,
      requestUptime := s.now, deadline := if deadlineMin = 0 then none else some (s.now + 60 * deadlineMin),
      grantUptime := none, grantSequence := none, returnOrdered := false, yielded := false, yieldSequence := none,
      adopted := false, sent := false }
  ((s.onPar fun t => { t with permits := t.permits ++ [p], nextId := nextIdAfter id }).trigger b, id)

/-! ### Transfer queues (R138) -/

/-- A command of the bypass sequencer. -/
def TransferCommand.ofBypass : TransferCommand → Bool
  | .prepare | .cancel | .close | .openBypass => true
  | .withdraw | .goOnline => false

/-- The cabinet command of a transfer command (Table 2-4). -/
def TransferCommand.cabinetCommand : TransferCommand → CabinetCommand
  | .withdraw => .withdraw
  | .goOnline => .goOnline
  | .prepare => .bypassPrepare
  | .cancel => .bypassCancel
  | .close => .bypassClose
  | .openBypass => .bypassOpen

/-- The waiting entries, in the order they are sent. -/
def TransferQueue.waiting (q : TransferQueue) : List TransferEntry := q.priority ++ q.ordinary

/-- Removes waiting entries. -/
def TransferQueue.remove (q : TransferQueue) (gone : TransferEntry → Bool) : TransferQueue :=
  { q with priority := q.priority.filter fun e => !gone e, ordinary := q.ordinary.filter fun e => !gone e }

/-- An entry of a cabinet. -/
def TransferEntry.isOf (c : Nat) (e : TransferEntry) : Bool := e.cabinet == c

/-- A bypass command may not join: a WITHDRAW or GO_ONLINE waits for its cabinet (R138). -/
def TransferQueue.bars (q : TransferQueue) (e : TransferEntry) : Bool :=
  e.command.ofBypass && q.waiting.any fun x => x.isOf e.cabinet && !x.command.ofBypass

/-- An entry joins a lane. A bypass command joins only where no WITHDRAW or GO_ONLINE waits for its cabinet, and is dropped
for good where one does (log 39); an entry that joins takes the place of one that waits for its cabinet in the ordinary lane, so that
a cabinet has one waiting entry at most (R138; log 16). The priority lane is in the order of the yields, which `rank` gives: an
entry joins before the first one yielded after it. -/
def TransferQueue.join (q : TransferQueue) (rank : TransferEntry → Nat) (priority : Bool) (e : TransferEntry) : TransferQueue :=
  if q.bars e then q
  else if priority then
    let q := q.remove (TransferEntry.isOf e.cabinet)
    let earlier := q.priority.takeWhile fun x => decide (rank x ≤ rank e)
    { q with priority := earlier ++ e :: q.priority.drop earlier.length }
  else
    let before := q.ordinary.takeWhile fun x => !x.isOf e.cabinet
    let after := (q.ordinary.drop before.length).filter fun x => !x.isOf e.cabinet
    { q with priority := q.priority.filter fun x => !x.isOf e.cabinet, ordinary := before ++ e :: after }

/-- An entry returns to the head of its lane, in place of one that waits for its cabinet; it joins no more where it may not
(R138; log 16). The head of the priority lane is its place also before an entry yielded earlier (log 44). -/
def TransferQueue.putBack (q : TransferQueue) (priority : Bool) (e : TransferEntry) : TransferQueue :=
  if q.bars e then q
  else
    let q := q.remove (TransferEntry.isOf e.cabinet)
    if priority then { q with priority := e :: q.priority } else { q with ordinary := e :: q.ordinary }

/-- The next entry to be sent, with the queue left behind. -/
def TransferQueue.take (q : TransferQueue) : Option (TransferEntry × TransferQueue) :=
  match q.priority, q.ordinary with
  | e :: rest, _ => some (e, { q with priority := rest })
  | [], e :: rest => some (e, { q with ordinary := rest })
  | [], [] => none

/-- What the PAR notes as an entry is handed to the CLC: sent on its permit, and the sequencer's marks (R139, R144). -/
def State.noteSent (s : State) (b : Bus) (e : TransferEntry) : State :=
  match e.command, e.permit with
  | .withdraw, some id => s.onPermit id fun p => { p with sent := true }
  | .prepare, _ => s.onSeq b fun q =>
      { q with prepared := q.prepared.map fun x => if x.cabinet = e.cabinet then { x with handed := true } else x }
  | .close, _ => s.onSeq b fun q => { q with closeHanded := true }
  | _, _ => s

/-- The head of the queue is handed to the CLC when no command is in hand and no spacing runs (R138). -/
def State.pump (s : State) (b : Bus) : State :=
  if (s.queueOf b).inHand = none ∧ (s.queueOf b).spacingDue = none then
    match (s.queueOf b).take with
    | none => s
    | some (e, q) =>
      let s := s.onQueue b fun _ => { q with inHand := some { entry := e, used := true } }
      (s.noteSent b e).handIn (s.newRequest (.transfer b) (.command e.command.cabinetCommand) e.cabinet)
  else s

/-- The place of an entry's permit in the order of the yields, 0 where it has not yielded (R138). -/
def State.yieldRank (s : State) (e : TransferEntry) : Nat :=
  ((e.permit.bind s.permit).bind fun p => p.yieldSequence).getD 0

/-- An entry joins the queue of a bus, which is then served. -/
def State.enqueue (s : State) (b : Bus) (priority : Bool) (e : TransferEntry) : State :=
  (s.onQueue b fun q => q.join s.yieldRank priority e).pump b

/-- Waiting entries leave the queue of a bus. -/
def State.dequeue (s : State) (b : Bus) (gone : TransferEntry → Bool) : State := s.onQueue b fun q => q.remove gone

/-- The outcome of a command in hand is to be used for nothing (R138, R144). -/
def State.voidInHand (s : State) (b : Bus) (gone : TransferEntry → Bool) : State :=
  s.onQueue b fun q => { q with inHand := q.inHand.map fun h => if gone h.entry then { h with used := false } else h }

/-- A cabinet is undefined or leaves the bus: its waiting entries go, and a command in hand is used for nothing (R138). -/
def State.dropTransfers (s : State) (b : Bus) (c : Nat) : State :=
  (s.dequeue b fun e => e.cabinet == c).voidInHand b fun e => e.cabinet == c

/-! ### The end of a permit (R127, R147) -/

/-- A permit ends: it leaves the table with its waiting commands, PERMIT_ENDED is raised, and its holder's visit is
told. -/
def State.endPermit (s : State) (id : Nat) (result : PermitResult) : State :=
  match s.permit id with
  | none => s
  | some p =>
    let own := fun (e : TransferEntry) => e.permit == some id
    let s := (s.dequeue p.bus own).voidInHand p.bus own
    let s := s.onPar fun t => { t with permits := t.permits.filter fun q => q.id != id }
    let s := (s.raise .permitEnded p.subject (p.kind.code + p.state.code * 256) result.code).trigger p.bus
    if p.holder = 0 then s else s.push [.visitPermitEnd p.holder id]

/-! ### Returns (R132, R140) -/

/-- The entry of a permit's GO_ONLINE. -/
def goOnlineEntry (id c : Nat) : TransferEntry := { cabinet := c, command := .goOnline, permit := some id }

/-- A withdrawal goes to RETURNING with its GO_ONLINE in the lane of its return; a WITHDRAW still waiting leaves the
queue (R132, R140, R141). -/
def State.startReturn (s : State) (p : Permit) : State :=
  let s := s.dequeue p.bus fun e => e.permit == some p.id
  let s := (s.onPermit p.id fun q => { q with state := .returning }).trigger p.bus
  s.enqueue p.bus p.yielded (goOnlineEntry p.id (p.cabinet.getD 0))

/-- A withdrawal that was never sent and not adopted (Table 8-6). -/
def Permit.neverSent (p : Permit) : Bool := !p.sent && !p.adopted

/-- A return fails: RETURN_BLOCKED, with the notice's value and result code (R140). -/
def State.blockReturn (s : State) (p : Permit) (value result : Nat) : State :=
  ((s.onPermit p.id fun q => { q with state := .returnBlocked }).trigger p.bus).raise .returnBlocked p.subject value result

/-! ### The bypass sequencer (section 8.6) -/

/-- The granted or returning BUS_BYPASS permit of a bus. -/
def State.bypassPermit (s : State) (b : Bus) : Option Permit :=
  s.par.permits.find? fun p => p.kind == .busBypass && p.bus == b && p.state != .waiting

/-- The last state word of a cabinet. -/
def State.wordOf (s : State) (c : Nat) : Option StateWord := (s.cabinet c).bind fun k => k.track.lastWord

/-- The master's last state word shows BYPASS_CLOSED. -/
def State.masterClosed (s : State) (b : Bus) : Option Bool :=
  (s.masterOf b).bind fun c => (s.wordOf c).map fun w => w.bypassClosed

/-- A bypass command joins the ordinary lane (R138). -/
def State.bypassCommand (s : State) (b : Bus) (c : Nat) (command : TransferCommand) : State :=
  s.enqueue b false { cabinet := c, command := command, permit := none }

/-- Sequencer state, with the trigger its change is (R142). -/
def State.seqTo (s : State) (b : Bus) (state : SeqState) : State := (s.onSeq b fun q => { q with state := state }).trigger b

/-- A PREPARE for each cabinet of a new prepared set (R143 step 1, R145 step 2). -/
def State.prepareAll (s : State) (b : Bus) (set : List Nat) : State :=
  let s := s.onSeq b fun q =>
    { q with prepared := set.map fun c => { cabinet := c, handed := false, accepted := false }, syncDue := none,
             transferDue := none }
  set.foldl (fun s c => s.bypassCommand b c .prepare) s

/-- The prepared set is all accepted and shows SYNC_OK (R143 step 3, R145 step 4). -/
def State.allSynced (s : State) (b : Bus) : Bool :=
  (s.seqOf b).prepared.all fun x => x.accepted && (s.wordOf x.cabinet).any fun w => w.syncOk

/-- The check of SYNC_OK: the sequence goes on to CLOSING or OPENING (R143 step 3, R145 step 4). -/
def State.syncCheck (s : State) (b : Bus) : State :=
  if s.allSynced b then
    match (s.seqOf b).state, s.masterOf b with
    | .preparing, some m => ((s.onSeq b fun q => { q with syncDue := none }).seqTo b .closing).bypassCommand b m .close
    | .rePreparing, some m => ((s.onSeq b fun q => { q with syncDue := none }).seqTo b .opening).bypassCommand b m .openBypass
    | _, _ => s
  else s

/-- RETURN_WAIT is entered with the permit in RETURNING (R145 step 1). -/
def State.enterReturnWait (s : State) (b : Bus) (id : Nat) : State :=
  let s := s.onPermit id fun p => { p with returnOrdered := true, state := .returning }
  let s := (s.onSeq b fun q => { q with returnSince := some s.now }).seqTo b .returnWait
  s.push [.returnCheck b]

/-- The return-check figures qualify: the cabinets to prepare (R145 step 1). -/
def State.returnSet (s : State) (b : Bus) : Option (List Nat) :=
  match s.bus b, s.masterOf b with
  | some u, some m =>
    let set := ((s.cabinetsOf b).filter fun p => p.2.track.state == .online && !s.excluded p.1).map fun p => p.1
    if set.contains m ∧ 0 ≤ (s.returnFigures b u.defn).margin then some set else none
  | _, _ => none

/-- The check of RETURN_WAIT, on entry and at each handing of the bus by the RAC (R145 steps 1 and 2). -/
def State.returnCheck (s : State) (b : Bus) : State :=
  if (s.seqOf b).state = .returnWait then
    match s.returnSet b with
    | none => s
    | some set => (s.seqTo b .rePreparing).prepareAll b set
  else s

/-- The master is examined in CLOSING or OPENING once the command was accepted (R143 step 5, R145 step 6). -/
def State.masterCheck (s : State) (b : Bus) : State :=
  match (s.seqOf b).state, (s.seqOf b).transferDue, s.masterClosed b, s.bypassPermit b with
  | .closing, some _, some true, some p =>
    let s := s.raise .bypassDone p.subject (s.now - p.grantUptime.getD s.now) 1
    let s := (s.onSeq b fun q => { q with transferDue := none, closeHanded := false }).seqTo b .onMaintBypass
    if p.returnOrdered then s.enterReturnWait b p.id else s
  | .opening, some _, some false, some p =>
    let s := s.raise .bypassDone p.subject (s.now - (s.seqOf b).returnSince.getD s.now) 2
    let s := (s.onSeq b fun q => { q with transferDue := none, returnSince := none, prepared := [] }).seqTo b .normal
    s.endPermit p.id .returned
  | _, _, _, _ => s

/-- A waiting or in-hand entry of the sequence under way. -/
def TransferEntry.ofSequence (e : TransferEntry) : Bool :=
  e.command == .prepare || e.command == .close || e.command == .openBypass

/-- Steps 1 to 3 of R144: timers, waiting entries, and one BYPASS_CANCEL for each cabinet that may have acted. -/
def State.undoSequence (s : State) (b : Bus) : State :=
  let handed := ((s.seqOf b).prepared.filter fun x => x.handed).map fun x => x.cabinet
  let master := if (s.seqOf b).closeHanded then (s.masterOf b).toList.filter fun m => !handed.contains m else []
  let s := s.onSeq b fun q => { q with syncDue := none, transferDue := none, closeHanded := false }
  let s := (s.dequeue b TransferEntry.ofSequence).voidInHand b TransferEntry.ofSequence
  (handed ++ master).foldl (fun s c => s.bypassCommand b c .cancel) s

/-- The transfer to bypass fails (R144), with the result code of BYPASS_FAILED. -/
def State.failTransfer (s : State) (b : Bus) (result : Nat) : State :=
  let s := s.undoSequence b
  let s := match s.bypassPermit b with
    | none => s
    | some p => (s.raise .bypassFailed p.subject 0 result).endPermit p.id .failed
  (s.onSeq b fun q => { q with prepared := [] }).seqTo b .normal

/-- The return fails and the sequencer goes back to RETURN_WAIT (R145). -/
def State.failReturn (s : State) (b : Bus) (kind : NoticeKind) (result : Nat) : State :=
  let s := s.undoSequence b
  let s := match s.bypassPermit b with
    | none => s
    | some p => s.raise kind p.subject 0 result
  (s.onSeq b fun q => { q with returnSince := some s.now }).seqTo b .returnWait

/-- The re-preparation of a return fails: RETURN_BLOCKED (R145). -/
def State.failRePrepare (s : State) (b : Bus) : State := s.failReturn b .returnBlocked 4

/-- The sync timer starts once the last PREPARE is accepted, and SYNC_OK is checked (R143, R145). -/
def State.prepareAccepted (s : State) (b : Bus) (c : Nat) : State :=
  let s := s.onSeq b fun q =>
    { q with prepared := q.prepared.map fun x => if x.cabinet = c then { x with accepted := true } else x }
  if (s.seqOf b).prepared.all fun x => x.accepted then
    let timeout := ((s.bus b).map fun u => u.defn.syncTimeout).getD 0
    (s.onSeq b fun q => { q with syncDue := some (s.now + timeout) }).syncCheck b
  else s

/-- The transfer timer starts and the master is examined at once (R143 step 4, R145 step 5). -/
def State.moveAccepted (s : State) (b : Bus) : State :=
  let timeout := ((s.bus b).map fun u => u.defn.transferTimeout).getD 0
  (s.onSeq b fun q => { q with transferDue := some (s.now + timeout) }).masterCheck b

/-- The result code of BYPASS_FAILED for an outcome: refused, or no answer (Table 8-10). -/
def failCode : TxOutcome → Nat
  | .refused _ => 2
  | .ok | .noAnswer | .checkFail | .stretchTimeout | .linkDown => 3

/-! ### Final outcomes of transfer commands (R139, R140, R143 to R145) -/

/-- A WITHDRAW's final outcome (R139). -/
def State.withdrawFinal (s : State) (e : TransferEntry) (p : Permit) (o : TxOutcome) : State :=
  match o with
  | .ok => s.push [.setOverlay e.cabinet .withdrawing]
  | .refused _ => s.endPermit p.id (if p.state = .granted then .refusedByCabinet else .returned)
  | .noAnswer | .checkFail | .stretchTimeout | .linkDown =>
    if p.state = .granted then s.onQueue p.bus fun q => q.putBack false e else s

/-- A GO_ONLINE's final outcome (R140). -/
def State.goOnlineFinal (s : State) (e : TransferEntry) (p : Permit) (o : TxOutcome) : State :=
  match o with
  | .ok => s.push [.setOverlay e.cabinet .returning]
  | .refused code => s.blockReturn p code 1
  | .noAnswer | .checkFail | .stretchTimeout | .linkDown => s.onQueue p.bus fun q => q.putBack p.yielded e

/-- A bypass command's final outcome (R143 to R145). -/
def State.bypassFinal (s : State) (b : Bus) (e : TransferEntry) (o : TxOutcome) : State :=
  match e.command, (s.seqOf b).state with
  | .prepare, .preparing => if o = .ok then s.prepareAccepted b e.cabinet else s.failTransfer b (failCode o)
  | .prepare, .rePreparing => if o = .ok then s.prepareAccepted b e.cabinet else s.failRePrepare b
  | .close, .closing => if o = .ok then s.moveAccepted b else s.failTransfer b (failCode o)
  | .openBypass, .opening => match o with
    | .ok => s.moveAccepted b
    | .refused _ => s.failReturn b .bypassFailed 2
    | .noAnswer | .checkFail | .stretchTimeout | .linkDown => s.onQueue b fun q => q.putBack false e
  | _, _ => s

/-- A final outcome of the bus's command in hand: the spacing starts, and the handler of the command follows (R138). -/
def State.transferFinal (s : State) (b : Bus) (o : TxOutcome) : State :=
  match (s.queueOf b).inHand with
  | none => s
  | some h =>
    let s := s.onQueue b fun q =>
      { q with inHand := none, spacingDue := (s.bus b).map fun u => s.now + u.defn.spacing }
    let s := if h.used then
        match h.entry.command, h.entry.permit.bind s.permit with
        | .withdraw, some p => s.withdrawFinal h.entry p o
        | .goOnline, some p => s.goOnlineFinal h.entry p o
        | .withdraw, none => s
        | .goOnline, none => s
        | .prepare, _ => s.bypassFinal b h.entry o
        | .close, _ => s.bypassFinal b h.entry o
        | .openBypass, _ => s.bypassFinal b h.entry o
        | .cancel, _ => s
      else s
    s.push [.meet]

/-! ### What the CTK hands the PAR (R47, R49, R50) -/

/-- The WITHDRAW permit that has been granted and names a cabinet. -/
def State.withdrawPermit (s : State) (c : Nat) : Option Permit :=
  s.par.permits.find? fun p => p.kind == .withdraw && p.cabinet == some c && p.state != .waiting

/-- An overlay result (R139, R140). -/
def State.permitOnOverlay (s : State) (c : Nat) (r : OverlayResult) : State :=
  match s.withdrawPermit c, r with
  | none, _ => s
  | some _, .withdrawn _ => s
  | some p, .withdrawFailed (.mode _) => s.endPermit p.id .failed
  | some p, .withdrawFailed .timeout => s.endPermit p.id .refusedByCabinet
  | some p, .returned => s.endPermit p.id .returned
  | some p, .returnFailed (.mode m) => s.blockReturn p m.tracked.code 2
  | some p, .returnFailed .timeout => s.blockReturn p 0 3
  | some _, .superseded => s

/-- A RETURN_BLOCKED permit on a change of its cabinet's tracked state (R140). -/
def State.unblock (s : State) (c : Nat) (new : Tracked) : State :=
  match s.withdrawPermit c with
  | none => s
  | some p =>
    if p.state = .returnBlocked ∧ new = .standby then s.startReturn p
    else if p.state = .returnBlocked ∧ new = .online then s.endPermit p.id .returned
    else s

/-- The bypass sequencer on a change of tracked state (R143, R145, R146). -/
def State.seqOnChange (s : State) (b : Bus) (c : Nat) (old new : Tracked) : State :=
  let left := old = .online ∧ new ≠ .online ∧ ((s.seqOf b).prepared.any fun x => x.cabinet == c) = true
  match (s.seqOf b).state with
  | .preparing => if new = .onBattery then s.failTransfer b 5 else s
  | .closing => if new = .onBattery then s.failTransfer b 5 else s
  | .rePreparing => if left then s.failRePrepare b else s
  | .opening => if left ∧ (s.seqOf b).transferDue = none then s.failRePrepare b else s
  | .normal => s
  | .onMaintBypass => s
  | .returnWait => s

/-- A change of tracked state reaches the PAR (R49). -/
def State.permitOnChange (s : State) (c : Nat) (old new : Tracked) : State :=
  match s.busOf c with
  | none => s
  | some b => (s.unblock c new).seqOnChange b c old new

/-- "Bypass found closed" (R47, R142). -/
def State.bypassFoundClosed (s : State) (b : Bus) : State :=
  match s.bypassPermit b with
  | some _ => s
  | none => (s.onSeq b fun q => { q with orphan := true }).seqTo b .onMaintBypass

/-- The grant pass of a bus on its own event, its triggers met at its end (R135). -/
def grantPass (b : Bus) : List Task := [.openHold, .grantAdoptions b, .grantHeads b, .closeHold]

/-- The sequencer on a flag change: an orphan bypass that opened, SYNC_OK, and the master's BYPASS_CLOSED (R142, R143,
R145). -/
def State.seqOnFlags (s : State) (b : Bus) (c : Nat) : State :=
  match (s.seqOf b).state with
  | .onMaintBypass =>
    if (s.seqOf b).orphan = true ∧ s.hasBypass b = false ∧ s.masterOf b = some c ∧ s.masterClosed b = some false then
      (s.onSeq b fun q => { q with orphan := false, prepared := [] }).seqTo b .normal
    else s
  | .preparing => s.syncCheck b
  | .rePreparing => s.syncCheck b
  | .closing => if s.masterOf b = some c then s.masterCheck b else s
  | .opening => if s.masterOf b = some c then s.masterCheck b else s
  | .normal => s
  | .returnWait => s

/-- A flag change of a cabinet reaches the PAR: the sequencer reads it, and then the grant pass runs (R50, R135, R142;
log 37). -/
def State.permitOnFlags (s : State) (c : Nat) : State :=
  match s.busOf c with
  | none => s
  | some b => (s.seqOnFlags b c).push (grantPass b)

/-! ### The grant pass (R135 to R137) -/

/-- A permit whose grant needs no action (R131). -/
def State.isAdoption (s : State) (p : Permit) : Bool :=
  match p.kind, p.cabinet with
  | .withdraw, some c => s.tracked c == some .standby || s.tracked c == some .isolated
  | .busBypass, _ => (s.seqOf p.bus).state == .onMaintBypass && (s.seqOf p.bus).orphan
  | _, _ => false

/-- A cabinet of the bus has tracked state ON_BATTERY. -/
def State.busOnBattery (s : State) (b : Bus) : Bool := (s.cabinetsOf b).any fun p => p.2.track.state == .onBattery

/-- An autonomy at or above the bus's minimum; a minimum of 0 removes the condition (R136). -/
def Figures.enoughTime (f : Figures) (d : BusRec) : Bool := d.minAutonomy == 0 || decide (d.minAutonomy ≤ f.autonomy)

/-- The master is defined and reachable (R136). -/
def State.masterReachable (s : State) (b : Bus) : Bool :=
  ((s.masterOf b).bind s.tracked).any fun t => t != .unreachable && t != .unknown

/-- Grantable while the sequencer is NORMAL (Table 8-7, first column). -/
def State.grantableNormal (s : State) (p : Permit) (d : BusRec) : Bool :=
  let quiet := !s.busOnBattery p.bus
  match p.kind, p.cabinet with
  | .withdraw, some c =>
    s.tracked c == some .online && s.known p.bus && !(s.strict p.bus d).uncertain && quiet &&
      decide (0 ≤ (s.whatIfWithdrawn p.bus d c).margin) && (s.whatIfWithdrawn p.bus d c).enoughTime d
  | .stringTest slot _, some c =>
    s.tracked c == some .online && s.test.phase == .idle && s.known p.bus && quiet &&
      decide (0 ≤ (s.strict p.bus d).margin) && (s.whatIfTested p.bus d c slot).enoughTime d
  | .busBypass, _ =>
    (s.par.permits.all fun q => !(q.bus == p.bus && q.kind != .busBypass && q.state != .waiting)) &&
      ((s.onlineSet p.bus).all fun x => x.2.track.lastWord.any fun w => w.bypassSourceOk) && quiet &&
      s.masterReachable p.bus
  | _, _ => false

/-- Grantable while the sequencer is ON_MAINT_BYPASS or in RETURN_WAIT (Table 8-7, second column). -/
def State.grantableBypassed (s : State) (p : Permit) : Bool :=
  match p.kind, p.cabinet with
  | .withdraw, some _ => true
  | .stringTest _ _, some c => s.tracked c == some .online && s.test.phase == .idle && !s.busOnBattery p.bus
  | _, _ => false

/-- A head is grantable (Table 8-7). -/
def State.grantable (s : State) (p : Permit) : Bool :=
  match s.bus p.bus, (s.seqOf p.bus).state with
  | none, _ => false
  | some u, .normal => s.grantableNormal p u.defn
  | some _, .onMaintBypass => s.grantableBypassed p
  | some _, .returnWait => s.grantableBypassed p
  | some _, .preparing => false
  | some _, .closing => false
  | some _, .rePreparing => false
  | some _, .opening => false

/-- A grant: state, uptime, sequence, deadline and PERMIT_GRANTED, then the permit's action (R137). -/
def State.grant (s : State) (p : Permit) : State :=
  let adoption := s.isAdoption p
  let sequence := nextSequence Config.grantPastTop s.par.grants
  let s := (s.onPar fun t => { t with grants := sequence }).onPermit p.id fun q =>
    { q with state := .granted, grantUptime := some s.now, grantSequence := some sequence, deadline := none, adopted := adoption }
  let s := (s.raise .permitGranted p.subject (s.now - p.requestUptime) (if adoption then 1 else 0)).trigger p.bus
  match p.kind, p.cabinet with
  | .withdraw, some c =>
    if adoption then s.onTrack c fun t => { t with orphan := false }
    else s.enqueue p.bus false { cabinet := c, command := .withdraw, permit := some p.id }
  | .stringTest _ _, _ => s.push [.testGrant p.id]
  | .busBypass, _ =>
    if adoption then s.onSeq p.bus fun q => { q with orphan := false }
    else
      let s := s.seqTo p.bus .preparing
      (s.prepareAll p.bus ((s.onlineSet p.bus).map fun x => x.1)).syncCheck p.bus
  | .withdraw, none => s

/-- Grants the adoptions of a bus, in queue order, one at a time (R135 step 1). -/
def State.grantAdoptions (s : State) (b : Bus) : State :=
  match (s.waitQueue b).find? s.isAdoption with
  | none => s
  | some p => (s.grant p).push [.grantAdoptions b]

/-- Grants the head of the wait queue while it is grantable (R135 step 2). -/
def State.grantHeads (s : State) (b : Bus) : State :=
  match (s.waitQueue b).head? with
  | none => s
  | some p => if s.grantable p then (s.grant p).push [.grantHeads b] else s

/-- The TEN has returned to IDLE: the grant pass of every defined bus, from the one after `b` (R137), before anything else that
the same input brings (logs 40 and 45). -/
def State.testIdle (s : State) (b : Bus) : State :=
  s.push ((busesAfter b).flatMap fun x => if (s.bus x).isSome then grantPass x else [])

/-! ### The yield pass (R141) -/

/-- The bus is NORMAL with strict figures known and in DEFICIT (R141). -/
def State.deficitNow (s : State) (b : Bus) : Bool :=
  match s.bus b with
  | none => false
  | some u => (s.seqOf b).state == .normal && s.known b && (s.strict b u.defn).inDeficit u.defn

/-- Raises PERMIT_YIELDED, with the strict figures as its value (R141, R147). -/
def State.raiseYield (s : State) (p : Permit) (result : Nat) : State :=
  match s.bus p.bus with
  | none => s
  | some u => s.raise .permitYielded p.subject (s.strict p.bus u.defn).noticeValue result

/-- The yield of the granted tests of a bus; the grant passes that a test context back in IDLE brings run before the
withdrawals are worked through (R141; log 40). -/
def State.yieldTests (s : State) (b : Bus) : State :=
  if s.busOnBattery b || s.deficitNow b then
    (s.par.permits.filter fun p => p.bus == b && p.isTest && p.state == .granted).foldl
      (fun s p => (s.raiseYield p (if s.busOnBattery b then 2 else 1)).push [.testAbort .yield]) s
  else s

/-- The next withdrawal to yield: YIELD, GRANTED, its cabinet not ISOLATED, most recent grant first (R141). -/
def State.yieldCandidate (s : State) (b : Bus) : Option Permit :=
  (s.par.permits.filter fun p => p.bus == b && p.kind == .withdraw && p.policy == some .yield && p.state == .granted &&
      p.cabinet.any fun c => s.tracked c != some .isolated).foldl
    (fun best p => match best with
      | none => some p
      | some q => if q.grantSequence.getD 0 < p.grantSequence.getD 0 then some p else best) none

/-- The place of the next yield of a bus, after those of its live permits (R138; log 44). -/
def State.nextYield (s : State) (b : Bus) : Nat :=
  ((s.par.permits.filter fun p => p.bus == b).map fun p => p.yieldSequence.getD 0).foldl max 0 + 1

/-- Yields one withdrawal (R141). -/
def State.yieldOne (s : State) (p : Permit) : State :=
  let s := s.onPermit p.id fun q => { q with yielded := true, yieldSequence := some (s.nextYield p.bus), returnOrdered := true }
  let s := s.raiseYield p 1
  if p.neverSent then s.endPermit p.id .returned else s.startReturn { p with yielded := true }

/-- Yields withdrawals, at most `n`, until the pending credit suffices or none is left (R141). -/
def yieldLoop (b : Bus) (d : BusRec) : Nat → State → State
  | 0, s => s
  | n + 1, s =>
    let f := s.pendingCredit b d
    if 0 ≤ f.margin ∧ f.enoughTime d = true then s
    else match s.yieldCandidate b with
      | none => s
      | some p => yieldLoop b d n (s.yieldOne p)

/-- The yield of withdrawals on a bus (R141). -/
def State.yieldWithdrawals (s : State) (b : Bus) : State :=
  match s.bus b with
  | none => s
  | some u => if s.deficitNow b then yieldLoop b u.defn s.par.permits.length s else s

/-! ### Returns and cancellations (R132, R133) -/

/-- The effect of RETURN_PERMIT on a permit; none where it is refused STATE (Table 8-6). -/
def State.returnPermit (s : State) (p : Permit) : Option State :=
  match p.kind, p.state with
  | .withdraw, .granted =>
    some (if p.neverSent then s.endPermit p.id .returned
      else (s.onPermit p.id fun q => { q with returnOrdered := true }).startReturn p)
  | .withdraw, .returnBlocked => some (s.startReturn p)
  | .stringTest _ _, .granted => some (s.push [.testAbort .returned])
  | .busBypass, .granted =>
    if p.returnOrdered then none
    else match (s.seqOf p.bus).state with
      | .onMaintBypass => some (s.enterReturnWait p.bus p.id)
      | _ => some (s.onPermit p.id fun q => { q with returnOrdered := true })
  | _, _ => none

/-- A waiting permit's deadline has come: PERMIT_EXPIRED, then its end (R134). -/
def State.expirePermit (s : State) (p : Permit) : State :=
  (s.raise .permitExpired p.subject (s.now - p.requestUptime) 0).endPermit p.id .expired

/-- A bus's sync timer expires (R143, R145). -/
def State.syncExpiry (s : State) (b : Bus) : State :=
  let s := s.onSeq b fun q => { q with syncDue := none }
  match (s.seqOf b).state with
  | .preparing => s.failTransfer b 1
  | .rePreparing => s.failRePrepare b
  | .normal | .closing | .onMaintBypass | .returnWait | .opening => s

/-- A bus's transfer timer expires (R143, R145). -/
def State.transferExpiry (s : State) (b : Bus) : State :=
  let s := s.onSeq b fun q => { q with transferDue := none }
  match (s.seqOf b).state with
  | .closing => s.failTransfer b 4
  | .opening => s.failReturn b .bypassFailed 4
  | .normal | .preparing | .onMaintBypass | .returnWait | .rePreparing => s

end Sys2Proof.Machine
end

