-- ==== Sys2Proof/Machine/Visits.lean ====
section
/-! DEFINITION. The Visit Controller (spec/09): the visit and lock tables, activation, deadlines and the close. -/

namespace Sys2Proof.Machine

/-! ### The tables (R149 to R151) -/

/-- The visits of the table. -/
def State.visits (s : State) : List Visit := s.vct.slots.toList.filterMap id

/-- The visit of an id. -/
def State.visit (s : State) (id : Nat) : Option Visit := s.visits.find? fun v => v.id == id

/-- Changes the visit of an id. -/
def State.onVisit (s : State) (id : Nat) (f : Visit → Visit) : State :=
  s.onVct fun t => { t with slots := t.slots.map fun o => o.map fun v => if v.id = id then f v else v }

/-- The visit that locks a cabinet (R151). -/
def State.lockOf (s : State) (c : Nat) : Option Nat := if c = 0 then none else (s.vct.locks[c - 1]?).join

/-- Locks a cabinet to a visit. -/
def Vct.lock (t : Vct) (visit c : Nat) : Vct :=
  if c = 0 then t else { t with locks := t.locks.setIfInBounds (c - 1) (some visit) }

/-- Unlocks every cabinet locked to a visit (R163). -/
def Vct.unlock (t : Vct) (visit : Nat) : Vct :=
  { t with locks := t.locks.map fun l => if l = some visit then none else l }

/-- The slots 0..7 of the visit table. -/
def visitSlotIndices : List Nat := List.range 8

/-- The visit in a slot. -/
def State.visitIn (s : State) (slot : Nat) : Option Visit := (s.vct.slots[slot]?).join

/-- The CLOSED record with the lowest close sequence, with its slot (R150). -/
def State.oldestClosed (s : State) : Option (Nat × Nat) :=
  (visitSlotIndices.filterMap fun i => (s.visitIn i).bind fun v =>
      if v.state = .closed then some (i, v.closeSequence.getD 0) else none).foldl
    (fun best p => match best with
      | none => some p
      | some q => if p.2 < q.2 then some p else best) none

/-- The slot a booking takes (R150). -/
def State.freeVisitSlot (s : State) : Option Nat :=
  match visitSlotIndices.find? fun i => (s.visitIn i).isNone with
  | some i => some i
  | none => s.oldestClosed.map fun p => p.1

/-- Empties a slot that holds the CLOSED visit of an id (R165). -/
def State.dropVisit (s : State) (slot id : Nat) : State :=
  if (s.visitIn slot).any fun v => v.id == id && v.state == .closed then s.onVct fun t => { t with slots := t.slots.setIfInBounds slot none } else s

/-- An empty report (Table 9-1). -/
def Report.initial : Report := { result := none, mismatch := false, overdue := false, ended := 0, rehomed := 0 }

/-- The action count moves once for an accepted request on a visit's behalf (R156). -/
def State.countAction (s : State) (visit : Nat) : State :=
  if visit = 0 then s else s.onVisit visit fun v => { v with actions := saturate 65535 (v.actions + 1) }

/-! ### Activation (R154, R155) -/

/-- The subject of a visit's notices (R164). -/
def visitSubject (id : Nat) : Subject := { visit := id }

/-- A visit activates: its times, its locks, and VISIT_ACTIVE (R154). -/
def State.activate (s : State) (v : Visit) (result : Nat) : State :=
  let s := s.onVisit v.id fun v =>
    { v with state := .active, activation := some s.now, deadline := some (s.now + 60 * v.duration), waitingLock := false }
  let s := if v.level = .observe then s else s.onVct fun t => v.scope.foldl (fun t c => t.lock v.id c) t
  s.raise .visitActive (visitSubject v.id) v.credential result

/-- Every cabinet of a visit's scope is unlocked. -/
def State.scopeFree (s : State) (v : Visit) : Bool := v.scope.all fun c => (s.lockOf c).isNone

/-- The arrival of a BOOKED visit's start: activation is attempted alone (R154). -/
def State.arrive (s : State) (v : Visit) : State :=
  if v.level = .observe ∨ s.scopeFree v = true then s.activate v 0 else s.onVisit v.id fun v => { v with waitingLock := true }

/-- The start of a visit has not arrived before, and the floor time is at or past it (R154). -/
def State.startDue (s : State) (v : Visit) : Bool :=
  v.state == .booked && !v.waitingLock && s.clock.valid && decide (v.bookedStart ≤ s.clock.floorTime)

/-- Puts a visit into a list in ascending order of booking sequence. -/
def insertVisit (v : Visit) : List Visit → List Visit
  | [] => [v]
  | w :: rest => if v.sequence ≤ w.sequence then v :: w :: rest else w :: insertVisit v rest

/-- Visits in ascending order of booking sequence (R155). -/
def byBooking (l : List Visit) : List Visit := l.foldr insertVisit []

/-- The arrivals that a new floor time brings (R154, R183 step 4; log 20). -/
def State.arrivals (s : State) : State := (byBooking (s.visits.filter s.startDue)).foldl State.arrive s

/-- The lock-wait arbiter (R155). -/
def State.runLockArbiter (s : State) : State :=
  (byBooking (s.visits.filter fun v => v.state == .booked && v.waitingLock)).foldl
    (fun s v => if s.scopeFree v then s.activate v 1 else s) s

/-! ### Deadlines (R158, R159) -/

/-- VISIT_OVERDUE, with the seconds from the deadline, and the next reminder (R158). -/
def State.raiseOverdue (s : State) (v : Visit) (result : Nat) : State :=
  let s := s.onVisit v.id fun v =>
    { v with lastOverdue := some s.now,
             nextReminder := if s.floor.reminderMin = 0 then none else some (s.now + 60 * s.floor.reminderMin) }
  s.raise .visitOverdue (visitSubject v.id) (s.now - v.deadline.getD s.now) result

/-- An ACTIVE visit reaches its deadline (R158). -/
def State.becomeOverdue (s : State) (v : Visit) : State :=
  (s.onVisit v.id fun v => { v with state := .overdue, report := { v.report with overdue := true } }).raiseOverdue v 0

/-! ### The close (R160 to R163) -/

/-- A visit becomes CLOSED (R163). -/
def State.closeVisitNow (s : State) (v : Visit) : State :=
  let leftovers := v.closeSet.filter fun id => (s.permit id).isSome
  let s := leftovers.foldl (fun s id => s.onPermit id fun p => { p with holder := 0, policy := some .onRequest }) s
  let result := if leftovers.isEmpty then VisitResult.clean else VisitResult.incomplete
  let mismatch := v.expected.any fun e => e != v.actions
  let rehomed := v.report.rehomed + leftovers.length
  let sequence := nextSequence Config.closePastTop s.vct.closes
  let released := s.vct.locks.any fun l => l == some v.id
  let s := s.onVisit v.id fun v =>
    { v with state := .closed, closeDeadline := none, closeSet := [], closeSequence := some sequence,
             report := { v.report with result := some result, mismatch := mismatch, rehomed := rehomed } }
  let s := s.onVct fun t => { t.unlock v.id with closes := sequence }
  let s := s.raise .visitClosed (visitSubject v.id) (v.actions + v.report.ended * 2 ^ 16 + rehomed * 2 ^ 24)
    ((if result = .clean then 1 else 2) + (if mismatch then 2 else 0))
  let s := if v.replaced.isEmpty then s else s.requestAgeingSave
  if released then s.runLockArbiter else s

/-- The close of a CLOSING visit whose close set is empty (R161, R162). -/
def State.visitCloseCheck (s : State) (id : Nat) : State :=
  match s.visit id with
  | none => s
  | some v => if v.state = .closing ∧ v.closeSet = [] then s.closeVisitNow v else s

/-- A permit held by a CLOSING visit has ended (R161, R162). -/
def State.visitPermitEnd (s : State) (visit permit : Nat) : State :=
  match s.visit visit with
  | none => s
  | some v =>
    if v.state = .closing ∧ v.closeSet.contains permit then
      (s.onVisit visit fun v =>
        { v with closeSet := v.closeSet.filter fun x => x != permit,
                 report := { v.report with ended := v.report.ended + 1 } }).visitCloseCheck visit
    else s

/-- What a close orders for one of the visit's permits (R161 groups 1 to 3). The grant passes that an aborted test brings run
before the orders of group 3 (log 45). -/
def State.visitOrder (s : State) (visit permit : Nat) : State :=
  match s.permit permit with
  | none => s
  | some p =>
    if p.holder ≠ visit then s
    else if p.state = .waiting then s.endPermit permit .cancelled
    else if p.isTest then s.push [.testAbort .visitClose]
    else (s.returnPermit p).getD s

/-- Puts an id into an ascending list. -/
def insertId (x : Nat) : List Nat → List Nat
  | [] => [x]
  | y :: ys => if x ≤ y then x :: y :: ys else y :: insertId x ys

/-- The ids of the permits of a visit that a condition picks, in ascending order. -/
def State.idsOf (s : State) (visit : Nat) (pick : Permit → Bool) : List Nat :=
  ((s.par.permits.filter fun p => p.holder == visit && pick p).map fun p => p.id).foldr insertId []

/-- A live permit with policy HOLD that is not waiting, which a close re-homes (R161 group 4). -/
def Permit.survives (p : Permit) : Bool := p.state != .waiting && p.policy == some .hold

/-- The close's orders are made: the HOLD permits of the visit are re-homed, those of its permits that the orders ended are
counted, those that still live are the close set, and a visit with none is closed (R161 group 4 and after). -/
def State.visitOrdersDone (s : State) (visit : Nat) (ordered : List Nat) : State :=
  let kept := s.idsOf visit Permit.survives
  let live := ordered.filter fun id => (s.permit id).isSome
  let s := kept.foldl (fun s id => s.onPermit id fun p => { p with holder := 0 }) s
  let s := s.onVisit visit fun v =>
    if v.state = .closing then
      { v with closeSet := live,
               report := { v.report with ended := v.report.ended + (ordered.length - live.length), rehomed := kept.length } }
    else v
  s.visitCloseCheck visit

/-- A visit enters CLOSING, with its expected count; its orders follow, and then the close set is fixed (R160, R161). -/
def State.enterClosing (s : State) (v : Visit) (expected : Option Nat) : State :=
  let ordered := s.idsOf v.id (fun p => p.state == .waiting) ++ s.idsOf v.id (fun p => p.state != .waiting && p.isTest) ++
    s.idsOf v.id (fun p => p.state != .waiting && !p.isTest && !p.survives)
  let s := s.onVisit v.id fun v =>
    { v with state := .closing, nextReminder := none, expected := expected,
             closeDeadline := some (s.now + 60 * s.floor.closeTimeoutMin), closeSet := [] }
  s.push ([.openHold] ++ ordered.map (Task.visitOrder v.id) ++ [.visitOrdersDone v.id ordered, .closeHold])

end Sys2Proof.Machine
end

