-- ==== Sys2Proof/Machine/Agenda.lean ====
section
/-! DEFINITION. Signals inside a command: what each does, the meeting of recomputation triggers (R120, R121), and the
running of all of them to their end. -/

namespace Sys2Proof.Machine

/-- The triggers waiting are met, one bus after another, unless a handing-on is open (R49, R120). -/
def State.meet (s : State) : State :=
  if s.hold = 0 then
    match s.firstTrigger with
    | none => s
    | some b => s.push [.recompute b, .meet]
  else s

/-- A recomputation and the handing of the bus to the PAR (R121); a trigger of an undefined bus is dropped (R120). -/
def State.recomputeBus (s : State) (b : Bus) : State :=
  let s := s.onTriggers fun v => v.set b false
  if (s.bus b).isSome then
    (s.recompute b).push [.openHold, .yieldTests b, .yieldWithdrawals b, .grantAdoptions b, .grantHeads b, .returnCheck b, .closeHold]
  else s

/-- A handing-on ends; the triggers raised in it are met once the last one has ended. -/
def State.closeHold (s : State) : State := (s.onHold fun n => n - 1).push [.meet]

/-- STARTUP, as step 4 of the start-up sequence queues it (R189). -/
def State.startupNotice (s : State) : State :=
  s.raise .startup {} (s.ims.configStatus.code * 256 + s.ims.ageingStatus.code) s.startCause

/-- Step 6 of the start-up sequence: the scanner, STOPPED, is started if the floor record asks for it (R16, R57, R189). -/
def State.autoScan (s : State) : State :=
  match s.floor.startScanDelay with
  | none => s
  | some delay => if s.configured = true ∧ s.scs.scanner = .stopped then s.orderScan delay 2 else s

/-- What one signal does. -/
def doTask (t : Task) (s : State) : State :=
  match t with
  | .meet => s.meet
  | .openHold => s.onHold (· + 1)
  | .closeHold => s.closeHold
  | .recompute b => s.recomputeBus b
  | .yieldTests b => s.yieldTests b
  | .yieldWithdrawals b => s.yieldWithdrawals b
  | .grantAdoptions b => s.grantAdoptions b
  | .grantHeads b => s.grantHeads b
  | .returnCheck b => s.returnCheck b
  | .trackAttempt c o isTestRead word => s.trackAttempt c o isTestRead word
  | .trackAlert c word cause => s.trackSuccess c (some word) (.alert cause)
  | .ageingOnChange c old new => s.ageingOnChange c old new
  | .testOnChange c b new => s.testOnChange c b new
  | .permitOnOverlay c r => s.permitOnOverlay c r
  | .permitOnChange c old new => s.permitOnChange c old new
  | .bypassFoundClosed b => s.bypassFoundClosed b
  | .permitOnFlags c => s.permitOnFlags c
  | .setOverlay c o => s.setOverlay c o
  | .transferFinal b o => s.transferFinal b o
  | .testFinal o reading => s.testFinal o reading
  | .scanFinal r o echo value => s.scanFinal r o echo value
  | .linkIdle low => s.linkIdle low
  | .drainDown => s.drainDown
  | .recoveryEnd atExpiry after => s.recoveryEnd atExpiry after
  | .testAbort cause => s.testAbort cause
  | .testGrant id => s.testGrant id
  | .permitEnd id result => (s.endPermit id result).push [.meet]
  | .testEnding => s.testEnding
  | .testIdle b => s.testIdle b
  | .visitPermitEnd v p => s.visitPermitEnd v p
  | .visitOrder v p => s.visitOrder v p
  | .visitOrdersDone v ordered => s.visitOrdersDone v ordered
  | .gapAccrual anchor => s.gapAccrual anchor
  | .dayCheck => s.dayCheck
  | .arrivals => s.arrivals
  | .startupNotice => s.startupNotice
  | .autoScan => s.autoScan

/-- One signal is handed on; those it gives rise to come before the ones already waiting. -/
def handNext (t : Task) (rest : List Task) (s : State) : State := (doTask t (s.onAgenda fun _ => [])).onAgenda fun a => a ++ rest

/-- Hands on at most `n` signals, until none waits. -/
def settleWithin : Nat → State → State
  | 0, s => s
  | n + 1, s =>
    match s.agenda with
    | [] => s
    | t :: rest => settleWithin n (handNext t rest s)

/-- How many signals one command may hand on; what would be left is kept in the agenda (log 11). -/
def settleBound : Nat := 1000000

/-- Every signal is handed on. -/
def State.settle (s : State) : State := settleWithin settleBound s

end Sys2Proof.Machine
end

