-- ==== Sys2Proof/Machine/Operands.lean ====
section
/-! DEFINITION. What every request is read and answered with: statuses, the fields of a body, clamping, the reference and
authority checks, and the frame of a reply. -/

namespace Sys2Proof.Machine

/-! ### Statuses and replies -/

/-- Reply statuses (Table 10-4). -/
inductive Status where
  | ok
  | accepted
  | okClamped
  | badLength
  | unknownKind
  | badArgument
  | notConfigured
  | clockNotSet
  | locked
  | authority
  | state
  | queueFull
  | tableFull
  | duplicate
  | permitsHeld
  | busy
  deriving DecidableEq, Repr

/-- Status codes (Table 10-4). -/
def Status.code : Status → Byte
  | .ok => 0x00#8
  | .accepted => 0x01#8
  | .okClamped => 0x02#8
  | .badLength => 0x10#8
  | .unknownKind => 0x11#8
  | .badArgument => 0x12#8
  | .notConfigured => 0x13#8
  | .clockNotSet => 0x14#8
  | .locked => 0x20#8
  | .authority => 0x21#8
  | .state => 0x22#8
  | .queueFull => 0x23#8
  | .tableFull => 0x24#8
  | .duplicate => 0x25#8
  | .permitsHeld => 0x26#8
  | .busy => 0x27#8

/-- A reply: its status and what follows it (R172). Where the owning rule gives a value no width, log 47 says the one it is
sent in. -/
structure Reply where
  status : Status
  rest : List Byte
  deriving DecidableEq, Repr

/-- The body of a reply frame: the status, then the rest (R168). -/
def Reply.body (r : Reply) : List Byte := r.status.code :: r.rest

/-- OK, or OK_CLAMPED where something was clamped (R173). -/
def okStatus (clamped : Bool) : Status := if clamped then .okClamped else .ok

/-- A request's handling: the state it leaves and its reply. -/
abbrev Answer := State × Reply

/-- A refusal: the status alone, and no effect on any state (R172). -/
def refuse (s : State) (st : Status) : Answer := (s, { status := st, rest := [] })

/-- The octets of a frame (R168). -/
def frameOctets (f : Frame) : List Byte :=
  let covered := BitVec.ofNat 8 f.body.length :: f.kind :: f.tag :: f.body
  0xB7#8 :: covered ++ octets 2 (crc16 covered).toNat

/-- The reply frame of a request (R168, R172). -/
def replyFrame (kind tag : Byte) (r : Reply) : List Byte := frameOctets { kind := kind + 0x80#8, tag := tag, body := r.body }

/-! ### The fields of a body -/

/-- The quantity of `n` octets at an offset of a body (section 0.6). -/
def field (body : List Byte) (offset n : Nat) : Nat := quantity ((body.drop offset).take n)

/-- The first check that fails gives the status (R5, R172). -/
def firstFailing : List (Bool × Status) → Option Status
  | [] => none
  | (passed, st) :: rest => if passed then firstFailing rest else some st

/-- Answers the refusal of the first failing check, and goes on where none fails. -/
def checked (s : State) (checks : List (Bool × Status)) (goOn : Answer) : Answer :=
  match firstFailing checks with
  | some st => refuse s st
  | none => goOn

/-- A bus operand 0..3 (R5). -/
def busOperand (n : Nat) : Option Bus := if h : n < 4 then some ⟨n, h⟩ else none

/-- A cabinet operand names a defined cabinet. -/
def State.cabinetNamed (s : State) (c : Nat) : Bool := (s.cabinet c).isSome

/-- A cabinet and slot operand name a defined string. -/
def State.stringNamed (s : State) (c slot : Nat) : Bool := (s.string c slot).isSome

/-- A visit field is 0, or names a visit in the table (R173). -/
def State.visitNamed (s : State) (visit : Nat) : Bool := visit == 0 || (s.visit visit).isSome

/-- The lock, state, scope and level check of a request with a visit field (R6, R156); none where it passes. A host-direct
request on a cabinet that a visit locks is LOCKED whatever permit it names, though R160 speaks of a visit's ON_REQUEST permit
that the host ends host-direct (log 50). -/
def State.authorise (s : State) (visit : Nat) (touched : List Nat) (level : Level) : Option Status :=
  if visit = 0 then (if touched.all fun c => (s.lockOf c).isNone then none else some .locked)
  else match s.visit visit with
    | none => some .badArgument
    | some v =>
      if v.state ≠ .active ∧ v.state ≠ .overdue then some .state
      else if (touched.all fun c => v.scope.contains c) = false then some .locked
      else if v.level.code < level.code then some .authority
      else none

/-- The authority check as one of a list of checks. -/
def State.authorityCheck (s : State) (visit : Nat) (touched : List Nat) (level : Level) : Bool × Status :=
  match s.authorise visit touched level with
  | none => (true, .ok)
  | some st => (false, st)

/-- The configuration check (R16). -/
def State.configuredCheck (s : State) : Bool × Status := (s.configured, .notConfigured)

/-- A live permit of any kind names the cabinet. -/
def State.permitNames (s : State) (c : Nat) : Bool := s.par.permits.any fun p => p.cabinet == some c

/-- The TEN's context names the cabinet in a phase other than IDLE (R98). -/
def State.testNames (s : State) (c : Nat) : Bool := s.test.phase != .idle && s.test.subject.any fun u => u.cabinet == c

/-- The number of records a read carries, and its status (R174). A first index at the last record leaves one record available,
which is carried, though R174 also says that such a read carries none (log 52). -/
def readNumber (wanted available fit : Nat) : Nat × Status :=
  let n := min wanted (min available fit)
  (n, if n = wanted ∨ n = available then .ok else .okClamped)

/-! ### Clamping (R7) -/

/-- A setting clamped to a range, with whether it was. -/
structure Clamped where
  value : Nat
  moved : Bool
  deriving DecidableEq, Repr

/-- Clamps a setting to the nearer limit of its range (R7). -/
def clamp (low high value : Nat) : Clamped := { value := clampTo low high value, moved := clampTo low high value != value }

/-- The link rate's own clamping (R7). -/
def clampRate (value : Nat) : Clamped :=
  if value = 100 ∨ value = 400 then { value := value, moved := false }
  else { value := if value ≤ 250 then 100 else 400, moved := true }

/-- The start-up scan delay's own clamping: 0xFFFF is OFF (R1, R7). -/
def clampDelay (value : Nat) : Option Nat × Bool :=
  if value = 0xFFFF then (none, false) else if 1440 < value then (some 1440, true) else (some value, false)

/-- A combine mode code (Table 1-4, R52). -/
def CombineMode.ofCode : Nat → Option CombineMode
  | 0 => some .mean
  | 1 => some .max
  | 2 => some .min
  | 3 => some .first
  | _ => none

/-- Combine mode codes. -/
def CombineMode.code : CombineMode → Nat
  | .mean => 0
  | .max => 1
  | .min => 2
  | .first => 3

/-- A policy code (Table 8-4). -/
def Policy.ofCode : Nat → Option Policy
  | 0 => some .onRequest
  | 1 => some .whenDone
  | 2 => some .yield
  | 3 => some .hold
  | _ => none

/-- A level code (Table 9-1). -/
def Level.ofCode : Nat → Option Level
  | 0 => some .observe
  | 1 => some .operate
  | 2 => some .battery
  | 3 => some .supervise
  | _ => none

/-- A wait deadline in minutes, held at 1440; 0 stands for none (R100, R130). -/
def storedDeadline (minutes : Nat) : Nat := min minutes 1440

/-! ### The record bodies of the defining requests (Tables 1-1 to 1-5) -/

/-- The floor record of a DEFINE_FLOOR body, with whether a field was clamped (Table 1-1). -/
def floorOperand (body : List Byte) : FloorRec × Bool :=
  let rate := clampRate (field body 1 2)
  let stretch := clamp 1 100 (field body 3 1)
  let threshold := clamp 1 15 (field body 4 1)
  let stale := clamp 1 15 (field body 5 1)
  let close := clamp 1 60 (field body 6 1)
  let reminder := clamp 0 120 (field body 7 1)
  let delay := clampDelay (field body 8 2)
  ({ linkRate := rate.value, stretchMs := stretch.value, unreachableThreshold := threshold.value,
     staleRounds := stale.value, closeTimeoutMin := close.value, reminderMin := reminder.value, startScanDelay := delay.1 },
   rate.moved || stretch.moved || threshold.moved || stale.moved || close.moved || reminder.moved || delay.2)

/-- The octets of a floor record as stored (Table 1-1). -/
def FloorRec.octets (f : FloorRec) : List Byte :=
  Machine.octets 2 f.linkRate ++ Machine.octets 1 f.stretchMs ++ Machine.octets 1 f.unreachableThreshold ++
    Machine.octets 1 f.staleRounds ++ Machine.octets 1 f.closeTimeoutMin ++ Machine.octets 1 f.reminderMin ++
    Machine.octets 2 (f.startScanDelay.getD 0xFFFF)

/-- The bus record of a DEFINE_BUS body (Table 1-2). -/
def busRecOperand (body : List Byte) : BusRec × Bool :=
  let reserve := clamp 0 3 (field body 2 1)
  let headroom := clamp 0 50 (field body 3 1)
  let autonomy := clamp 0 120 (field body 4 1)
  let spacing := clamp 1 60 (field body 5 1)
  let sync := clamp 1 30 (field body 6 1)
  let transfer := clamp 5 300 (field body 7 2)
  ({ reserve := reserve.value, headroom := headroom.value, minAutonomy := autonomy.value, spacing := spacing.value,
     syncTimeout := sync.value, transferTimeout := transfer.value },
   reserve.moved || headroom.moved || autonomy.moved || spacing.moved || sync.moved || transfer.moved)

/-- The octets of a bus record as stored (Table 1-2). -/
def BusRec.octets (b : BusRec) : List Byte :=
  Machine.octets 1 b.reserve ++ Machine.octets 1 b.headroom ++ Machine.octets 1 b.minAutonomy ++
    Machine.octets 1 b.spacing ++ Machine.octets 1 b.syncTimeout ++ Machine.octets 2 b.transferTimeout

/-- The octets of a cabinet record as stored (Table 1-3). -/
def CabinetRec.octets (k : CabinetRec) : List Byte :=
  Machine.octets 1 k.address ++ Machine.octets 1 k.bus.val ++ Machine.octets 2 k.rating ++
    Machine.octets 1 k.stringCount ++ Machine.octets 1 k.master.toNat ++ k.tag

/-- The four rated values of a string, at an offset of a body: C, energy, design life, N (Tables 1-4, 9-2). -/
def ratedOperand (body : List Byte) (offset : Nat) (d : StringRec) : StringRec × Bool :=
  let capacity := clamp 1 5000 (field body offset 2)
  let energy := clamp 100 2000000 (field body (offset + 2) 4)
  let life := clamp 365 7300 (field body (offset + 6) 2)
  let cycles := clamp 10 5000 (field body (offset + 8) 2)
  ({ d with capacity := capacity.value, energy := energy.value, designLife := life.value, cycles := cycles.value },
   capacity.moved || energy.moved || life.moved || cycles.moved)

/-- The octets of the four rated values as stored. -/
def StringRec.ratedOctets (d : StringRec) : List Byte :=
  octets 2 d.capacity ++ octets 4 d.energy ++ octets 2 d.designLife ++ octets 2 d.cycles

/-- The string record of a DEFINE_STRING body, with its combine mode (Table 1-4). -/
def stringOperand (body : List Byte) (mode : CombineMode) : StringRec × Bool :=
  let shunt := clamp 100 100000 (field body 13 4)
  let signal := clamp 500 50000 (field body 17 2)
  let step := clamp 1 10 (field body 19 1)
  let settle := clamp 0 10 (field body 20 1)
  let float := clamp 1 1000 (field body 21 2)
  let hold := clamp 1 72 (field body 23 1)
  let lead := clamp 0 365 (field body 24 2)
  let alarm := clamp 0 100 (field body 26 1)
  let rated := ratedOperand body 3
    { capacity := 1, energy := 100, designLife := 365, cycles := 10, shunt := shunt.value, minSignal := signal.value,
      stepTime := step.value, settleTime := settle.value, floatThreshold := float.value, holdHours := hold.value,
      serviceLead := lead.value, alarmLevel := alarm.value, combine := mode }
  (rated.1, rated.2 || shunt.moved || signal.moved || step.moved || settle.moved || float.moved || hold.moved ||
    lead.moved || alarm.moved)

/-- The octets of a string record as stored (Table 1-4). -/
def StringRec.octets (d : StringRec) : List Byte :=
  d.ratedOctets ++ Machine.octets 4 d.shunt ++ Machine.octets 2 d.minSignal ++ Machine.octets 1 d.stepTime ++
    Machine.octets 1 d.settleTime ++ Machine.octets 2 d.floatThreshold ++ Machine.octets 1 d.holdHours ++
    Machine.octets 2 d.serviceLead ++ Machine.octets 1 d.alarmLevel ++ Machine.octets 1 d.combine.code

end Sys2Proof.Machine
end

