-- ==== Sys2Proof/Machine/Definitions.lean ====
section
/-! DEFINITION. The defining requests, UNDEFINE, COMMIT_CONFIG and SEED_AGEING (spec/01, R94, R187). -/

namespace Sys2Proof.Machine

/-! ### What refuses a change (step 5 of R5) -/

/-- The cabinet is in the prepared set of a bus whose sequencer is not NORMAL (R142). -/
def State.inPreparedSet (s : State) (b : Bus) (c : Nat) : Bool :=
  (s.seqOf b).state != .normal && (s.seqOf b).prepared.any fun x => x.cabinet == c

/-- The bus holds a live BUS_BYPASS permit, or its sequencer is not NORMAL. -/
def State.bypassBusy (s : State) (b : Bus) : Bool := s.hasBypass b || (s.seqOf b).state != .normal

/-! ### DEFINE_FLOOR (R8) -/

/-- The next reminder of an OVERDUE visit under a new interval; one already due is raised at once (R8). -/
def State.moveReminder (s : State) (v : Visit) : State :=
  if v.state = .overdue then
    if s.floor.reminderMin = 0 then s.onVisit v.id fun v => { v with nextReminder := none }
    else
      let next := v.lastOverdue.getD s.now + 60 * s.floor.reminderMin
      if next ≤ s.now then s.raiseOverdue v 1 else s.onVisit v.id fun v => { v with nextReminder := some next }
  else s

/-- DEFINE_FLOOR (R5 to R8). Reminders that fall due at once are raised in the order of the visits' slots (log 32). -/
def handleDefineFloor (s : State) (body : List Byte) : Answer :=
  let visit := field body 0 1
  let new := floorOperand body
  checked s [(body.length == 10, .badLength), (s.visitNamed visit, .badArgument), s.authorityCheck visit [] .supervise] <|
    let s := s.onFloor fun _ => new.1
    let s := (s.visits.foldl State.moveReminder s).countAction visit
    (s, { status := okStatus new.2, rest := new.1.octets })

/-! ### DEFINE_BUS (R9) -/

/-- A bus is created with its figures, or its record is replaced with a recomputation trigger (R9). A command left in hand
by an undefined bus of the same name stays in hand (log 34). -/
def State.defineBus (s : State) (b : Bus) (d : BusRec) : State :=
  match s.bus b with
  | none => (s.setBus b (some { defn := d, fig := .initial d.reserve })).onSeq b fun _ => .initial
  | some u => (s.setBus b (some { u with defn := d })).trigger b

/-- DEFINE_BUS (R5 to R7, R9). -/
def handleDefineBus (s : State) (body : List Byte) : Answer :=
  let visit := field body 0 1
  let index := field body 1 1
  let new := busRecOperand body
  checked s [(body.length == 9, .badLength), ((busOperand index).isSome && s.visitNamed visit, .badArgument),
      s.authorityCheck visit [] .supervise] <|
    match busOperand index with
    | none => refuse s .badArgument
    | some b =>
      (((s.defineBus b new.1).countAction visit).push [.meet],
        { status := okStatus new.2, rest := octets 1 index ++ new.1.octets })

/-! ### Slots and strings (R12, R13) -/

/-- A string slot is undefined: its scan entries and its records go (R13). -/
def State.undefineSlot (s : State) (c slot : Nat) : State :=
  let s := s.dropEntries fun e => e.cabinet == c && e.point.slot == some slot
  (s.onCabinet c fun k => k.setSlot slot none).triggerCabinet c

/-- A string slot is created, or its record replaced (R12). -/
def State.defineString (s : State) (c slot : Nat) (d : StringRec) : State :=
  let s := match s.string c slot with
    | none =>
      let s := s.onCabinet c fun k => k.setSlot slot (some { defn := d, age := .fresh s.now false })
      let s := s.ageString c slot bothRecomputes
      if s.tracked c = some Tracked.onBattery then s.ageString c slot (stringEvent s.clock .dischargeStart) else s
    | some u =>
      (s.onCabinet c fun k => k.setSlot slot (some { u with defn := d })).ageString c slot bothRecomputes
  s.triggerCabinet c

/-- A live STRING_TEST permit has the string as its subject. -/
def State.testPermitOn (s : State) (c slot : Nat) : Bool :=
  s.par.permits.any fun p => p.isTest && p.cabinet == some c && p.slot == slot

/-- DEFINE_STRING (R5 to R7, R12). -/
def handleDefineString (s : State) (body : List Byte) : Answer :=
  let visit := field body 0 1
  let c := field body 1 1
  let slot := field body 2 1
  let inRange := (s.cabinet c).any fun k => decide (1 ≤ slot ∧ slot ≤ 4 ∧ slot ≤ k.defn.stringCount)
  let mode := CombineMode.ofCode (field body 27 1)
  let onString := s.test.phase != .idle && s.test.subject.any fun u => u.cabinet == c && u.slot == slot
  checked s [(body.length == 28, .badLength), (inRange && mode.isSome && s.visitNamed visit, .badArgument),
      s.authorityCheck visit [c] .supervise, (!s.testPermitOn c slot && !onString, .state)] <|
    let new := stringOperand body (mode.getD .mean)
    (((s.defineString c slot new.1).countAction visit).push [.meet],
      { status := okStatus new.2, rest := octets 1 c ++ octets 1 slot ++ new.1.octets })

/-! ### DEFINE_CABINET (R10, R11) -/

/-- The cabinet record of a DEFINE_CABINET body, with whether a setting was clamped (Table 1-3). -/
def cabinetOperand (body : List Byte) (b : Bus) : CabinetRec × Bool :=
  let rating := clamp 1 2000 (field body 4 2)
  let count := clamp 0 4 (field body 6 1)
  ({ address := field body 2 1, bus := b, rating := rating.value, stringCount := count.value,
     master := field body 7 1 == 1, tag := (body.drop 8).take 8 }, rating.moved || count.moved)

/-- The assignment of the master flag changes the master of a bus where it must not (R11): the defined cabinet's new
bus, and the bus it carries the flag away from. -/
def State.masterRefused (s : State) (c : Nat) (new : CabinetRec) : Bool :=
  let before := s.masterOf new.bus
  let after := if new.master then some c else if before = some c then none else before
  let first := before == none && (s.seqOf new.bus).state == .normal &&
    (s.par.permits.all fun p => !(p.kind == .busBypass && p.bus == new.bus && p.state != .waiting))
  let onNew := before != after && s.bypassBusy new.bus && !first
  let onOld := (s.cabinet c).any fun k => k.defn.bus != new.bus && k.defn.master && s.bypassBusy k.defn.bus
  onNew || onOld

/-- The step-5 refusals of a DEFINE_CABINET (R10, R11). -/
def State.cabinetRefused (s : State) (c : Nat) (new : CabinetRec) : Bool :=
  (match s.cabinet c with
    | none => false
    | some k =>
      let busMoves := k.defn.bus != new.bus
      let countMoves := k.defn.stringCount != new.stringCount
      ((busMoves || countMoves) && (s.permitNames c || s.testNames c)) || (busMoves && s.inPreparedSet k.defn.bus c)) ||
  s.masterRefused c new

/-- The cabinet that loses the master flag: the earlier master, or the cabinet itself where it gives the flag up (R11;
log 28). -/
def State.lostMaster (s : State) (c : Nat) (new : CabinetRec) : Nat :=
  if new.master then (match s.masterOf new.bus with
    | none => 0
    | some m => if m = c then 0 else m)
  else if (s.cabinet c).any fun k => k.defn.master then c
  else 0

/-- The earlier master of a bus gives up its flag and its pending check (R11, R47). -/
def State.takeFlag (s : State) (c : Nat) (new : CabinetRec) : State :=
  match s.masterOf new.bus with
  | none => s
  | some m =>
    if new.master = true ∧ m ≠ c then
      s.onCabinet m fun k => { k with defn := { k.defn with master := false }, track := { k.track with bypassCheckPending := false } }
    else s

/-- The bypass check of a redefined cabinet: set as it becomes master of its bus, clear without the flag (R47). -/
def pendingCheck (old new : CabinetRec) (pending : Bool) : Bool :=
  new.master && (pending || !old.master || old.bus != new.bus)

/-- A redefinition's effects on what the record governs (R10): slots, buses and transfer queues. A change of bus comes before
a change of address (log 33). -/
def State.redefineCabinet (s : State) (c : Nat) (k : Cabinet) (new : CabinetRec) : State :=
  let s := (slotIndices.filter fun slot => new.stringCount < slot && (k.slot slot).isSome).foldl
    (fun s slot => s.undefineSlot c slot) s
  let s := s.onCabinet c fun k =>
    { k with defn := new, track := { k.track with bypassCheckPending := pendingCheck k.defn new k.track.bypassCheckPending } }
  let s := if k.defn.bus = new.bus then s else ((s.dropTransfers k.defn.bus c).trigger k.defn.bus).trigger new.bus
  let s := if k.defn.rating = new.rating ∧ k.defn.stringCount = new.stringCount then s else s.trigger new.bus
  if k.defn.address = new.address then s
  else match s.cabinet c with
    | none => s
    | some k => s.completeTrack c k .addressChange (TrackWork.quiet (k.track.reset new.master))

/-- DEFINE_CABINET's effects (R10, R11). -/
def State.defineCabinet (s : State) (c : Nat) (new : CabinetRec) : State :=
  let s := s.takeFlag c new
  match s.cabinet c with
  | none =>
    (s.setCabinet c (some { defn := new, track := .initial new.master, strings := Vector.replicate 4 none })).trigger new.bus
  | some k => s.redefineCabinet c k new

/-- DEFINE_CABINET (R5 to R7, R10, R11). -/
def handleDefineCabinet (s : State) (body : List Byte) : Answer :=
  let visit := field body 0 1
  let c := field body 1 1
  let address := field body 2 1
  let master := field body 7 1
  let bus := busOperand (field body 3 1)
  let named := decide (1 ≤ c ∧ c ≤ 24 ∧ 1 ≤ address ∧ address ≤ 31 ∧ master ≤ 1) &&
    (bus.any fun b => (s.bus b).isSome) && s.visitNamed visit
  checked s [(body.length == 16, .badLength), (named, .badArgument)] <|
    match bus with
    | none => refuse s .badArgument
    | some b =>
      let new := cabinetOperand body b
      let earlier := if new.1.master then ((s.masterOf b).filter fun m => m != c).toList else []
      let held := s.definedCabinets.any fun p => p.1 != c && p.2.defn.address == address
      checked s [s.authorityCheck visit (c :: earlier) .supervise, (!held, .duplicate), (!s.cabinetRefused c new.1, .state)]
        (((s.defineCabinet c new.1).countAction visit).push [.meet],
          { status := okStatus new.2, rest := octets 1 c ++ new.1.octets ++ octets 1 (s.lostMaster c new.1) })

/-! ### UNDEFINE (R13 to R15) -/

/-- UNDEFINE of a string (R13). -/
def handleUndefineString (s : State) (visit c slot : Nat) : Answer :=
  checked s [(s.stringNamed c slot && s.visitNamed visit, .badArgument), s.authorityCheck visit [c] .supervise,
      (!s.permitNames c && !s.testNames c, .state)] <|
    (((s.undefineSlot c slot).countAction visit).push [.meet], { status := .ok, rest := [] })

/-- The step-5 refusals of UNDEFINE of a cabinet (R14). -/
def State.undefineRefused (s : State) (c : Nat) (k : Cabinet) : Bool :=
  s.permitNames c || s.testNames c || (k.defn.master && s.bypassBusy k.defn.bus) || s.inPreparedSet k.defn.bus c ||
    s.visits.any fun v => v.state != .closed && v.scope.contains c

/-- A cabinet is undefined with its slots, scan entries, requests and transfer entries (R14). -/
def State.undefineCabinet (s : State) (c : Nat) (k : Cabinet) : State :=
  let s := s.dropEntries fun e => e.cabinet == c
  let s := (s.onClc fun l => l.discredit c).dropTransfers k.defn.bus c
  (s.setCabinet c none).trigger k.defn.bus

/-- UNDEFINE of a cabinet (R14). -/
def handleUndefineCabinet (s : State) (visit c : Nat) : Answer :=
  match s.cabinet c with
  | none => refuse s .badArgument
  | some k =>
    checked s [(s.visitNamed visit, .badArgument), s.authorityCheck visit [c] .supervise,
        (!s.undefineRefused c k, .state)] <|
      (((s.undefineCabinet c k).countAction visit).push [.meet], { status := .ok, rest := [] })

/-- A bus is undefined; the scanner stops with the last one (R15, R16). A command in hand stays so, its outcome used for
nothing (log 34), and a spacing timer that runs stops (log 49). -/
def State.undefineBus (s : State) (b : Bus) : State :=
  let s := s.setBus b none
  let s := (s.dequeue b fun _ => true).voidInHand b fun _ => true
  let s := s.onQueue b fun q => { q with spacingDue := none }
  if s.configured then s else s.stopScan

/-- UNDEFINE of a bus (R15). -/
def handleUndefineBus (s : State) (visit index : Nat) : Answer :=
  match busOperand index with
  | none => refuse s .badArgument
  | some b =>
    checked s [((s.bus b).isSome && s.visitNamed visit, .badArgument), s.authorityCheck visit [] .supervise,
        ((s.cabinetsOf b).isEmpty && !s.bypassBusy b, .state)] <|
      (((s.undefineBus b).countAction visit).push [.meet], { status := .ok, rest := [] })

/-- UNDEFINE: the target selects the record (R5, Table 1-5). -/
def handleUndefine (s : State) (body : List Byte) : Answer :=
  if body.length ≠ 4 then refuse s .badLength
  else
    let visit := field body 0 1
    match field body 1 1 with
    | 1 => handleUndefineBus s visit (field body 2 1)
    | 2 => handleUndefineCabinet s visit (field body 2 1)
    | 3 => handleUndefineString s visit (field body 2 1) (field body 3 1)
    | _ => refuse s .badArgument

/-! ### COMMIT_CONFIG and SEED_AGEING -/

/-- COMMIT_CONFIG (R187; the two save states have one octet each in the reply, log 47). -/
def handleCommitConfig (s : State) (body : List Byte) : Answer :=
  checked s [(body.length == 0, .badLength), s.configuredCheck] <|
    let s := s.requestConfigSave.requestAgeingSave
    (s.push [.meet], { status := .accepted, rest := octets 1 s.ims.configSave.code ++ octets 1 s.ims.ageingSave.code })

/-- SEED_AGEING (R94). -/
def handleSeedAgeing (s : State) (body : List Byte) : Answer :=
  let c := field body 0 1
  let slot := field body 1 1
  let wear := field body 2 5
  let charge := field body 7 6
  let base := clamp 0 99999999 (field body 13 4)
  checked s [(body.length == 17, .badLength), (s.stringNamed c slot, .badArgument), ((s.lockOf c).isNone, .locked),
      ((s.string c slot).any fun u => u.age.ageingLost, .state)] <|
    let s := s.ageString c slot fun d a => bothRecomputes d (a.seeded s.now wear charge base.value d)
    ((s.triggerCabinet c).requestAgeingSave.push [.meet],
      { status := okStatus base.moved,
        rest := octets 1 c ++ octets 1 slot ++ octets 5 wear ++ octets 6 charge ++ octets 4 base.value })

end Sys2Proof.Machine
end

