-- ==== Sys2Proof/Machine/PermitRequests.lean ====
section
/-! DEFINITION. The permit and test requests (spec/08 section 8.2, spec/06 section 6.2). -/

namespace Sys2Proof.Machine

/-- The level a withdrawal's policy needs (Table 9-4). -/
def withdrawLevel (policy : Policy) : Level := if policy = .hold then .supervise else .operate

/-- The cabinets a permit's requests touch: its cabinet, or for a bypass every defined cabinet of the bus (R130, R132). -/
def State.permitTouches (s : State) (p : Permit) : List Nat :=
  match p.cabinet with
  | some c => [c]
  | none => (s.cabinetsOf p.bus).map fun x => x.1

/-- Creation, its recomputation and the passes that follow; an adoption is granted at once (R130, R131). -/
def State.askPermit (s : State) (kind : PermitKind) (b : Bus) (c : Option Nat) (visit : Nat) (policy : Option Policy)
    (deadlineMin : Nat) : State × Nat :=
  let created := s.createPermit kind b c visit policy deadlineMin
  let s := created.1.countAction visit
  let s := match s.permit created.2 with
    | none => s
    | some p => if s.isAdoption p then s.grant p else s
  ((s.push [.meet]).settle, created.2)

/-- The state octet of a permit: its state code, or 0xFF once it has ended (R132; logs 19 and 47). -/
def State.permitStateOctet (s : State) (id : Nat) : List Byte :=
  match s.permit id with
  | none => octets 1 0xFF
  | some p => octets 1 p.state.code

/-- The table, and the wait queue of the bus unless the permit is an adoption, have room (Table 8-5). -/
def State.roomChecks (s : State) (b : Bus) (adoption : Bool) : List (Bool × Status) :=
  [(decide (s.par.permits.length < Config.permitCapacity), .tableFull),
   (adoption || decide ((s.waitQueue b).length < Config.waitCapacity), .queueFull)]

/-- The reply of an accepted permit request (R130; its widths are log 47). -/
def State.askReply (s : State) (id : Nat) (policy : Policy) (deadline : Nat) : Reply :=
  { status := .accepted,
    rest := octets 1 id ++ s.permitStateOctet id ++ octets 1 policy.code ++ octets 2 deadline }

/-- REQUEST_WITHDRAW (R130). -/
def handleRequestWithdraw (s : State) (body : List Byte) : Answer :=
  let visit := field body 0 1
  let c := field body 1 1
  let deadline := storedDeadline (field body 3 2)
  checked s [(body.length == 5, .badLength), s.configuredCheck] <|
    match s.busOf c, Policy.ofCode (field body 2 1) with
    | some b, some policy =>
      let adoption := s.tracked c == some .standby || s.tracked c == some .isolated
      checked s ([(s.visitNamed visit, .badArgument), s.authorityCheck visit [c] (withdrawLevel policy),
          (!s.permitNames c, .duplicate)] ++ s.roomChecks b adoption) <|
        let asked := s.askPermit .withdraw b (some c) visit (some policy) deadline
        (asked.1, asked.1.askReply asked.2 policy deadline)
    | _, _ => refuse s .badArgument

/-- REQUEST_BUS_BYPASS (R130, R131). -/
def handleRequestBypass (s : State) (body : List Byte) : Answer :=
  let visit := field body 0 1
  let deadline := storedDeadline (field body 3 2)
  checked s [(body.length == 5, .badLength), s.configuredCheck] <|
    match (busOperand (field body 1 1)).filter fun b => (s.bus b).isSome,
        (Policy.ofCode (field body 2 1)).filter fun p => p != .yield with
    | some b, some policy =>
      let adoption := (s.seqOf b).state == .onMaintBypass && (s.seqOf b).orphan
      checked s ([(s.visitNamed visit, .badArgument),
          s.authorityCheck visit ((s.cabinetsOf b).map fun x => x.1) .supervise, (!s.hasBypass b, .duplicate)] ++
          s.roomChecks b adoption) <|
        let asked := s.askPermit .busBypass b none visit (some policy) deadline
        (asked.1, asked.1.askReply asked.2 policy deadline)
    | _, _ => refuse s .badArgument

/-- The level a return needs (R132). -/
def Permit.returnLevel (p : Permit) : Level := if p.kind = .busBypass then .supervise else .operate

/-- RETURN_PERMIT (R132; a host-direct one on a locked cabinet is log 50). -/
def handleReturnPermit (s : State) (body : List Byte) : Answer :=
  let visit := field body 0 1
  checked s [(body.length == 2, .badLength), s.configuredCheck] <|
    match s.permit (field body 1 1) with
    | none => refuse s .badArgument
    | some p =>
      checked s [(s.visitNamed visit, .badArgument), s.authorityCheck visit (s.permitTouches p) p.returnLevel] <|
        match s.returnPermit p with
        | none => refuse s .state
        | some s =>
          let s := ((s.countAction visit).push [.meet]).settle
          (s, { status := .ok, rest := octets 1 p.id ++ s.permitStateOctet p.id })

/-- The level a cancellation needs (R133). -/
def Permit.cancelLevel (p : Permit) : Level :=
  match p.kind with
  | .busBypass => .supervise
  | .stringTest _ _ => .battery
  | .withdraw => if p.policy = some .hold then .supervise else .operate

/-- CANCEL_REQUEST (R133; a host-direct one on a locked cabinet is log 50). -/
def handleCancelRequest (s : State) (body : List Byte) : Answer :=
  let visit := field body 0 1
  checked s [(body.length == 2, .badLength), s.configuredCheck] <|
    match s.permit (field body 1 1) with
    | none => refuse s .badArgument
    | some p =>
      checked s [(s.visitNamed visit, .badArgument), s.authorityCheck visit (s.permitTouches p) p.cancelLevel,
          (p.state == .waiting, .state)] <|
        (((s.endPermit p.id .cancelled).countAction visit).push [.meet], { status := .ok, rest := octets 1 p.id })

/-- START_STRING_TEST (R100; the widths of the reply are log 47). -/
def handleStartTest (s : State) (body : List Byte) : Answer :=
  let visit := field body 0 1
  let c := field body 1 1
  let slot := field body 2 1
  let steps := clampTo 1 8 (field body 3 1)
  let deadline := storedDeadline (field body 4 2)
  checked s [(body.length == 6, .badLength), s.configuredCheck] <|
    match s.busOf c with
    | none => refuse s .badArgument
    | some b =>
      checked s ([(s.stringNamed c slot && s.visitNamed visit, .badArgument), s.authorityCheck visit [c] .battery,
          (!s.permitNames c, .duplicate)] ++ s.roomChecks b false) <|
        let asked := s.askPermit (.stringTest slot steps) b (some c) visit none deadline
        (asked.1, { status := .accepted, rest := octets 1 asked.2 ++ octets 1 steps ++ octets 2 deadline })

/-- ABORT_STRING_TEST (R102). -/
def handleAbortTest (s : State) (body : List Byte) : Answer :=
  let visit := field body 0 1
  checked s [(body.length == 2, .badLength), s.configuredCheck] <|
    match (s.permit (field body 1 1)).filter Permit.isTest with
    | none => refuse s .badArgument
    | some p =>
      checked s [(s.visitNamed visit, .badArgument), s.authorityCheck visit (s.permitTouches p) .battery,
          (p.state == .granted, .state)] <|
        ((s.countAction visit).push [.testAbort .request, .meet], { status := .ok, rest := octets 1 p.id })

end Sys2Proof.Machine
end

