-- ==== Sys2Proof/Machine/Reads.lean ====
section
/-! DEFINITION. The read requests and their records (R51, R69, R96, R97, R126, R148, R165, R174). -/

namespace Sys2Proof.Machine

/-- Zeros for the fields of an undefined record. -/
def zeros (n : Nat) : List Byte := List.replicate n 0#8

/-- A read's answer: the number of records and the records of the items from the first one (R174). -/
def readAnswer {α : Type} (s : State) (items : List α) (wanted fit : Nat) (record : α → List Byte) : Answer :=
  let n := readNumber wanted items.length fit
  (s, { status := n.2, rest := octets 1 n.1 ++ (items.take n.1).flatMap record })

/-! ### READ_BUS (R126) -/

/-- A bus record (Table 7-4). -/
def State.busRecord (s : State) (b : Bus) : List Byte :=
  match s.bus b with
  | none => octets 1 b.val ++ zeros 28
  | some u =>
    octets 1 b.val ++ octets 1 1 ++ octets 1 u.fig.security.code ++
      octets 1 (bit 0 u.fig.uncertain + bit 1 u.fig.roundSeen + bit 2 ((s.seqOf b).state != .normal)) ++
      octetsHeld u.fig.load ++ octets 1 u.fig.uncertainCount ++ octets 1 u.fig.online ++ octets 4 u.fig.capacity ++
      octetsHeld u.fig.required ++ signedOctets 1 u.fig.spare ++ signedOctets 1 u.fig.margin ++ octets 4 u.fig.energy ++
      octets 2 u.fig.autonomy ++ octets 1 u.defn.reserve ++ octets 1 u.defn.headroom ++ octets 1 u.defn.minAutonomy

/-- READ_BUS (R126; what R16 says of the reads while nothing is defined is log 53). -/
def handleReadBus (s : State) (body : List Byte) : Answer :=
  let first := field body 0 1
  checked s [(body.length == 2, .badLength), (decide (first ≤ 3), .badArgument)] <|
    readAnswer s (busList.drop first) (field body 1 1) 4 s.busRecord

/-! ### READ_CABINETS (R51) -/

/-- The flags octet of a tracking record (Table 3-4). -/
def Track.flags (t : Track) : Nat :=
  let overlay := match t.overlay with
    | none => 0
    | some .withdrawing => 1
    | some .returning => 2
  bit 0 t.orphan + overlay * 2 + bit 3 t.unreachable + bit 4 t.firstReportPending + bit 5 t.bypassCheckPending

/-- A cabinet record (Table 3-4). -/
def State.cabinetRecord (s : State) (c : Nat) : List Byte :=
  match s.cabinet c with
  | none => octets 1 c ++ zeros 23
  | some k =>
    octets 1 c ++ octets 1 1 ++ k.defn.octets ++ octets 1 k.track.state.code ++
      [(k.track.lastWord.map StateWord.toByte).getD 0xFF#8] ++ octets 1 k.track.failures ++ octets 1 k.track.flags ++
      octetsOrAll (k.track.lastSuccess.map fun t => s.now - t)

/-- READ_CABINETS (R51). The records of undefined cabinets are carried also while none is defined, though R16 says that the reads
return no records where nothing is defined (log 53). -/
def handleReadCabinets (s : State) (body : List Byte) : Answer :=
  let first := field body 0 1
  checked s [(body.length == 2, .badLength), (decide (1 ≤ first ∧ first ≤ 24), .badArgument)] <|
    readAnswer s (cabinetIndices.drop (first - 1)) (field body 1 1) 4 s.cabinetRecord

/-! ### READ_STRINGS and READ_HISTORY (R96, R97) -/

/-- String state codes (Table 5-5). -/
def StringState.code : StringState → Nat
  | .float => 0
  | .discharging => 1
  | .testing => 2
  | .recharging => 3

/-- The flags octet of an ageing record (Table 5-5). -/
def AgeRec.flags (a : AgeRec) : Nat :=
  bit 0 a.ageingLost + bit 1 a.tempUnknown + bit 2 a.baselinePending + bit 3 a.dueFlagged + bit 4 a.impFlagged +
    bit 5 a.gapPending + bit 6 a.counterBase.isSome + bit 7 (a.lastTest.any fun t => t.isUptime)

/-- A string record (Table 5-5). -/
def State.stringRecord (s : State) (p : Nat × Nat) : List Byte :=
  match s.string p.1 p.2 with
  | none => octets 1 p.1 ++ octets 1 p.2 ++ zeros 42
  | some u =>
    let a := u.age
    octets 1 p.1 ++ octets 1 p.2 ++ octets 1 (1 + 2 * a.state.code) ++ octets 1 a.flags ++ octets 1 a.health ++
      octets 1 a.wearHealth ++ octets 1 a.impHealth ++ octets 5 a.calendarWear ++ octets 5 a.cycleWear ++
      octets 6 a.cycleCharge ++ octets 4 a.baseline ++ octets 4 a.lastImpedance ++ octets 4 a.energy ++
      octets 2 a.remainingDays ++ octets 1 (a.lastTemperature.getD 0xFF) ++
      octets 4 ((a.lastTest.map fun t => t.time).getD 0) ++ octets 1 a.window.length ++ octets 1 a.history.length

/-- Every slot of the floor, in order of cabinet and then slot. -/
def slotPairs : List (Nat × Nat) := cabinetIndices.flatMap fun c => slotIndices.map fun slot => (c, slot)

/-- READ_STRINGS (R96; what R16 says of the reads while nothing is defined is log 53). -/
def handleReadStrings (s : State) (body : List Byte) : Answer :=
  let c := field body 0 1
  let slot := field body 1 1
  checked s [(body.length == 3, .badLength), (decide (1 ≤ c ∧ c ≤ 24 ∧ 1 ≤ slot ∧ slot ≤ 4), .badArgument)] <|
    readAnswer s (slotPairs.drop ((c - 1) * 4 + (slot - 1))) (field body 2 1) 2 s.stringRecord

/-- Discharge kind codes (Table 5-6). -/
def DischargeKind.code : DischargeKind → Nat
  | .outage => 0
  | .test => 1
  | .testAborted => 2

/-- A discharge record (Table 5-6). -/
def DischargeRec.record (r : DischargeRec) (now index : Nat) : List Byte :=
  octets 1 index ++
    octets 1 (r.kind.code + bit 2 r.isOpen + bit 3 r.awaitingClose + bit 4 r.cutByStart + bit 5 r.startIsUptime) ++
    octets 4 r.start ++ octets 4 (if r.isOpen then now - r.openedAt else r.duration) ++ octets 4 r.charge ++
    octets 2 (r.minVoltage.getD 0xFFFF)

/-- The elements of a list from a first position, each with its position. -/
def fromPosition {α : Type} (l : List α) (first : Nat) : List (α × Nat) := (l.zipIdx).drop first

/-- READ_HISTORY (R97; the part and the number of records have one octet each, log 47). -/
def handleReadHistory (s : State) (body : List Byte) : Answer :=
  let part := field body 2 1
  let first := field body 3 1
  let wanted := field body 4 1
  checked s [(body.length == 5, .badLength)] <|
    match s.string (field body 0 1) (field body 1 1) with
    | none => refuse s .badArgument
    | some u =>
      checked s [(decide (part ≤ 1 ∧ first ≤ 7), .badArgument)] <|
        let lead := fun (a : Answer) => (a.1, { a.2 with rest := octets 1 part ++ a.2.rest })
        if part = 0 then
          lead (readAnswer s (fromPosition u.age.window first) wanted 8 fun x => octets 1 x.2 ++ octets 5 x.1)
        else lead (readAnswer s (fromPosition u.age.history first) wanted 7 fun x => x.1.record s.now x.2)

/-! ### READ_READINGS (R69) -/

/-- Quality codes (Table 4-2). -/
def Quality.code : Quality → Nat
  | .none => 0
  | .fresh => 1
  | .held => 2
  | .stale => 3

/-- Last outcome codes (R63). -/
def LastOutcome.code : LastOutcome → Nat
  | .noneYet => 0
  | .ok => 1
  | .staleFreeze => 2
  | .noAnswer => 3
  | .checkFail => 4
  | .stretchTimeout => 5
  | .linkDown => 6

/-- The first five octets of a reading record (Table 4-2). -/
def ScanEntry.lead (e : ScanEntry) (position : Nat) : List Byte :=
  octets 1 position ++ octets 1 e.cabinet ++ octets 1 e.point.code ++ octets 1 e.skip ++ octets 1 e.combine.code

/-- The octets of a reading (Table 4-2). -/
def Reading.octets (r : Reading) : List Byte :=
  signedOctets 4 r.value ++ Machine.octets 4 r.round ++ Machine.octets 1 r.quality.code ++ Machine.octets 1 r.held ++
    Machine.octets 1 r.lastOutcome.code

/-- READ_READINGS (R69). -/
def handleReadReadings (s : State) (body : List Byte) : Answer :=
  let copy := field body 0 1
  let first := field body 1 1
  let wanted := field body 2 1
  checked s [(body.length == 3, .badLength), (decide (copy ≤ 1 ∧ first ≤ 127), .badArgument)] <|
    if copy = 0 then
      readAnswer s (fromPosition s.scs.active first) wanted 7 fun x => x.1.entry.lead x.2 ++ x.1.reading.octets
    else readAnswer s (fromPosition s.scs.pendingList first) wanted 7 fun x => x.1.lead x.2 ++ zeros 11

/-! ### READ_PERMITS (R148) -/

/-- Puts a permit into a list in ascending order of id. -/
def insertPermit (p : Permit) : List Permit → List Permit
  | [] => [p]
  | q :: rest => if p.id ≤ q.id then p :: q :: rest else q :: insertPermit p rest

/-- A command for the permit waits or is in hand (Table 8-11). A command in hand whose permit has ended (R138: its outcome is
used for nothing) is no command of a later permit that takes the id again. -/
def State.commandFor (s : State) (p : Permit) : Bool :=
  ((s.queueOf p.bus).waiting.any fun e => e.permit == some p.id) ||
    (s.queueOf p.bus).inHand.any fun h => h.used && h.entry.permit == some p.id

/-- The place of a permit in its wait queue, or 0xFF (Table 8-11). -/
def State.placeOf (s : State) (p : Permit) : Nat :=
  ((s.waitQueue p.bus).findIdx? fun q => q.id == p.id).getD 0xFF

/-- The steps of a permit, 0 where it has none. -/
def Permit.steps (p : Permit) : Nat :=
  match p.kind with
  | .stringTest _ steps => steps
  | .withdraw | .busBypass => 0

/-- A permit record (Table 8-11). -/
def State.permitRecord (s : State) (p : Permit) : List Byte :=
  octets 1 p.id ++ octets 1 p.kind.code ++ octets 1 p.bus.val ++ octets 1 (p.cabinet.getD 0) ++ octets 1 p.slot ++
    octets 1 p.steps ++ octets 1 p.holder ++ octets 1 ((p.policy.map Policy.code).getD 0xFF) ++ octets 1 p.state.code ++
    octets 1 (bit 0 p.returnOrdered + bit 1 p.yielded + bit 2 p.adopted + bit 3 p.sent + bit 4 (s.commandFor p)) ++
    octets 1 (s.placeOf p) ++ octets 1 0 ++ octets 4 (s.now - p.requestUptime) ++
    octetsOrAll (p.grantUptime.map fun t => s.now - t) ++ octetsOrAll (p.deadline.map fun t => t - s.now)

/-- The four sequencer octets (R148). -/
def State.seqOctets (s : State) : List Byte :=
  busList.flatMap fun b => octets 1 ((s.seqOf b).state.code + bit 3 (s.seqOf b).orphan)

/-- READ_PERMITS (R148). -/
def handleReadPermits (s : State) (body : List Byte) : Answer :=
  let first := field body 0 1
  checked s [(body.length == 2, .badLength), (decide (1 ≤ first), .badArgument)] <|
    let live := (s.par.permits.filter fun p => decide (first ≤ p.id)).foldr insertPermit []
    let answer := readAnswer s live (field body 1 1) 4 s.permitRecord
    (answer.1, { answer.2 with rest := s.seqOctets ++ answer.2.rest })

/-! ### READ_VISIT (R165) -/

/-- Result codes of a visit (Table 9-7). -/
def visitResultCode : Option VisitResult → Nat
  | none => 0
  | some .clean => 1
  | some .incomplete => 2

/-- A list of octets filled with zeros up to a length. -/
def padded (l : List Byte) (n : Nat) : List Byte := l ++ zeros (n - l.length)

/-- The seconds to the deadline, 0 while BOOKED, CLOSING or CLOSED (Table 9-7). -/
def Visit.toDeadline (v : Visit) (now : Nat) : Int :=
  match v.state, v.deadline with
  | .active, some d => (d : Int) - now
  | .overdue, some d => (d : Int) - now
  | _, _ => 0

/-- A visit record (Table 9-7). -/
def State.visitRecord (s : State) (slot : Nat) : List Byte :=
  match s.visitIn slot with
  | none => octets 1 slot ++ zeros 70
  | some v =>
    octets 1 slot ++ octets 1 v.id ++ octets 1 v.state.code ++ octets 1 v.level.code ++
      octets 1 (bit 0 v.waitingLock + bit 1 v.expected.isSome + bit 2 v.report.mismatch + bit 3 v.report.overdue +
        16 * visitResultCode v.report.result) ++
      octets 4 v.credential ++ octets 4 v.bookedStart ++ octets 2 v.duration ++
      octetsOrAll (v.activation.map fun t => s.now - t) ++ signedOctets 4 (v.toDeadline s.now) ++ octets 2 v.actions ++
      octets 2 (v.expected.getD 0) ++ octets 1 v.report.ended ++ octets 1 v.report.rehomed ++ octets 1 v.scope.length ++
      padded (v.scope.flatMap (octets 1)) 24 ++ octets 1 v.replaced.length ++
      padded (v.replaced.flatMap fun p => octets 1 p.1 ++ octets 1 p.2) 16

/-- READ_VISIT; a record carried in state CLOSED leaves the table once the reply has been sent (R150, R165; what R16 says of the
reads while nothing is defined is log 53). -/
def handleReadVisit (s : State) (body : List Byte) : Answer :=
  let first := field body 0 1
  let wanted := field body 1 1
  checked s [(body.length == 2, .badLength), (decide (first ≤ 7), .badArgument)] <|
    let after := match s.visitIn first with
      | none => s
      | some v =>
        if v.state = .closed ∧ 0 < wanted then s.onHost fun h => { h with afterReply := .dropVisit first v.id } else s
    readAnswer after (visitSlotIndices.drop first) wanted 1 s.visitRecord

end Sys2Proof.Machine
end

