-- ==== Sys2Proof/Machine/ScanRequests.lean ====
section
/-! DEFINITION. The scan requests (spec/04 sections 4.2 and 4.3): SCAN_EDIT by operation, SCAN_TIMING, SCAN_START, SCAN_STOP. -/

namespace Sys2Proof.Machine

/-- The copy an edit writes: 0 both at once, 1 the pending copy while RUNNING (R53). -/
def Scs.editedCopy (c : Scs) : Nat := if c.scanner = .running then 1 else 0

/-- The octets of an entry's four fields (R54). -/
def ScanEntry.octets (e : ScanEntry) : List Byte :=
  Machine.octets 1 e.cabinet ++ Machine.octets 1 e.point.code ++ Machine.octets 1 e.skip ++ Machine.octets 1 e.combine.code

/-- Puts an element at a position, those at and after it one place later. -/
def insertAt {α : Type} (l : List α) (n : Nat) (x : α) : List α := l.take n ++ x :: l.drop n

/-- Takes the element at a position out. -/
def removeAt {α : Type} (l : List α) (n : Nat) : List α := l.take n ++ l.drop (n + 1)

/-- The point operand of an entry: a code of Table 2-4, and for a string point a defined string (R54 step 3). -/
def State.pointOperand (s : State) (c code : Nat) : Option Point :=
  (Point.ofCode code).filter fun p => p.slot.all fun slot => s.stringNamed c slot

/-- The entry of an insert or replace body, with whether its skip count was clamped (R54). -/
def State.entryOperand (s : State) (body : List Byte) : Option (ScanEntry × Bool) :=
  match s.cabinetNamed (field body 2 1), s.pointOperand (field body 2 1) (field body 3 1), CombineMode.ofCode (field body 5 1) with
  | true, some p, some m =>
    let skip := clamp 0 15 (field body 4 1)
    some ({ cabinet := field body 2 1, point := p, skip := skip.value, combine := m }, skip.moved)
  | _, _, _ => none

/-- The reply of an accepted edit: the copy, the entry count after it, and the entry (R54), one octet each (log 47). -/
def State.editReply (s : State) (e : ScanEntry) (clamped : Bool) : Reply :=
  { status := okStatus clamped,
    rest := octets 1 s.scs.editedCopy ++ octets 1 s.scs.pendingList.length ++ e.octets }

/-- SCAN_EDIT with operation 1 (R54). Position 128 of a full list passes step 3, and the request is refused by a later step
(log 43). -/
def handleScanInsert (s : State) (body : List Byte) : Answer :=
  let position := field body 1 1
  let list := s.scs.pendingList
  checked s [(body.length == 6, .badLength), s.configuredCheck] <|
    match s.entryOperand body with
    | none => refuse s .badArgument
    | some (e, clamped) =>
      checked s [(decide (position ≤ list.length), .badArgument), (!list.any e.samePair, .duplicate),
          (decide (list.length < Config.scanEntries), .tableFull)] <|
        let s := s.onScs fun c =>
          { c with pendingList := insertAt c.pendingList position e,
                   active := if c.scanner = .running then c.active else insertAt c.active position (.new e) }
        (s, s.editReply e clamped)

/-- SCAN_EDIT with operation 2 (R54). -/
def handleScanRemove (s : State) (body : List Byte) : Answer :=
  let position := field body 1 1
  checked s [(body.length == 6, .badLength), s.configuredCheck] <|
    match s.scs.pendingList[position]? with
    | none => refuse s .badArgument
    | some e =>
      let s := s.onScs fun c =>
        { c with pendingList := removeAt c.pendingList position,
                 active := if c.scanner = .running then c.active else removeAt c.active position }
      (s, s.editReply e false)

/-- An entry of the active list overwritten: it keeps its reading record where its pair is unchanged (R54). -/
def ActiveEntry.overwrite (a : ActiveEntry) (e : ScanEntry) : ActiveEntry :=
  if a.entry.samePair e then { a with entry := e } else .new e

/-- SCAN_EDIT with operation 3 (R54). -/
def handleScanReplace (s : State) (body : List Byte) : Answer :=
  let position := field body 1 1
  let list := s.scs.pendingList
  checked s [(body.length == 6, .badLength), s.configuredCheck] <|
    match s.entryOperand body with
    | none => refuse s .badArgument
    | some (e, clamped) =>
      checked s [(decide (position < list.length), .badArgument), (!(removeAt list position).any e.samePair, .duplicate)] <|
        let s := s.onScs fun c =>
          { c with pendingList := c.pendingList.set position e,
                   active := if c.scanner = .running then c.active else c.active.modify position (ActiveEntry.overwrite · e) }
        (s, s.editReply e clamped)

/-- SCAN_EDIT (R54): the operation selects the edit. -/
def handleScanEdit (s : State) (body : List Byte) : Answer :=
  checked s [(body.length == 6, .badLength), s.configuredCheck] <|
    match field body 0 1 with
    | 1 => handleScanInsert s body
    | 2 => handleScanRemove s body
    | 3 => handleScanReplace s body
    | _ => refuse s .badArgument

/-- SCAN_TIMING (R55). The copy written has one octet in the reply (log 47). -/
def handleScanTiming (s : State) (body : List Byte) : Answer :=
  let period := clamp 1 3600 (field body 0 2)
  let average := clamp 1 16 (field body 2 1)
  checked s [(body.length == 3, .badLength), s.configuredCheck] <|
    let new : ScanTiming := { period := period.value, average := average.value }
    let s := s.onScs fun c =>
      { c with pendingTiming := new, timing := if c.scanner = .running then c.timing else new }
    (s, { status := okStatus (period.moved || average.moved),
          rest := octets 1 s.scs.editedCopy ++ octets 2 period.value ++ octets 1 average.value })

/-- SCAN_START (R57). The stored delay has two octets in the reply, as in the body (log 47). -/
def handleScanStart (s : State) (body : List Byte) : Answer :=
  let delay := clamp 0 1440 (field body 0 2)
  checked s [(body.length == 2, .badLength), s.configuredCheck, (s.scs.scanner == .stopped, .state)] <|
    ((s.orderScan delay.value 1).push [.meet], { status := okStatus delay.moved, rest := octets 2 delay.value })

/-- SCAN_STOP (R59). The scanner state found has one octet in the reply (log 47). -/
def handleScanStop (s : State) (body : List Byte) : Answer :=
  checked s [(body.length == 0, .badLength), s.configuredCheck] <|
    (s.stopScan.push [.meet], { status := .ok, rest := octets 1 s.scs.scanner.code })

end Sys2Proof.Machine
end

