-- ==== Sys2Proof/Machine/SystemRequests.lean ====
section
/-! DEFINITION. IDENT, STATUS, SET_TIME, RESTART, SET_NOTICE_MASK and FETCH_NOTICES (R175, R176, R180, R181, R183, R188). -/

namespace Sys2Proof.Machine

/-! ### IDENT (R175) -/

/-- "RALVESTA FS-24" and two octets 0x20 (Table 10-5). -/
def identText : List Byte :=
  [0x52#8, 0x41#8, 0x4C#8, 0x56#8, 0x45#8, 0x53#8, 0x54#8, 0x41#8, 0x20#8, 0x46#8, 0x53#8, 0x2D#8, 0x32#8, 0x34#8, 0x20#8,
   0x20#8]

/-- IDENT (R175). -/
def handleIdent (s : State) (body : List Byte) : Answer :=
  checked s [(body.length == 0, .badLength)] <|
    (s, { status := .ok,
          rest := identText ++ octets 1 Config.stepping ++ [Config.configFormat, Config.ageingFormat] ++
            octets 1 s.host.rateCode ++ octets 1 Config.cabinetCount ++ octets 1 4 ++ octets 1 Config.slotCount ++
            octets 1 Config.scanEntries ++ octets 1 Config.permitCapacity ++ octets 1 Config.visitSlots ++
            octets 1 Config.noticeCapacity })

/-! ### STATUS (R176) -/

/-- Cabinet link state codes (Table 10-6). -/
def LinkState.code : LinkState → Nat
  | .idle => 0
  | .own => 1
  | .alertIn => 2
  | .recovery => 3
  | .down => 4

/-- The octets of the clock, the link, the notices and the line (Table 10-6). -/
def State.statusHead (s : State) : List Byte :=
  octets 4 s.now ++
    octets 1 (bit 0 s.clock.valid + bit 1 s.configured + bit 2 s.notices.overflow + bit 3 s.notices.attention) ++
    octets 4 (if s.clock.valid then s.clock.floorTime else 0) ++ octets 4 s.clock.lastDay ++ octets 1 s.startCause ++
    octets 1 s.clc.link.code ++ octets 1 s.notices.queue.length ++ [s.notices.mask] ++ octets 2 s.host.framingErrors ++
    octets 2 s.host.dropped

/-- The octets of the scanner (Table 10-6). -/
def State.statusScan (s : State) : List Byte :=
  octets 1 s.scs.scanner.code ++ octets 4 s.scs.round ++ octets 1 s.scs.passCount ++ octets 1 s.scs.passSequence ++ octets 4 s.scs.totalRounds ++
    octets 2 s.scs.overruns ++ octets 2 s.scs.scanFailures ++ octets 1 s.scs.active.length ++
    octets 1 s.scs.pendingList.length

/-- The octets of the test context (Table 10-6). -/
def State.statusTest (s : State) : List Byte :=
  octets 1 s.test.phase.code ++ octets 1 (s.test.permit.getD 0) ++
    octets 1 ((s.test.subject.map fun u => u.cabinet).getD 0) ++ octets 1 ((s.test.subject.map fun u => u.slot).getD 0) ++
    octets 1 s.test.level ++ octets 1 s.test.locked ++ octets 1 s.test.results.length ++
    octets 1 (s.test.last.outcome.code + bit 7 s.test.last.confirmed) ++ octets 1 s.test.last.cause.code ++
    octets 4 s.test.last.result ++ octets 4 s.test.last.charge

/-- The octets of the permits, the images and the locks (Table 10-6). -/
def State.statusTail (s : State) : List Byte :=
  octets 1 s.par.permits.length ++ octets 1 s.ims.configStatus.code ++ octets 1 s.ims.ageingStatus.code ++
    octets 1 (s.ims.configSave.code + 4 * s.ims.ageingSave.code) ++
    cabinetIndices.flatMap fun c => octets 1 ((s.lockOf c).getD 0)

/-- STATUS (R176). -/
def handleStatus (s : State) (body : List Byte) : Answer :=
  checked s [(body.length == 0, .badLength)] <|
    (s, { status := .ok, rest := s.statusHead ++ s.statusScan ++ s.statusTest ++ s.statusTail })

/-! ### SET_TIME and RESTART -/

/-- SET_TIME (R183). The day number has four octets in the reply and the was-valid value one (log 41). -/
def handleSetTime (s : State) (body : List Byte) : Answer :=
  let t := field body 0 4
  checked s [(body.length == 4, .badLength)] <|
    let after := (s.setTime (max t 1)).settle
    (after, { status := okStatus (t == 0),
              rest := octets 4 (max t 1) ++ octets 4 (max t 1 / 86400) ++ octets 4 after.clock.lastDay ++
                octets 1 s.clock.valid.toNat })

/-- RESTART: the wait for a warm start begins once the reply has been sent (R188). -/
def handleRestart (s : State) (body : List Byte) : Answer :=
  checked s [(body.length == 0, .badLength)] <|
    (s.onHost fun h => { h with afterReply := .restart }, { status := .ok, rest := [] })

/-! ### SET_NOTICE_MASK and FETCH_NOTICES (R180, R181) -/

/-- The number of queued notices whose class is enabled (R180). -/
def Notices.enabledCount (n : Notices) : Nat := (n.queue.filter fun x => x.kind.enabledBy n.mask).length

/-- SET_NOTICE_MASK (R180; the two counts have one octet each, log 47). -/
def handleSetNoticeMask (s : State) (body : List Byte) : Answer :=
  match body with
  | [mask] =>
    let s := s.onNotices fun n => { n with mask := mask }.examine
    (s, { status := .ok, rest := [mask] ++ octets 1 s.notices.queue.length ++ octets 1 s.notices.enabledCount })
  | _ => refuse s .badLength

/-- A notice record (Table 10-8). -/
def Notice.record (n : Notice) : List Byte :=
  octets 1 n.kind.code ++ octets 4 n.stamp.time ++ octets 1 (bit 7 n.stamp.isUptime + 16 * n.bus + n.slot) ++
    octets 1 n.cabinet ++ octets 1 n.permit ++ octets 1 n.visit ++ octets 4 n.value ++ octets 1 n.result

/-- The notices that a fetch leaves, its overflow flag cleared (R181 steps 2, 4, 5). -/
def Notices.fetch (n : Notices) (count : Nat) : Notices := { n with queue := n.queue.drop count, overflow := false }.examine

/-- FETCH_NOTICES (R181; the flag and the two counts have one octet each, log 47). -/
def handleFetchNotices (s : State) (body : List Byte) : Answer :=
  checked s [(body.length == 1, .badLength)] <|
    let queue := s.notices.queue
    let n := readNumber (field body 0 1) queue.length 8
    (s.onNotices fun x => x.fetch n.1,
      { status := n.2, rest := octets 1 s.notices.overflow.toNat ++ octets 1 n.1 ++ octets 1 (queue.length - n.1) ++
          (queue.take n.1).flatMap Notice.record })

end Sys2Proof.Machine
end

