-- ==== Sys2Proof/Machine/VisitRequests.lean ====
section
/-! DEFINITION. The visit requests (spec/09): booking, cancelling, extending, closing, and DECLARE_REPLACED. -/

namespace Sys2Proof.Machine

/-- No cabinet stands twice in a scope. -/
def distinct : List Nat → Bool
  | [] => true
  | x :: rest => !rest.contains x && distinct rest

/-- A new record, BOOKED (R149, R152). -/
def Visit.booked (id credential : Nat) (level : Level) (scope : List Nat) (start duration sequence : Nat) : Visit :=
  { id := id, credential := credential, level := level, scope := scope, bookedStart := start, duration := duration,
    sequence := sequence, state := .booked, waitingLock := false, activation := none, deadline := none,
    nextReminder := none, lastOverdue := none, actions := 0, expected := none, replaced := [], closeDeadline := none,
    closeSet := [], closeSequence := none, report := .initial }

/-- A visit has not ended: BOOKED, ACTIVE, OVERDUE or CLOSING. -/
def Visit.current (v : Visit) : Bool := v.state != .closed

/-- A booking takes its slot, id and sequence, and a start that has arrived is handled (R150, R152). -/
def State.book (s : State) (slot credential : Nat) (level : Level) (scope : List Nat) (start duration : Nat) : State × Nat :=
  let kept := (visitSlotIndices.filter fun i => i != slot).filterMap s.visitIn
  let id := freeId (kept.map fun v => v.id) 255 s.vct.nextId
  let sequence := nextSequence Config.bookingPastTop s.vct.bookings
  let v := Visit.booked id credential level scope start duration sequence
  let s := s.onVct fun t =>
    { t with slots := t.slots.setIfInBounds slot (some v), nextId := nextIdAfter id, bookings := sequence }
  (if start = 0 ∨ s.startDue v = true then s.arrive v else s, id)

/-- BOOK_VISIT (R152; the widths of the reply are log 47). -/
def handleBookVisit (s : State) (body : List Byte) : Answer :=
  let k := field body 11 1
  let start := field body 5 4
  let duration := clampTo 1 1440 (field body 9 2)
  let scope := (body.drop 12).map BitVec.toNat
  let credential := field body 0 4
  let sized := decide (12 ≤ body.length ∧ 1 ≤ k ∧ k ≤ 24 ∧ body.length = 12 + k)
  checked s [(sized, .badLength), s.configuredCheck] <|
    match Level.ofCode (field body 4 1) with
    | none => refuse s .badArgument
    | some level =>
      checked s [(scope.all s.cabinetNamed && distinct scope, .badArgument),
          (start == 0 || s.clock.valid, .clockNotSet),
          (!s.visits.any fun v => v.current && v.credential == credential, .duplicate)] <|
        match s.freeVisitSlot with
        | none => refuse s .tableFull
        | some slot =>
          let booked := s.book slot credential level scope start duration
          (booked.1,
            { status := .accepted,
              rest := octets 1 booked.2 ++ octets 1 slot ++
                octets 1 (((booked.1.visit booked.2).map fun v => v.state.code).getD 0) ++ octets 2 duration })

/-- CANCEL_VISIT (R153). -/
def handleCancelVisit (s : State) (body : List Byte) : Answer :=
  let id := field body 0 1
  checked s [(body.length == 1, .badLength), s.configuredCheck] <|
    match s.visit id with
    | none => refuse s .badArgument
    | some v =>
      checked s [(v.state == .booked, .state)] <|
        (s.onVct fun t => { t with slots := t.slots.map fun o => o.filter fun w => w.id != id },
          { status := .ok, rest := octets 1 id })

/-- EXTEND_VISIT (R159). The deadline has no upper bound, and the seconds to it are sent modulo 2^32 (log 46); the widths
of the minutes and the state are log 47. -/
def handleExtendVisit (s : State) (body : List Byte) : Answer :=
  let id := field body 0 1
  let minutes := clamp 1 1440 (field body 1 2)
  checked s [(body.length == 3, .badLength), s.configuredCheck] <|
    match s.visit id with
    | none => refuse s .badArgument
    | some v =>
      checked s [(v.state == .active || v.state == .overdue, .state)] <|
        let deadline := v.deadline.getD s.now + 60 * minutes.value
        let returns := v.state == .overdue && decide (s.now < deadline)
        let new := { v with deadline := some deadline, state := if returns then .active else v.state,
                            nextReminder := if returns then none else v.nextReminder }
        (s.onVisit id fun _ => new,
          { status := okStatus minutes.moved,
            rest := octets 2 minutes.value ++ octets 1 new.state.code ++ signedOctets 4 ((deadline : Int) - s.now) })

/-- The lowest id among a visit's live ON_REQUEST permits (R160). -/
def State.heldOnRequest (s : State) (visit : Nat) : Option Nat :=
  (s.idsOf visit fun p => p.policy == some .onRequest).head?

/-- CLOSE_VISIT (R160, R161; the widths of the reply are log 47). -/
def handleCloseVisit (s : State) (body : List Byte) : Answer :=
  let id := field body 0 1
  let expected := if body.length = 3 then some (field body 1 2) else none
  checked s [(body.length == 1 || body.length == 3, .badLength), s.configuredCheck] <|
    match s.visit id with
    | none => refuse s .badArgument
    | some v =>
      checked s [(v.state == .active || v.state == .overdue, .state)] <|
        match s.heldOnRequest id with
        | some held => (s, { status := .permitsHeld, rest := octets 1 held })
        | none =>
          let s := (s.enterClosing v expected).settle
          let after := s.visit id
          (s, { status := .accepted,
                rest := octets 1 id ++ octets 1 ((after.map fun v => v.state.code).getD 4) ++
                  octets 1 ((after.map fun v => v.closeSet.length).getD 0) ++
                  octets 1 ((after.map fun v => v.report.rehomed).getD 0) })

/-- The replacement of a string, with new rated values where they are carried (R93, R157). -/
def State.replaceString (s : State) (c slot : Nat) (rated : Option StringRec) : State :=
  let s := s.ageString c slot (accrue s.now)
  let s := s.onCabinet c fun k => match k.slot slot with
    | none => k
    | some u => k.setSlot slot (some { u with defn := rated.getD u.defn })
  let s := s.ageString c slot fun d a => bothRecomputes d a.replaced
  (s.triggerCabinet c).requestAgeingSave

/-- A string joins the replaced list, unless it is there (R157 step 1). -/
def Visit.declare (v : Visit) (c slot : Nat) : Visit :=
  if v.replaced.contains (c, slot) then v else { v with replaced := v.replaced ++ [(c, slot)] }

/-- A host-direct DECLARE_REPLACED is refused AUTHORITY; on a visit's behalf the check of R156 applies (Table 9-5). -/
def State.replaceAuthority (s : State) (visit c : Nat) : Bool × Status :=
  if visit = 0 then (false, .authority) else s.authorityCheck visit [c] .battery

/-- DECLARE_REPLACED (R93, R157; the widths of the reply are log 47). -/
def handleDeclareReplaced (s : State) (body : List Byte) : Answer :=
  let visit := field body 0 1
  let c := field body 1 1
  let slot := field body 2 1
  checked s [(body.length == 3 || body.length == 13, .badLength), s.configuredCheck] <|
    match s.string c slot with
    | none => refuse s .badArgument
    | some u =>
      let out := s.tracked c == some .standby || s.tracked c == some .isolated
      let room := (s.visit visit).any fun v => v.replaced.contains (c, slot) || decide (v.replaced.length < 8)
      checked s [(s.visitNamed visit, .badArgument), s.replaceAuthority visit c, (out && !s.testNames c, .state),
          (room, .tableFull)] <|
        let rated := if body.length = 13 then ratedOperand body 3 u.defn else (u.defn, false)
        let s := s.onVisit visit fun v => v.declare c slot
        let s := (s.replaceString c slot (some rated.1)).countAction visit
        let count := ((s.visit visit).map fun v => v.replaced.length).getD 0
        (s.push [.meet],
          { status := okStatus rated.2,
            rest := octets 1 c ++ octets 1 slot ++ octets 1 count ++ rated.1.ratedOctets })

end Sys2Proof.Machine
end

