-- ==== Sys2Proof/Machine/HostLink.lean ====
section
/-! DEFINITION. The Host Link Controller (spec/10): the receiver, the receive queue and busy list, the handling of a frame
and the reply transmitter. -/

namespace Sys2Proof.Machine

/-! ### Request kinds (Table 10-3) -/

/-- The code of a kind (Table 10-3). -/
def kindCode : RequestKind → Byte
  | .ident => 0x01#8
  | .status => 0x02#8
  | .setTime => 0x03#8
  | .restart => 0x04#8
  | .setNoticeMask => 0x05#8
  | .fetchNotices => 0x06#8
  | .defineFloor => 0x10#8
  | .defineBus => 0x11#8
  | .defineCabinet => 0x12#8
  | .defineString => 0x13#8
  | .undefine => 0x14#8
  | .commitConfig => 0x15#8
  | .seedAgeing => 0x16#8
  | .scanEdit => 0x20#8
  | .scanTiming => 0x21#8
  | .scanStart => 0x22#8
  | .scanStop => 0x23#8
  | .readBus => 0x28#8
  | .readCabinets => 0x29#8
  | .readStrings => 0x2A#8
  | .readReadings => 0x2B#8
  | .readPermits => 0x2C#8
  | .readVisit => 0x2D#8
  | .readHistory => 0x2E#8
  | .requestWithdraw => 0x30#8
  | .requestBusBypass => 0x31#8
  | .returnPermit => 0x32#8
  | .cancelRequest => 0x33#8
  | .startStringTest => 0x38#8
  | .abortStringTest => 0x39#8
  | .bookVisit => 0x40#8
  | .cancelVisit => 0x41#8
  | .extendVisit => 0x42#8
  | .closeVisit => 0x43#8
  | .declareReplaced => 0x44#8

/-- The kind a KIND octet names; none where it is not in Table 10-3. -/
def kindOfCode (code : Byte) : Option RequestKind :=
  match code.toNat with
  | 0x01 => some .ident
  | 0x02 => some .status
  | 0x03 => some .setTime
  | 0x04 => some .restart
  | 0x05 => some .setNoticeMask
  | 0x06 => some .fetchNotices
  | 0x10 => some .defineFloor
  | 0x11 => some .defineBus
  | 0x12 => some .defineCabinet
  | 0x13 => some .defineString
  | 0x14 => some .undefine
  | 0x15 => some .commitConfig
  | 0x16 => some .seedAgeing
  | 0x20 => some .scanEdit
  | 0x21 => some .scanTiming
  | 0x22 => some .scanStart
  | 0x23 => some .scanStop
  | 0x28 => some .readBus
  | 0x29 => some .readCabinets
  | 0x2A => some .readStrings
  | 0x2B => some .readReadings
  | 0x2C => some .readPermits
  | 0x2D => some .readVisit
  | 0x2E => some .readHistory
  | 0x30 => some .requestWithdraw
  | 0x31 => some .requestBusBypass
  | 0x32 => some .returnPermit
  | 0x33 => some .cancelRequest
  | 0x38 => some .startStringTest
  | 0x39 => some .abortStringTest
  | 0x40 => some .bookVisit
  | 0x41 => some .cancelVisit
  | 0x42 => some .extendVisit
  | 0x43 => some .closeVisit
  | 0x44 => some .declareReplaced
  | _ => none

/-! ### The handling of a frame (R172) -/

/-- The handling of a request by its kind (R172, Table 10-3). -/
def handleKind (k : RequestKind) (s : State) (body : List Byte) : Answer :=
  match k with
  | .ident => handleIdent s body
  | .status => handleStatus s body
  | .setTime => handleSetTime s body
  | .restart => handleRestart s body
  | .setNoticeMask => handleSetNoticeMask s body
  | .fetchNotices => handleFetchNotices s body
  | .defineFloor => handleDefineFloor s body
  | .defineBus => handleDefineBus s body
  | .defineCabinet => handleDefineCabinet s body
  | .defineString => handleDefineString s body
  | .undefine => handleUndefine s body
  | .commitConfig => handleCommitConfig s body
  | .seedAgeing => handleSeedAgeing s body
  | .scanEdit => handleScanEdit s body
  | .scanTiming => handleScanTiming s body
  | .scanStart => handleScanStart s body
  | .scanStop => handleScanStop s body
  | .readBus => handleReadBus s body
  | .readCabinets => handleReadCabinets s body
  | .readStrings => handleReadStrings s body
  | .readReadings => handleReadReadings s body
  | .readPermits => handleReadPermits s body
  | .readVisit => handleReadVisit s body
  | .readHistory => handleReadHistory s body
  | .requestWithdraw => handleRequestWithdraw s body
  | .requestBusBypass => handleRequestBypass s body
  | .returnPermit => handleReturnPermit s body
  | .cancelRequest => handleCancelRequest s body
  | .startStringTest => handleStartTest s body
  | .abortStringTest => handleAbortTest s body
  | .bookVisit => handleBookVisit s body
  | .cancelVisit => handleCancelVisit s body
  | .extendVisit => handleExtendVisit s body
  | .closeVisit => handleCloseVisit s body
  | .declareReplaced => handleDeclareReplaced s body

/-- A frame is handled to its end and its reply built (R172). -/
def State.answerFrame (s : State) (f : Frame) : Answer :=
  match kindOfCode f.kind with
  | none => refuse s .unknownKind
  | some k => handleKind k s f.body

/-- The reply of a frame becomes the reply in progress once everything the request brought is done (R171, R172). -/
def State.handleFrame (s : State) (f : Frame) : State :=
  let answer := s.answerFrame f
  answer.1.settle.onHost fun h => { h with reply := some (replyFrame f.kind f.tag answer.2) }

/-! ### The transmitter (R171) -/

/-- The BUSY reply of a busy list entry (R170). -/
def busyReply (e : Byte × Byte) : List Byte := replyFrame e.1 e.2 { status := .busy, rest := [] }

/-- The transmitter, when free, takes the next frame to send: the busy list first, then the receive queue unless a warm
start is awaited (R171, R188). -/
def State.transmit (s : State) : State :=
  match s.host.reply with
  | some _ => s
  | none => match s.host.busy, s.host.queue with
    | e :: rest, _ => s.onHost fun h => { h with busy := rest, reply := some (busyReply e) }
    | [], [] => s
    | [], f :: rest =>
      if s.host.restartWaiting then s else (s.onHost fun h => { h with queue := rest }).handleFrame f

/-- The disposal of a good frame (R170). -/
def HostLine.receive (h : HostLine) (f : Frame) : HostLine :=
  if h.queue.length < Config.frameCapacity then { h with queue := h.queue ++ [f] }
  else if h.busy.length < Config.frameCapacity then { h with busy := h.busy ++ [(f.kind, f.tag)] }
  else { h with dropped := saturate 65535 (h.dropped + 1) }

/-- A good frame arrives (R170, R171). -/
def State.acceptFrame (s : State) (f : Frame) : State := (s.onHost fun h => h.receive f).transmit

/-- The reply in progress has been sent; what waits for its end follows, and the transmitter is free (R165, R171, R188). -/
def State.replyDone (s : State) : State :=
  match s.host.reply with
  | none => s
  | some _ =>
    let after := s.host.afterReply
    let s := s.onHost fun h => { h with reply := none, afterReply := .nothing }
    let s := match after with
      | .nothing => s
      | .dropVisit slot id => s.dropVisit slot id
      | .restart => s.onHost fun h => { h with restartWaiting := true }
    s.transmit

/-! ### The receiver (R169) -/

/-- An abandoned or discarded frame is counted; the receiver hunts again. -/
def HostLine.abandon (h : HostLine) : HostLine :=
  { h with receiver := .hunting, framingErrors := saturate 65535 (h.framingErrors + 1) }

/-- A complete frame's octets, from LEN on, are checked by their CRC (R168, R170). -/
def frameOf (covered : List Byte) : Option Frame :=
  match covered with
  | len :: kind :: tag :: rest =>
    let body := rest.take len.toNat
    if rest.drop len.toNat = octets 2 (crc16 (len :: kind :: tag :: body)).toNat then
      some { kind := kind, tag := tag, body := body }
    else none
  | _ => none

/-- An octet stored in a frame; the last one completes it (R169, R170). -/
def State.storeOctet (s : State) (stored : List Byte) (expected : Nat) : State :=
  if expected = 0 then
    match frameOf stored with
    | none => s.onHost HostLine.abandon
    | some f => (s.onHost fun h => { h with receiver := .hunting }).acceptFrame f
  else s.onHost fun h => { h with receiver := .inFrame stored expected }

/-- An octet on HRX (R169). -/
def State.receiveOctet (s : State) (octet : Byte) (stopBitLow : Bool) : State :=
  match s.host.receiver with
  | .hunting => if stopBitLow = false ∧ octet = 0xB7#8 then s.onHost fun h => { h with receiver := .awaitingLength } else s
  | .awaitingLength =>
    if stopBitLow = true ∨ 120 < octet.toNat then s.onHost HostLine.abandon
    else s.onHost fun h => { h with receiver := .inFrame [octet] (octet.toNat + 4) }
  | .inFrame stored expected =>
    if stopBitLow then s.onHost HostLine.abandon else s.storeOctet (stored ++ [octet]) (expected - 1)

/-- A gap of more than 20 ms inside a frame (R169). -/
def State.gapTimeout (s : State) : State :=
  match s.host.receiver with
  | .hunting => s
  | .awaitingLength => s.onHost HostLine.abandon
  | .inFrame _ _ => s.onHost HostLine.abandon

end Sys2Proof.Machine
end

