-- ==== Sys2Proof/Machine/Start.lean ====
section
/-! DEFINITION. Starts of the part (spec/11 section 11.3): the start-up sequence, cold and warm, and the loss of supply. -/

namespace Sys2Proof.Machine

/-- The statuses of both images, as a start finds them (R185). -/
def Ims.checked (i : Ims) : Ims :=
  { i with configStatus := i.config.header.status Config.configImageMax,
           ageingStatus := i.ageing.header.status Config.ageingImageMax, configSave := .idle, ageingSave := .idle }

/-- The configuration a start takes: the image's where it is valid (R189 step 2). -/
def Ims.startBody (i : Ims) : ConfigBody := if i.configStatus = .valid then i.config.body else ConfigBody.empty

/-- The saved time of the ageing image loaded, 0 where none is (R90, R92). -/
def Ims.loadedSaved (i : Ims) : Nat := if i.ageingStatus = .valid then i.ageing.header.savedTime else 0

/-- The ageing record a start makes for a string, before its recomputations (R95). -/
def Ims.startAge (i : Ims) (c slot : Nat) : AgeRec :=
  match i.ageingStatus with
  | .absent => .fresh 0 false
  | .corrupt => .fresh 0 true
  | .valid => match i.ageing.body.find? fun a => a.cabinet == c && a.slot == slot with
    | none => .fresh 0 false
    | some a => a.load (i.ageing.header.savedTime != 0)

/-- A cabinet as a start makes it (R3, R36, R95). -/
def Ims.startCabinet (i : Ims) (c : Nat) (k : CabinetImage) : Cabinet :=
  { defn := k.defn, track := .initial k.defn.master,
    strings := k.strings.mapIdx fun n o => o.map fun d => { defn := d, age := i.startAge c (n + 1) } }

/-- The number of defined strings. -/
def State.stringCount (s : State) : Nat :=
  (s.definedCabinets.map fun p => (p.2.strings.toList.filter Option.isSome).length).sum

/-- Steps 1 to 3 of the start-up sequence, up to the recomputations (R189). -/
def State.loaded (s : State) (cause : Nat) (pins : StartPins) (clock : Clock) : State :=
  let ims := s.ims.checked
  let body := ims.startBody
  { pending := s.pending, power := .running, startCause := cause, floor := body.floor.load,
    buses := body.buses.map fun o => o.map fun b => { defn := b.load, fig := .initial b.load.reserve },
    cabinets := body.cabinets.mapIdx fun n o => o.map (ims.startCabinet (n + 1)), loadedSaved := ims.loadedSaved,
    clc := { Clc.initial with stuckTimer := lineLow pins.lines }, scs := .initial body.list body.timing, test := .initial,
    par := .initial, vct := .initial, ims := ims, clock := clock, host := .initial pins.baud.toNat, notices := .initial,
    agenda := [], triggers := Vector.replicate 4 false, hold := 0, freeCount := s.freeCount }

/-- Both recomputations of every string as a start makes them, AGEING_LOST first where the image was corrupt (R95). -/
def State.startAgeing (s : State) : State :=
  let s := if s.ims.ageingStatus = .corrupt then s.raise .ageingLost {} s.stringCount 0 else s
  s.forStrings fun s c slot => s.ageString c slot bothRecomputes

/-- The start-up sequence (R189): what follows step 3 is queued in the order of the steps. -/
def State.startUp (s : State) (cause : Nat) (pins : StartPins) (clock : Clock) : State :=
  let s := (s.loaded cause pins clock).startAgeing.triggerAll
  let fifth := if s.clock.valid then
      (if s.loadedSaved ≠ 0 then [Task.gapAccrual s.clock.floorTime, .meet] else []) ++ [.dayCheck, .meet]
    else []
  s.push ([.meet, .startupNotice] ++ fifth ++ [.autoScan, .meet])

/-- A cold start: writes in progress are ended first (R186, R188). -/
def State.coldStart (s : State) (cause : Nat) (pins : StartPins) : State :=
  let s := s.onIms Ims.cut
  s.startUp cause pins (Clock.cold s.ims.checked.loadedSaved)

/-- A warm start (R182, R188). -/
def State.warmStart (s : State) (pins : StartPins) : State := s.startUp 3 pins s.clock.warm

/-- Without supply only the nonvolatile images and the queue of commands are kept (log 7). -/
def State.blank (s : State) : State :=
  { State.reset with pending := s.pending, power := .unpowered, ims := s.ims.cut, notices := .initial,
                     freeCount := s.freeCount }

/-- Held in cold reset: writes are ended and HTX is high (R167, R186). -/
def State.heldReset (s : State) : State :=
  let s := (s.onPower fun _ => .heldInReset).onIms Ims.cut
  s.onHost fun h => { h with receiver := .hunting, reply := none }

end Sys2Proof.Machine
end

