-- ==== Sys2Proof/Machine/Commands.lean ====
section
/-! DEFINITION. How a command runs: every signal it gives rise to is handed on before the next command. -/

namespace Sys2Proof.Machine

/-- A command while the part runs: its own work, then every signal it gave rise to. A part that is held in reset or has
no supply takes no command but a start or a change of its supply (log 7). -/
def run (work : State → State) (s : State) : Host.Outcome State Fault Refusal :=
  .next (if s.power = .running then (work s.settle).settle else s)

/-- A good frame arrives; a frame carries at most 120 body octets (R168). -/
def State.arriveFrame (f : Frame) (s : State) : State := if f.body.length ≤ 120 then s.acceptFrame f else s

/-- An event that can happen only under a condition; without it nothing changes (log 3). -/
def State.onlyIf (s : State) (condition : Bool) (work : State → State) : State := if condition then work s else s

/-- A start, in its own right or out of held reset, and what follows it. -/
def begun (s : State) : Host.Outcome State Fault Refusal := .next s.settle

end Sys2Proof.Machine
end

