-- ==== Sys2Proof/Machine/LineCommands.lean ====
section
/-! DEFINITION. The meanings of the rows of the supply and starts, the host line and the image store. -/

namespace Sys2Proof.Machine

/-- POWER_ON (R188, R189). -/
def execPowerOn (pins : StartPins) (s : State) : Host.Outcome State Fault Refusal := begun (s.coldStart 1 pins)

/-- RESETN_RELEASE (R188, R189); without supply nothing starts (log 7). -/
def execResetnRelease (pins : StartPins) (s : State) : Host.Outcome State Fault Refusal :=
  if s.power = .unpowered then .next s else begun (s.coldStart 2 pins)

/-- WARM_START: the wait that RESTART ordered has ended (R188). -/
def execWarmStart (pins : StartPins) (s : State) : Host.Outcome State Fault Refusal :=
  run (fun s => s.onlyIf (s.host.restartWaiting && s.ims.quiet) fun s => s.warmStart pins) s

/-- RESETN_HELD_LOW (R167, R186). -/
def execResetnHeldLow (s : State) : Host.Outcome State Fault Refusal :=
  if s.power = .running then .next s.settle.heldReset else .next s

/-- POWER_DOWN (R186; log 7). -/
def execPowerDown (s : State) : Host.Outcome State Fault Refusal := .next s.blank

/-- HOST_OCTET_RECEIVED (R169). -/
def execHostOctetReceived (octet : Byte) (stopBitLow : Bool) (s : State) : Host.Outcome State Fault Refusal :=
  run (fun s => s.receiveOctet octet stopBitLow) s

/-- HOST_GAP_TIMEOUT (R169). -/
def execHostGapTimeout (s : State) : Host.Outcome State Fault Refusal := run State.gapTimeout s

/-- REPLY_SENT (R171). -/
def execReplySent (s : State) : Host.Outcome State Fault Refusal := run State.replyDone s

/-- IMAGE_WRITE_END (R186). -/
def execImageWriteEnd (image : ImageId) (readBackOk : Bool) (s : State) : Host.Outcome State Fault Refusal :=
  run (fun s => match image with
    | .configuration => (s.configWriteEnd readBackOk).push [.meet]
    | .ageing => (s.ageingWriteEnd readBackOk).push [.meet]) s

end Sys2Proof.Machine
end

