-- ==== Sys2Proof/Machine/LinkCommands.lean ====
section
/-! DEFINITION. The meanings of the rows of the cabinet link. -/

namespace Sys2Proof.Machine

/-- The request in flight, where its class is one. -/
def Clc.flying (l : Clc) (ofClass : TxClass → Bool) : Option LinkRequest :=
  (l.inFlight.filter fun t => ofClass t.request.cls).map fun t => t.request

/-- FREEZE. -/
def TxClass.isFreeze : TxClass → Bool
  | .freeze _ => true
  | .poll _ | .command _ | .testRead _ => false

/-- POLL. -/
def TxClass.isPoll : TxClass → Bool
  | .poll _ => true
  | .freeze _ | .command _ | .testRead _ => false

/-- COMMAND. -/
def TxClass.isCommand : TxClass → Bool
  | .command _ => true
  | .freeze _ | .poll _ | .testRead _ => false

/-- TEST_READ. -/
def TxClass.isTestRead : TxClass → Bool
  | .testRead _ => true
  | .freeze _ | .poll _ | .command _ => false

/-- FREEZE_COMPLETE (R20, R27). -/
def execFreezeComplete (ending : FreezeEnd) (s : State) : Host.Outcome State Fault Refusal :=
  run (fun s => match s.clc.flying TxClass.isFreeze with
    | none => s
    | some _ => s.finish (freezeResult ending)) s

/-- POLL_COMPLETE (R21, R32). -/
def execPollComplete (ending : AttemptEnd PollReply) (s : State) : Host.Outcome State Fault Refusal :=
  run (fun s => match s.clc.flying TxClass.isPoll with
    | none => s
    | some r => s.finish (pollResult r ending)) s

/-- COMMAND_COMPLETE (R22, R32, R33). -/
def execCommandComplete (ending : AttemptEnd CommandReply) (s : State) : Host.Outcome State Fault Refusal :=
  run (fun s => match s.clc.flying TxClass.isCommand with
    | none => s
    | some r => s.finish (commandResult r ending)) s

/-- TEST_READ_COMPLETE (R23, R32, R33). -/
def execTestReadComplete (ending : AttemptEnd TestReadReply) (s : State) : Host.Outcome State Fault Refusal :=
  run (fun s => match s.clc.flying TxClass.isTestRead with
    | none => s
    | some r => s.finish (testReadResult r ending)) s

/-- The attempt in flight is lost to an alert: the request goes back, and the alert is received at the rate that the
attempt began with; LDA reads low (R8, R27, R29). -/
def State.loseLink (s : State) : State :=
  match s.clc.inFlight with
  | none => s
  | some t => s.onClc fun l =>
    { l.giveBack t.request with inFlight := none, link := .alertIn, alertRate := t.rate, stuckTimer := true }

/-- ARBITRATION_LOST (R27). -/
def execArbitrationLost (s : State) : Host.Outcome State Fault Refusal := run State.loseLink s

/-- The start of an alert on an idle link: LDA falls, and the alert is received at the present link rate (R8, R17, R25,
R29). -/
def State.receiveAlert (s : State) : State :=
  s.onClc fun l => { l with link := .alertIn, alertRate := s.floor.linkRate, stuckTimer := true }

/-- ALERT_START (R25). -/
def execAlertStart (s : State) : Host.Outcome State Fault Refusal :=
  run (fun s => s.onlyIf (s.clc.link == .idle) State.receiveAlert) s

/-- ALERT_RECEIVED (R24, R25). A line that reads low after the stop leaves the stuck-line timer running (R29; log 48). -/
def execAlertReceived (header stateWord cause : Byte) (ending : AlertEnd) (s : State) : Host.Outcome State Fault Refusal :=
  run (fun s => s.onlyIf (s.clc.link == .alertIn) fun s =>
    s.push (s.alertTasks header stateWord cause ending.check ++ [.linkIdle (lineLow ending.after)])) s

/-- The stretch outlasts its timeout: the attempt ends, and LCK is waited for with the stuck-line timer running (R28). -/
def State.stretchTimeout (s : State) : State :=
  match s.clc.inFlight with
  | none => s
  | some t =>
    if t.request.cls.isFreeze then s
    else (s.endAttempt .stretchTimeout .none).onClc fun l => { l with stretchWait := true, stuckTimer := true }

/-- STRETCH_TIMEOUT_EXPIRY (R28). -/
def execStretchTimeoutExpiry (s : State) : Host.Outcome State Fault Refusal := run State.stretchTimeout s

/-- LCK_RISE_AFTER_STRETCH (R28). -/
def execLckRiseAfterStretch (s : State) : Host.Outcome State Fault Refusal :=
  run (fun s => s.onlyIf (s.clc.link == .own && s.clc.stretchWait) fun s => s.push [.linkIdle false]) s

/-- STUCK_LINE_TIMER_EXPIRY (R29, R30); in IDLE the arbiter takes the recovery flag at once (R35). -/
def execStuckLineTimerExpiry (atExpiry after : LineLevels) (s : State) : Host.Outcome State Fault Refusal :=
  run (fun s => s.onlyIf (lineLow atExpiry && (s.clc.link == .idle || s.clc.link == .own || s.clc.link == .alertIn)) fun s =>
    s.enterRecovery atExpiry after) s

/-- RECOVERY_RETRY_EXPIRY (R31). -/
def execRecoveryRetryExpiry (after : LineLevels) (s : State) : Host.Outcome State Fault Refusal :=
  run (fun s => s.onlyIf (s.clc.link == .down && s.reached s.clc.retryDue) fun s => s.retryRecovery after) s

end Sys2Proof.Machine
end

