-- ==== Sys2Proof/Machine/Requests.lean ====
section
/-! DEFINITION. The meanings of the request rows: each is the arrival of a good frame of its kind (log 2). -/

namespace Sys2Proof.Machine

/-- A good frame of a kind arrives. -/
def request (k : RequestKind) (tag : Byte) (body : List Byte) (s : State) : Host.Outcome State Fault Refusal :=
  run (State.arriveFrame { kind := kindCode k, tag := tag, body := body }) s

/-- UNKNOWN_KIND_REQUEST: a good frame whose KIND is not in Table 10-3 (R172). -/
def execUnknownKindRequest (kind tag : Byte) (body : List Byte) (s : State) : Host.Outcome State Fault Refusal :=
  run (State.arriveFrame { kind := kind, tag := tag, body := body }) s

/-- IDENT (R175). -/
def execIdent (tag : Byte) (body : List Byte) (s : State) : Host.Outcome State Fault Refusal := request .ident tag body s

/-- STATUS (R176). -/
def execStatus (tag : Byte) (body : List Byte) (s : State) : Host.Outcome State Fault Refusal := request .status tag body s

/-- SET_TIME (R183). -/
def execSetTime (tag : Byte) (body : List Byte) (s : State) : Host.Outcome State Fault Refusal := request .setTime tag body s

/-- RESTART (R188). -/
def execRestart (tag : Byte) (body : List Byte) (s : State) : Host.Outcome State Fault Refusal := request .restart tag body s

/-- SET_NOTICE_MASK (R180). -/
def execSetNoticeMask (tag : Byte) (body : List Byte) (s : State) : Host.Outcome State Fault Refusal := request .setNoticeMask tag body s

/-- FETCH_NOTICES (R181). -/
def execFetchNotices (tag : Byte) (body : List Byte) (s : State) : Host.Outcome State Fault Refusal := request .fetchNotices tag body s

/-- DEFINE_FLOOR (R8). -/
def execDefineFloor (tag : Byte) (body : List Byte) (s : State) : Host.Outcome State Fault Refusal := request .defineFloor tag body s

/-- DEFINE_BUS (R9). -/
def execDefineBus (tag : Byte) (body : List Byte) (s : State) : Host.Outcome State Fault Refusal := request .defineBus tag body s

/-- DEFINE_CABINET (R10, R11). -/
def execDefineCabinet (tag : Byte) (body : List Byte) (s : State) : Host.Outcome State Fault Refusal := request .defineCabinet tag body s

/-- DEFINE_STRING (R12). -/
def execDefineString (tag : Byte) (body : List Byte) (s : State) : Host.Outcome State Fault Refusal := request .defineString tag body s

/-- UNDEFINE with target 3 (R13). -/
def execUndefineString (tag visit : Byte) (rest : List Byte) (s : State) : Host.Outcome State Fault Refusal :=
  request .undefine tag (visit :: 3#8 :: rest) s

/-- UNDEFINE with target 2 (R14). -/
def execUndefineCabinet (tag visit : Byte) (rest : List Byte) (s : State) : Host.Outcome State Fault Refusal :=
  request .undefine tag (visit :: 2#8 :: rest) s

/-- UNDEFINE with target 1 (R15). -/
def execUndefineBus (tag visit : Byte) (rest : List Byte) (s : State) : Host.Outcome State Fault Refusal :=
  request .undefine tag (visit :: 1#8 :: rest) s

/-- COMMIT_CONFIG (R187). -/
def execCommitConfig (tag : Byte) (body : List Byte) (s : State) : Host.Outcome State Fault Refusal := request .commitConfig tag body s

/-- SEED_AGEING (R94). -/
def execSeedAgeing (tag : Byte) (body : List Byte) (s : State) : Host.Outcome State Fault Refusal := request .seedAgeing tag body s

/-- SCAN_EDIT with operation 1 (R54). -/
def execScanEditInsert (tag : Byte) (rest : List Byte) (s : State) : Host.Outcome State Fault Refusal :=
  request .scanEdit tag (1#8 :: rest) s

/-- SCAN_EDIT with operation 2 (R54). -/
def execScanEditRemove (tag : Byte) (rest : List Byte) (s : State) : Host.Outcome State Fault Refusal :=
  request .scanEdit tag (2#8 :: rest) s

/-- SCAN_EDIT with operation 3 (R54). -/
def execScanEditReplace (tag : Byte) (rest : List Byte) (s : State) : Host.Outcome State Fault Refusal :=
  request .scanEdit tag (3#8 :: rest) s

/-- SCAN_TIMING (R55). -/
def execScanTiming (tag : Byte) (body : List Byte) (s : State) : Host.Outcome State Fault Refusal := request .scanTiming tag body s

/-- SCAN_START (R57). -/
def execScanStart (tag : Byte) (body : List Byte) (s : State) : Host.Outcome State Fault Refusal := request .scanStart tag body s

/-- SCAN_STOP (R59). -/
def execScanStop (tag : Byte) (body : List Byte) (s : State) : Host.Outcome State Fault Refusal := request .scanStop tag body s

/-- READ_BUS (R126). -/
def execReadBus (tag : Byte) (body : List Byte) (s : State) : Host.Outcome State Fault Refusal := request .readBus tag body s

/-- READ_CABINETS (R51). -/
def execReadCabinets (tag : Byte) (body : List Byte) (s : State) : Host.Outcome State Fault Refusal := request .readCabinets tag body s

/-- READ_STRINGS (R96). -/
def execReadStrings (tag : Byte) (body : List Byte) (s : State) : Host.Outcome State Fault Refusal := request .readStrings tag body s

/-- READ_READINGS (R69). -/
def execReadReadings (tag : Byte) (body : List Byte) (s : State) : Host.Outcome State Fault Refusal := request .readReadings tag body s

/-- READ_PERMITS (R148). -/
def execReadPermits (tag : Byte) (body : List Byte) (s : State) : Host.Outcome State Fault Refusal := request .readPermits tag body s

/-- READ_VISIT (R165). -/
def execReadVisit (tag : Byte) (body : List Byte) (s : State) : Host.Outcome State Fault Refusal := request .readVisit tag body s

/-- READ_HISTORY (R97). -/
def execReadHistory (tag : Byte) (body : List Byte) (s : State) : Host.Outcome State Fault Refusal := request .readHistory tag body s

/-- REQUEST_WITHDRAW (R130). -/
def execRequestWithdraw (tag : Byte) (body : List Byte) (s : State) : Host.Outcome State Fault Refusal := request .requestWithdraw tag body s

/-- REQUEST_BUS_BYPASS (R131). -/
def execRequestBusBypass (tag : Byte) (body : List Byte) (s : State) : Host.Outcome State Fault Refusal := request .requestBusBypass tag body s

/-- RETURN_PERMIT (R132). -/
def execReturnPermit (tag : Byte) (body : List Byte) (s : State) : Host.Outcome State Fault Refusal := request .returnPermit tag body s

/-- CANCEL_REQUEST (R133). -/
def execCancelRequest (tag : Byte) (body : List Byte) (s : State) : Host.Outcome State Fault Refusal := request .cancelRequest tag body s

/-- START_STRING_TEST (R100). -/
def execStartStringTest (tag : Byte) (body : List Byte) (s : State) : Host.Outcome State Fault Refusal := request .startStringTest tag body s

/-- ABORT_STRING_TEST (R102). -/
def execAbortStringTest (tag : Byte) (body : List Byte) (s : State) : Host.Outcome State Fault Refusal := request .abortStringTest tag body s

/-- BOOK_VISIT (R152). -/
def execBookVisit (tag : Byte) (body : List Byte) (s : State) : Host.Outcome State Fault Refusal := request .bookVisit tag body s

/-- CANCEL_VISIT (R153). -/
def execCancelVisit (tag : Byte) (body : List Byte) (s : State) : Host.Outcome State Fault Refusal := request .cancelVisit tag body s

/-- EXTEND_VISIT (R159). -/
def execExtendVisit (tag : Byte) (body : List Byte) (s : State) : Host.Outcome State Fault Refusal := request .extendVisit tag body s

/-- CLOSE_VISIT (R160). -/
def execCloseVisit (tag : Byte) (body : List Byte) (s : State) : Host.Outcome State Fault Refusal := request .closeVisit tag body s

/-- DECLARE_REPLACED (R157). -/
def execDeclareReplaced (tag : Byte) (body : List Byte) (s : State) : Host.Outcome State Fault Refusal := request .declareReplaced tag body s

end Sys2Proof.Machine
end

