-- ==== Sys2Proof/Machine/TimerCommands.lean ====
section
/-! DEFINITION. The meanings of the rows of the timers and of the clock: each acts once its time has come (log 3). -/

namespace Sys2Proof.Machine

/-- OVERLAY_DEADLINE_EXPIRY (R45). -/
def execOverlayDeadlineExpiry (cabinet : Nat) (s : State) : Host.Outcome State Fault Refusal :=
  run (fun s => s.onlyIf ((s.cabinet cabinet).any fun k => s.reached k.track.overlayDeadline) fun s =>
    s.overlayTimeout cabinet) s

/-- SCAN_DELAY_EXPIRY (R58). -/
def execScanDelayExpiry (s : State) : Host.Outcome State Fault Refusal :=
  run (fun s => s.onlyIf (s.scs.scanner == .delayed && s.reached s.scs.delayDue) fun s => s.enterRunning.push [.meet]) s

/-- PASS_TICK (R60, R64). -/
def execPassTick (s : State) : Host.Outcome State Fault Refusal :=
  run (fun s => s.onlyIf (s.scs.scanner == .running && s.reached s.scs.nextTick) fun s => s.tick.push [.meet]) s

/-- DAY_CHECK (R184). -/
def execDayCheck (s : State) : Host.Outcome State Fault Refusal := run (fun s => s.dayCheck.push [.meet]) s

/-- RECHARGE_HOLD_EXPIRY (R88). -/
def execRechargeHoldExpiry (cabinet slot : Nat) (s : State) : Host.Outcome State Fault Refusal :=
  run (fun s => s.onlyIf ((s.string cabinet slot).any fun u => u.age.state == .recharging && s.reached u.age.rechargeExpiry)
    fun s => (s.ageString cabinet slot (holdExpiry s.now)).push [.meet]) s

/-- SETTLE_TIMER_EXPIRY (R104). -/
def execSettleTimerExpiry (s : State) : Host.Outcome State Fault Refusal :=
  run (fun s => (s.testTimerExpiry .settle).push [.meet]) s

/-- STEP_TIMER_EXPIRY (R105). -/
def execStepTimerExpiry (s : State) : Host.Outcome State Fault Refusal :=
  run (fun s => (s.testTimerExpiry .step).push [.meet]) s

/-- REREAD_TIMER_EXPIRY (R105). -/
def execRereadTimerExpiry (s : State) : Host.Outcome State Fault Refusal :=
  run (fun s => (s.testTimerExpiry .reread).push [.meet]) s

/-- WAIT_DEADLINE_EXPIRY (R134). -/
def execWaitDeadlineExpiry (permit : Nat) (s : State) : Host.Outcome State Fault Refusal :=
  run (fun s => match s.permit permit with
    | none => s
    | some p => s.onlyIf (p.state == .waiting && s.reached p.deadline) fun s => (s.expirePermit p).push [.meet]) s

/-- TRANSFER_SPACING_EXPIRY (R138). -/
def execTransferSpacingExpiry (bus : Bus) (s : State) : Host.Outcome State Fault Refusal :=
  run (fun s => s.onlyIf (s.reached (s.queueOf bus).spacingDue) fun s =>
    (s.onQueue bus fun q => { q with spacingDue := none }).pump bus) s

/-- SYNC_TIMER_EXPIRY (R143, R145). -/
def execSyncTimerExpiry (bus : Bus) (s : State) : Host.Outcome State Fault Refusal :=
  run (fun s => s.onlyIf (s.reached (s.seqOf bus).syncDue) fun s => (s.syncExpiry bus).push [.meet]) s

/-- TRANSFER_TIMER_EXPIRY (R143, R145). -/
def execTransferTimerExpiry (bus : Bus) (s : State) : Host.Outcome State Fault Refusal :=
  run (fun s => s.onlyIf (s.reached (s.seqOf bus).transferDue) fun s => (s.transferExpiry bus).push [.meet]) s

/-- VISIT_START_ARRIVAL (R154). -/
def execVisitStartArrival (visit : Nat) (s : State) : Host.Outcome State Fault Refusal :=
  run (fun s => match s.visit visit with
    | none => s
    | some v => s.onlyIf (s.startDue v) fun s => s.arrive v) s

/-- VISIT_DEADLINE_EXPIRY (R158). -/
def execVisitDeadlineExpiry (visit : Nat) (s : State) : Host.Outcome State Fault Refusal :=
  run (fun s => match s.visit visit with
    | none => s
    | some v => s.onlyIf (v.state == .active && s.reached v.deadline) fun s => s.becomeOverdue v) s

/-- OVERDUE_REMINDER_EXPIRY (R158). -/
def execOverdueReminderExpiry (visit : Nat) (s : State) : Host.Outcome State Fault Refusal :=
  run (fun s => match s.visit visit with
    | none => s
    | some v => s.onlyIf (v.state == .overdue && s.reached v.nextReminder) fun s => s.raiseOverdue v 1) s

/-- CLOSE_DEADLINE_EXPIRY (R162, R163). -/
def execCloseDeadlineExpiry (visit : Nat) (s : State) : Host.Outcome State Fault Refusal :=
  run (fun s => match s.visit visit with
    | none => s
    | some v => s.onlyIf (v.state == .closing && s.reached v.closeDeadline) fun s => (s.closeVisitNow v).push [.meet]) s

end Sys2Proof.Machine
end

