-- ==== Sys2Proof/Machine/Dispatch.lean ====
section
/-! DEFINITION. One arm for each command. -/

namespace Sys2Proof.Machine

def exec (i : Instr) (s : State) : Host.Outcome State Fault Refusal :=
  match i with
  | .powerOn pins => Sys2Proof.Machine.execPowerOn pins s
  | .resetnRelease pins => Sys2Proof.Machine.execResetnRelease pins s
  | .warmStart pins => Sys2Proof.Machine.execWarmStart pins s
  | .hostOctetReceived octet stopBitLow => Sys2Proof.Machine.execHostOctetReceived octet stopBitLow s
  | .hostGapTimeout => Sys2Proof.Machine.execHostGapTimeout s
  | .replySent => Sys2Proof.Machine.execReplySent s
  | .unknownKindRequest kind tag body => Sys2Proof.Machine.execUnknownKindRequest kind tag body s
  | .ident tag body => Sys2Proof.Machine.execIdent tag body s
  | .status tag body => Sys2Proof.Machine.execStatus tag body s
  | .setTime tag body => Sys2Proof.Machine.execSetTime tag body s
  | .restart tag body => Sys2Proof.Machine.execRestart tag body s
  | .setNoticeMask tag body => Sys2Proof.Machine.execSetNoticeMask tag body s
  | .fetchNotices tag body => Sys2Proof.Machine.execFetchNotices tag body s
  | .defineFloor tag body => Sys2Proof.Machine.execDefineFloor tag body s
  | .defineBus tag body => Sys2Proof.Machine.execDefineBus tag body s
  | .defineCabinet tag body => Sys2Proof.Machine.execDefineCabinet tag body s
  | .defineString tag body => Sys2Proof.Machine.execDefineString tag body s
  | .undefineString tag visit rest => Sys2Proof.Machine.execUndefineString tag visit rest s
  | .undefineCabinet tag visit rest => Sys2Proof.Machine.execUndefineCabinet tag visit rest s
  | .undefineBus tag visit rest => Sys2Proof.Machine.execUndefineBus tag visit rest s
  | .commitConfig tag body => Sys2Proof.Machine.execCommitConfig tag body s
  | .seedAgeing tag body => Sys2Proof.Machine.execSeedAgeing tag body s
  | .scanEditInsert tag rest => Sys2Proof.Machine.execScanEditInsert tag rest s
  | .scanEditRemove tag rest => Sys2Proof.Machine.execScanEditRemove tag rest s
  | .scanEditReplace tag rest => Sys2Proof.Machine.execScanEditReplace tag rest s
  | .scanTiming tag body => Sys2Proof.Machine.execScanTiming tag body s
  | .scanStart tag body => Sys2Proof.Machine.execScanStart tag body s
  | .scanStop tag body => Sys2Proof.Machine.execScanStop tag body s
  | .readBus tag body => Sys2Proof.Machine.execReadBus tag body s
  | .readCabinets tag body => Sys2Proof.Machine.execReadCabinets tag body s
  | .readStrings tag body => Sys2Proof.Machine.execReadStrings tag body s
  | .readReadings tag body => Sys2Proof.Machine.execReadReadings tag body s
  | .readPermits tag body => Sys2Proof.Machine.execReadPermits tag body s
  | .readVisit tag body => Sys2Proof.Machine.execReadVisit tag body s
  | .readHistory tag body => Sys2Proof.Machine.execReadHistory tag body s
  | .requestWithdraw tag body => Sys2Proof.Machine.execRequestWithdraw tag body s
  | .requestBusBypass tag body => Sys2Proof.Machine.execRequestBusBypass tag body s
  | .returnPermit tag body => Sys2Proof.Machine.execReturnPermit tag body s
  | .cancelRequest tag body => Sys2Proof.Machine.execCancelRequest tag body s
  | .startStringTest tag body => Sys2Proof.Machine.execStartStringTest tag body s
  | .abortStringTest tag body => Sys2Proof.Machine.execAbortStringTest tag body s
  | .bookVisit tag body => Sys2Proof.Machine.execBookVisit tag body s
  | .cancelVisit tag body => Sys2Proof.Machine.execCancelVisit tag body s
  | .extendVisit tag body => Sys2Proof.Machine.execExtendVisit tag body s
  | .closeVisit tag body => Sys2Proof.Machine.execCloseVisit tag body s
  | .declareReplaced tag body => Sys2Proof.Machine.execDeclareReplaced tag body s
  | .freezeComplete ending => Sys2Proof.Machine.execFreezeComplete ending s
  | .pollComplete ending => Sys2Proof.Machine.execPollComplete ending s
  | .commandComplete ending => Sys2Proof.Machine.execCommandComplete ending s
  | .testReadComplete ending => Sys2Proof.Machine.execTestReadComplete ending s
  | .arbitrationLost => Sys2Proof.Machine.execArbitrationLost s
  | .alertStart => Sys2Proof.Machine.execAlertStart s
  | .alertReceived header stateWord cause ending => Sys2Proof.Machine.execAlertReceived header stateWord cause ending s
  | .stretchTimeoutExpiry => Sys2Proof.Machine.execStretchTimeoutExpiry s
  | .stuckLineTimerExpiry atExpiry after => Sys2Proof.Machine.execStuckLineTimerExpiry atExpiry after s
  | .recoveryRetryExpiry after => Sys2Proof.Machine.execRecoveryRetryExpiry after s
  | .overlayDeadlineExpiry cabinet => Sys2Proof.Machine.execOverlayDeadlineExpiry cabinet s
  | .scanDelayExpiry => Sys2Proof.Machine.execScanDelayExpiry s
  | .passTick => Sys2Proof.Machine.execPassTick s
  | .dayCheck => Sys2Proof.Machine.execDayCheck s
  | .rechargeHoldExpiry cabinet slot => Sys2Proof.Machine.execRechargeHoldExpiry cabinet slot s
  | .settleTimerExpiry => Sys2Proof.Machine.execSettleTimerExpiry s
  | .stepTimerExpiry => Sys2Proof.Machine.execStepTimerExpiry s
  | .rereadTimerExpiry => Sys2Proof.Machine.execRereadTimerExpiry s
  | .waitDeadlineExpiry permit => Sys2Proof.Machine.execWaitDeadlineExpiry permit s
  | .transferSpacingExpiry bus => Sys2Proof.Machine.execTransferSpacingExpiry bus s
  | .syncTimerExpiry bus => Sys2Proof.Machine.execSyncTimerExpiry bus s
  | .transferTimerExpiry bus => Sys2Proof.Machine.execTransferTimerExpiry bus s
  | .visitStartArrival visit => Sys2Proof.Machine.execVisitStartArrival visit s
  | .visitDeadlineExpiry visit => Sys2Proof.Machine.execVisitDeadlineExpiry visit s
  | .overdueReminderExpiry visit => Sys2Proof.Machine.execOverdueReminderExpiry visit s
  | .closeDeadlineExpiry visit => Sys2Proof.Machine.execCloseDeadlineExpiry visit s
  | .imageWriteEnd image readBackOk => Sys2Proof.Machine.execImageWriteEnd image readBackOk s
  | .lckRiseAfterStretch => Sys2Proof.Machine.execLckRiseAfterStretch s
  | .resetnHeldLow => Sys2Proof.Machine.execResetnHeldLow s
  | .powerDown => Sys2Proof.Machine.execPowerDown s

end Sys2Proof.Machine
end

