-- ==== Sys2Proof/Machine/Second.lean ====
section
/-! DEFINITION. A second of uptime (R182). -/

namespace Sys2Proof.Machine

/-- The uptime a second later; past 2^32 - 1 no rule states it (log 4). -/
def nextUptime (uptime : Nat) : Nat := if uptime < 2 ^ 32 - 1 then uptime + 1 else Config.uptimePastTop % 2 ^ 32

/-- A line that a start found low and that has brought no expiry of the stuck-line timer within the second has risen: the
link is free and the arbiter selects (R17, R29, R35; log 8). -/
def State.lineRisen (s : State) : State :=
  if s.clc.link = .idle ∧ s.clc.stuckTimer = true then (s.onClc fun l => { l with stuckTimer := false }).arbitrate else s

/-- A second passes while the part runs (log 3). -/
def State.second (s : State) : State :=
  if s.power = .running then (s.onClock fun c => { c with uptime := nextUptime c.uptime }).lineRisen else s

end Sys2Proof.Machine
end

