-- ==== Sys2Proof/Machine/RequestFrames.lean ====
section
/-! DEFINITION. The frame whose arrival each request row stands for (log 2). -/

namespace Sys2Proof.Machine

/-- A frame of a kind. -/
def ofKind (k : RequestKind) (tag : Byte) (body : List Byte) : Option Frame := some { kind := kindCode k, tag := tag, body := body }

/-- The frame of a request row; none for every other row. -/
def requestFrame : Instr → Option Frame
  | .unknownKindRequest kind tag body => some { kind := kind, tag := tag, body := body }
  | .ident tag body => ofKind .ident tag body
  | .status tag body => ofKind .status tag body
  | .setTime tag body => ofKind .setTime tag body
  | .restart tag body => ofKind .restart tag body
  | .setNoticeMask tag body => ofKind .setNoticeMask tag body
  | .fetchNotices tag body => ofKind .fetchNotices tag body
  | .defineFloor tag body => ofKind .defineFloor tag body
  | .defineBus tag body => ofKind .defineBus tag body
  | .defineCabinet tag body => ofKind .defineCabinet tag body
  | .defineString tag body => ofKind .defineString tag body
  | .undefineString tag visit rest => ofKind .undefine tag (visit :: 3#8 :: rest)
  | .undefineCabinet tag visit rest => ofKind .undefine tag (visit :: 2#8 :: rest)
  | .undefineBus tag visit rest => ofKind .undefine tag (visit :: 1#8 :: rest)
  | .commitConfig tag body => ofKind .commitConfig tag body
  | .seedAgeing tag body => ofKind .seedAgeing tag body
  | .scanEditInsert tag rest => ofKind .scanEdit tag (1#8 :: rest)
  | .scanEditRemove tag rest => ofKind .scanEdit tag (2#8 :: rest)
  | .scanEditReplace tag rest => ofKind .scanEdit tag (3#8 :: rest)
  | .scanTiming tag body => ofKind .scanTiming tag body
  | .scanStart tag body => ofKind .scanStart tag body
  | .scanStop tag body => ofKind .scanStop tag body
  | .readBus tag body => ofKind .readBus tag body
  | .readCabinets tag body => ofKind .readCabinets tag body
  | .readStrings tag body => ofKind .readStrings tag body
  | .readReadings tag body => ofKind .readReadings tag body
  | .readPermits tag body => ofKind .readPermits tag body
  | .readVisit tag body => ofKind .readVisit tag body
  | .readHistory tag body => ofKind .readHistory tag body
  | .requestWithdraw tag body => ofKind .requestWithdraw tag body
  | .requestBusBypass tag body => ofKind .requestBusBypass tag body
  | .returnPermit tag body => ofKind .returnPermit tag body
  | .cancelRequest tag body => ofKind .cancelRequest tag body
  | .startStringTest tag body => ofKind .startStringTest tag body
  | .abortStringTest tag body => ofKind .abortStringTest tag body
  | .bookVisit tag body => ofKind .bookVisit tag body
  | .cancelVisit tag body => ofKind .cancelVisit tag body
  | .extendVisit tag body => ofKind .extendVisit tag body
  | .closeVisit tag body => ofKind .closeVisit tag body
  | .declareReplaced tag body => ofKind .declareReplaced tag body
  | .powerOn _ | .resetnRelease _ | .warmStart _ | .hostOctetReceived _ _ | .hostGapTimeout | .replySent => none
  | .freezeComplete _ | .pollComplete _ | .commandComplete _ | .testReadComplete _ | .arbitrationLost | .alertStart => none
  | .alertReceived _ _ _ _ | .stretchTimeoutExpiry | .stuckLineTimerExpiry _ _ | .recoveryRetryExpiry _ => none
  | .overlayDeadlineExpiry _ | .scanDelayExpiry | .passTick | .dayCheck | .rechargeHoldExpiry _ _ => none
  | .settleTimerExpiry | .stepTimerExpiry | .rereadTimerExpiry | .waitDeadlineExpiry _ => none
  | .transferSpacingExpiry _ | .syncTimerExpiry _ | .transferTimerExpiry _ | .visitStartArrival _ => none
  | .visitDeadlineExpiry _ | .overdueReminderExpiry _ | .closeDeadlineExpiry _ | .imageWriteEnd _ _ => none
  | .lckRiseAfterStretch | .resetnHeldLow | .powerDown => none

end Sys2Proof.Machine
end

