-- ==== Sys2Proof/Safety.lean ====
section
/-! DEFINITION. The conditions and the parts of the state that statements about the machine are made with. -/

namespace Sys2Proof.Machine

/-- The part runs, and no signal of an earlier command waits to be handed on. -/
abbrev State.Running (s : State) : Prop := s.power = .running ∧ s.agenda = []

/-- The part runs, no signal waits, no handing-on is open and no recomputation trigger is unmet: as it stands between
commands (log 10). -/
abbrev State.Quiet (s : State) : Prop := s.Running ∧ s.hold = 0 ∧ s.triggers = Vector.replicate 4 false

/-- The transmitter is free, no frame or BUSY reply waits for it, and no warm start is awaited (R171, R188). -/
abbrev State.LineFree (s : State) : Prop :=
  s.host.reply = none ∧ s.host.queue = [] ∧ s.host.busy = [] ∧ s.host.afterReply = .nothing ∧
    s.host.restartWaiting = false

/-- A request that arrives now is handled at once. -/
abbrev State.Ready (s : State) : Prop := s.Quiet ∧ s.LineFree

/-- No permit is live and every bypass sequencer is NORMAL: the passes of the PAR find nothing to do. -/
abbrev State.NoTransfers (s : State) : Prop := s.par.permits = [] ∧ ∀ b : Bus, (s.seqOf b).state = .normal

/-- No bypass sequencer has left NORMAL. -/
abbrev State.NormalBuses (s : State) : Prop := ∀ b : Bus, (s.seqOf b).state = .normal

/-- No request waits at the CLC (R34). -/
abbrev Clc.Empty (l : Clc) : Prop := l.slots = Vector.replicate 4 none ∧ l.testSlot = none ∧ l.scanQueue = []

/-- The state with a reply in progress (R168, R172). -/
def State.answered (s : State) (kind tag : Byte) (status : Status) (rest : List Byte) : State :=
  s.onHost fun h => { h with reply := some (replyFrame kind tag { status := status, rest := rest }) }

/-- A bus whose trigger stands has its figures made anew, and the trigger is met (R120, R121). -/
def State.metAt (s : State) (b : Bus) : State :=
  if s.triggers[b] then (s.onTriggers fun v => v.set b false).recompute b else s

/-- Every trigger that stands is met, in the order of the buses (R120; log 10), where the passes of the PAR find nothing to
do. -/
def State.met (s : State) : State := busList.foldl State.metAt s

/-- The commands of a list, each run to its end before the next. -/
def runAll : List Instr → State → Host.Outcome State Fault Refusal
  | [], s => .next s
  | i :: rest, s => match exec i s with
    | .next t => runAll rest t
    | .fault f => .fault f
    | .refused r => .refused r

/-- What no signal inside a command ever changes: the definitions, the clock's run, the host's own settings, the line. -/
structure Outer where
  pending : List Instr
  power : Power
  startCause : Nat
  floor : FloorRec
  loadedSaved : Nat
  host : HostLine
  buses : Vector (Option BusRec) 4
  cabinets : Vector (Option CabinetImage) 24
  uptime : Nat
  offset : Nat
  valid : Bool
  pendingList : List ScanEntry
  pendingTiming : ScanTiming
  mask : Byte
  nextPermitId : Nat
  nextVisitId : Nat
  bookings : Nat
  config : StoredImage ConfigBody
  ageing : StoredImage (List AgeImage)
  configStatus : ImageStatus
  ageingStatus : ImageStatus
  configSave : SaveState ConfigBody
  deriving DecidableEq, Repr

/-- The part of the state that no signal inside a command changes. -/
def State.outer (s : State) : Outer :=
  { pending := s.pending, power := s.power, startCause := s.startCause, floor := s.floor, loadedSaved := s.loadedSaved,
    host := s.host, buses := s.buses.map fun o => o.map fun u => u.defn,
    cabinets := s.cabinets.map fun o => o.map Cabinet.image, uptime := s.clock.uptime, offset := s.clock.offset,
    valid := s.clock.valid, pendingList := s.scs.pendingList, pendingTiming := s.scs.pendingTiming,
    mask := s.notices.mask, nextPermitId := s.par.nextId, nextVisitId := s.vct.nextId, bookings := s.vct.bookings,
    config := s.ims.config, ageing := s.ims.ageing, configStatus := s.ims.configStatus,
    ageingStatus := s.ims.ageingStatus, configSave := s.ims.configSave }

/-! ### What every step keeps -/

/-- A scan list holds at most 128 entries, and no two of them read the same point (R52). -/
abbrev ScanListOk (l : List ScanEntry) : Prop := l.length ≤ 128 ∧ (l.map fun e => (e.cabinet, e.point)).Nodup

/-- The active copy of the scan list (R53). -/
def State.activeList (s : State) : List ScanEntry := s.scs.active.map fun e => e.entry

/-- The defined strings of the floor. -/
def State.strings (s : State) : List StringUnit :=
  (s.cabinets.toList.filterMap id).flatMap fun k => k.strings.toList.filterMap id

/-- The snapshot that is being written, if any (R186). -/
def SaveState.snapshot {β : Type} : SaveState β → Option (StoredImage β)
  | .idle => none
  | .saving snapshot _ => some snapshot

/-- A daily window and a discharge history of at most eight entries (R83, R86). -/
abbrev EightAtMost (window : List Nat) (history : List DischargeRec) : Prop := window.length ≤ 8 ∧ history.length ≤ 8

/-- A visit locks the cabinets of its scope (R151). -/
abbrev Visit.locking (v : Visit) : Prop :=
  (v.state = .active ∨ v.state = .overdue ∨ v.state = .closing) ∧ v.level ≠ .observe

/-- The HLC keeps ATTNN as R180 has it, the capacities of its notice queue (R179), its receive queue and its busy list
(R170), and the saturation of its counts (R169, R170). -/
structure State.LineInv (s : State) : Prop where
  attention : s.notices.attention = s.notices.attentionDue
  notices : s.notices.queue.length ≤ 32
  queue : s.host.queue.length ≤ 4
  busy : s.host.busy.length ≤ 4
  framingErrors : s.host.framingErrors ≤ 65535
  dropped : s.host.dropped ≤ 65535

/-- The PAR keeps at most 32 live permits, no two of one id, and at most 8 of a bus WAITING (R127); no cabinet is the subject
of two, and no bus of two BUS_BYPASS permits (R131); and a transfer queue holds one waiting entry per cabinet at most (R138). -/
structure State.PermitInv (s : State) : Prop where
  table : s.par.permits.length ≤ 32
  ids : (s.par.permits.map fun p => p.id).Nodup
  waiting : ∀ b : Bus, (s.waitQueue b).length ≤ 8
  cabinets : (s.par.permits.filterMap fun p => p.cabinet).Nodup
  bypasses : ((s.par.permits.filter fun p => p.kind == .busBypass).map fun p => p.bus).Nodup
  transfers : ∀ b : Bus, ((s.queueOf b).waiting.map fun e => e.cabinet).Nodup

/-- The SCS keeps both copies of the scan list within R52, and equal with their timing unless it is RUNNING (R53); so does
the IMS with the lists of the configuration image and of a snapshot of it being written. -/
structure State.ScanInv (s : State) : Prop where
  equal : s.scs.scanner ≠ .running → s.activeList = s.scs.pendingList ∧ s.scs.timing = s.scs.pendingTiming
  active : ScanListOk s.activeList
  pending : ScanListOk s.scs.pendingList
  image : ScanListOk s.ims.config.body.list
  snapshot : ∀ x ∈ s.ims.configSave.snapshot, ScanListOk x.body.list

/-- The AGU keeps every daily window and discharge history within R83 and R86; so does the IMS with those of the ageing image
and of a snapshot of it being written. -/
structure State.AgeInv (s : State) : Prop where
  strings : ∀ u ∈ s.strings, EightAtMost u.age.window u.age.history
  image : ∀ a ∈ s.ims.ageing.body, EightAtMost a.window a.history
  snapshot : ∀ x ∈ s.ims.ageingSave.snapshot, ∀ a ∈ x.body, EightAtMost a.window a.history

/-- The VCT keeps its visits under ids of their own, with scopes among the cabinets 1..24, and its lock table: the visit that
locks a cabinet is the one in ACTIVE, OVERDUE or CLOSING, above OBSERVE, that holds it in its scope, and every such visit
locks every cabinet of its scope (R151). -/
structure State.VisitInv (s : State) : Prop where
  ids : (s.visits.map fun v => v.id).Nodup
  scopes : ∀ v ∈ s.visits, ∀ c ∈ v.scope, 1 ≤ c ∧ c ≤ 24
  locker : ∀ c ∈ cabinetIndices, ∀ id ∈ s.lockOf c, ∃ v ∈ s.visits, v.id = id ∧ v.locking ∧ c ∈ v.scope
  locked : ∀ v ∈ s.visits, v.locking → ∀ c ∈ v.scope, s.lockOf c = some v.id

/-- What every step keeps. -/
structure State.Inv (s : State) : Prop where
  line : s.LineInv
  permits : s.PermitInv
  scan : s.ScanInv
  ages : s.AgeInv
  visits : s.VisitInv

end Sys2Proof.Machine
end

