-- ==== Sys2Proof/WellFormed.lean ====
section
/-! DEFINITION. What a command must look like to come from outside the part: the ranges of its operands. -/

namespace Sys2Proof

/-- A body of a frame holds at most 120 octets (R168). -/
def bodyFits (body : List Byte) : Bool := decide (body.length ≤ 120)

/-- A cabinet index 1..24 (section 0.6). -/
def cabinetIndex (c : Nat) : Bool := decide (1 ≤ c ∧ c ≤ 24)

/-- A slot 1..4 (section 0.6). -/
def slotIndex (n : Nat) : Bool := decide (1 ≤ n ∧ n ≤ 4)

/-- A permit or visit id 1..255 (R127, R149). -/
def idOperand (n : Nat) : Bool := decide (1 ≤ n ∧ n ≤ 255)

/-- The KIND octets of Table 10-3. -/
def kindOctets : List Byte :=
  [0x01#8, 0x02#8, 0x03#8, 0x04#8, 0x05#8, 0x06#8, 0x10#8, 0x11#8, 0x12#8, 0x13#8, 0x14#8, 0x15#8, 0x16#8, 0x20#8, 0x21#8,
   0x22#8, 0x23#8, 0x28#8, 0x29#8, 0x2A#8, 0x2B#8, 0x2C#8, 0x2D#8, 0x2E#8] ++
  [0x30#8, 0x31#8, 0x32#8, 0x33#8, 0x38#8, 0x39#8, 0x40#8, 0x41#8, 0x42#8, 0x43#8, 0x44#8]

/-- A line reads low. -/
def someLow (l : LineLevels) : Bool := l.lckLow || l.ldaLow

/-- The operands of a command are in range. -/
def Instr.wellFormed : Instr → Bool
  | .powerOn _ | .resetnRelease _ | .warmStart _ => true
  | .hostOctetReceived _ _ | .hostGapTimeout | .replySent => true
  | .unknownKindRequest kind _ body => !kindOctets.contains kind && bodyFits body
  | .ident _ body | .status _ body | .setTime _ body | .restart _ body | .setNoticeMask _ body
  | .fetchNotices _ body | .defineFloor _ body | .defineBus _ body | .defineCabinet _ body
  | .defineString _ body => bodyFits body
  | .undefineString _ _ rest | .undefineCabinet _ _ rest | .undefineBus _ _ rest => decide (rest.length ≤ 118)
  | .commitConfig _ body | .seedAgeing _ body => bodyFits body
  | .scanEditInsert _ rest | .scanEditRemove _ rest | .scanEditReplace _ rest => decide (rest.length ≤ 119)
  | .scanTiming _ body | .scanStart _ body | .scanStop _ body | .readBus _ body | .readCabinets _ body
  | .readStrings _ body | .readReadings _ body | .readPermits _ body | .readVisit _ body | .readHistory _ body
  | .requestWithdraw _ body | .requestBusBypass _ body | .returnPermit _ body | .cancelRequest _ body
  | .startStringTest _ body | .abortStringTest _ body | .bookVisit _ body | .cancelVisit _ body
  | .extendVisit _ body | .closeVisit _ body | .declareReplaced _ body => bodyFits body
  | .freezeComplete _ | .pollComplete _ | .commandComplete _ | .testReadComplete _ | .arbitrationLost | .alertStart => true
  | .alertReceived _ _ _ _ | .stretchTimeoutExpiry => true
  | .stuckLineTimerExpiry atExpiry _ => someLow atExpiry
  | .recoveryRetryExpiry _ => true
  | .overlayDeadlineExpiry c => cabinetIndex c
  | .scanDelayExpiry | .passTick | .dayCheck => true
  | .rechargeHoldExpiry c slot => cabinetIndex c && slotIndex slot
  | .settleTimerExpiry | .stepTimerExpiry | .rereadTimerExpiry => true
  | .waitDeadlineExpiry permit => idOperand permit
  | .transferSpacingExpiry _ | .syncTimerExpiry _ | .transferTimerExpiry _ => true
  | .visitStartArrival visit | .visitDeadlineExpiry visit | .overdueReminderExpiry visit
  | .closeDeadlineExpiry visit => idOperand visit
  | .imageWriteEnd _ _ | .lckRiseAfterStretch | .resetnHeldLow | .powerDown => true

end Sys2Proof
end

