-- ==== Sys2Proof/Certificates/Slice0/Obligations.lean ====
section
/-! DEFINITION. The statements for the provers. A state "Ready" (Safety.lean) is one in which a request that arrives is
handled at once; `State.answered` is a state with a reply in progress; `State.recompute b` makes the figures of a bus anew with
their notices, as DefineBusCreatesOrReplaces states in full, and `State.met` does so for every bus whose trigger stands. Through all of them run choices of the model's own: a
request's command is the arrival of its whole frame (log 2), a timer's command acts once its time has come (log 3), the
level of the lines comes with the commands and `stuckTimer` is a note (log 8). Where a statement rests on a further entry of
the log, its docstring names it. -/

open Sys2Proof
open Sys2Proof.Machine

/-! ### The machine as a whole -/

/-- The command at the front of the queue runs on the state with the queue's rest. -/
def Obligations.StepRunsTheFrontCommand : Prop :=
  ∀ (c : Instr) (s : State), step { s with pending := c :: s.pending } = exec c s

/-- With no command waiting, a running part counts a second of uptime and changes nothing else (the model's choice, log 3; R182
gives the uptime), but that a line which a start or the end of an alert found low has then risen: an IDLE link is free, and the
arbiter selects (log 8; R17, R35). -/
def Obligations.IdleStepCountsASecond : Prop :=
  ∀ s : State, s.pending = [] →
    step s = .next s.second ∧
    (s.power ≠ .running → s.second = s) ∧
    (s.power = .running → s.clock.uptime < 2 ^ 32 - 1 →
      let later := { s with clock := { s.clock with uptime := s.clock.uptime + 1 } }
      ((s.clc.link ≠ .idle ∨ s.clc.stuckTimer = false) → s.second = later) ∧
      (s.clc.link = .idle → s.clc.stuckTimer = true →
        (s.clc.Empty → s.second = later.onClc fun l => { l with stuckTimer := false }) ∧
        (∀ r rest n, s.clc.slots = Vector.replicate 4 none → s.clc.testSlot = none → s.clc.scanQueue = r :: rest →
          r.cls = .freeze n → s.second = later.onClc fun l =>
            { l with link := .own, stuckTimer := false, scanQueue := rest,
                     inFlight := some { request := { r with address := 0, begun := true }, rate := s.floor.linkRate,
                                        stretchMs := s.floor.stretchMs } })))

/-- The state after reset meets the invariant. -/
def Obligations.ResetMeetsTheInvariant : Prop := State.reset.Inv

/-- Every step keeps ATTNN as R180 has it, the queues and tables within their capacities (R127, R170, R179), one live permit per
cabinet (R131), one waiting transfer command per cabinet (R138), the scan lists within R52 and both copies equal unless RUNNING
(R53), windows and histories of eight at most (R83, R86), and the lock table as the visits have it (R151). -/
def Obligations.EveryStepKeepsTheInvariant : Prop := ∀ s t : State, s.Inv → step s = .next t → t.Inv

/-- The octets of a good frame, received one by one by a hunting receiver, do what the request's command does (R168 to
R170). -/
def Obligations.OctetsOfAFrameMakeItsRequest : Prop :=
  ∀ (c : Instr) (f : Frame) (s : State), requestFrame c = some f → f.body.length ≤ 120 → s.Running →
    s.host.receiver = .hunting →
    runAll ((frameOctets f).map fun o => .hostOctetReceived o false) s = exec c s

/-! ### Starts -/

/-- A start that finds both images absent: every record undefined, every block at its value after a start, STARTUP in the queue
(R182, R185, R189; the warm start is a command of its own, log 23). A warm start with a valid clock keeps the floor time: no gap
is accrued without an ageing image (R92), and the day check takes, keeps or rolls over the last processed day, or raises
CLOCK_BACKWARD (R182, R184, R189 step 5; the length of the rollover's image is a free value, log 6). RESETN held low ends the
writes and cuts the reply; the loss of supply keeps the two images alone (R167, R186; what else is held while the part has no
supply is the model's choice, log 7). Where the rules give no value, the scanner's start cause is 1 (log 27), and the cause,
result, charge and confirmed flag of the last-test summary and the rate of the last alert are 0 (log 38). -/
def Obligations.StartsWithoutImagesAndSupplyLoss : Prop :=
  (∀ (s : State) (pins : StartPins),
     s.ims.cut.config.header.status Config.configImageMax = .absent →
     s.ims.cut.ageing.header.status Config.ageingImageMax = .absent →
     let started := fun (cause lastDay : Nat) =>
       ({ State.reset with
           pending := s.pending, startCause := cause,
           clc := { Clc.initial with stuckTimer := pins.lines.lckLow || pins.lines.ldaLow },
           ims := { s.ims.cut with configStatus := .absent, ageingStatus := .absent },
           clock := { uptime := 0, offset := 0, valid := false, lastDay := lastDay, backwardMark := false },
           host := HostLine.initial pins.baud.toNat,
           notices := { queue := [{ Notice.firstStartup with result := cause }], mask := 0xFF#8, overflow := false,
                        attention := true },
           freeCount := s.freeCount } : State)
     exec (.powerOn pins) s = .next (started 1 0) ∧
     (s.power ≠ .unpowered → exec (.resetnRelease pins) s = .next (started 2 0)) ∧
     (s.Running → s.host.restartWaiting = true → s.ims.configSave = .idle → s.ims.ageingSave = .idle →
       s.clock.valid = false → exec (.warmStart pins) s = .next (started 3 s.clock.lastDay)) ∧
     (s.Running → s.host.restartWaiting = true → s.ims.configSave = .idle → s.ims.ageingSave = .idle → s.clock.valid = true →
       let time := (s.clock.uptime + s.clock.offset) % 2 ^ 32
       let day := time / 86400
       let last := s.clock.lastDay
       let kept := fun (lastDay : Nat) => { started 3 lastDay with
         clock := { uptime := 0, offset := time, valid := true, lastDay := lastDay, backwardMark := false },
         notices := { queue := [{ Notice.firstStartup with stamp := { time := time, isUptime := false }, result := 3 }],
                      mask := 0xFF#8, overflow := false, attention := true } }
       ((last = 0 ∨ last = day) → exec (.warmStart pins) s = .next (kept day)) ∧
       (0 < last → last < day → exec (.warmStart pins) s = .next (((kept day).onIms fun i => { i with
         ageingSave := .saving { header := { length := .written s.freeCount, format := .current, savedTime := time,
                                             crcMatches := true }, body := [] } false }).onFreeCount (· + 1))) ∧
       (day < last → exec (.warmStart pins) s = .next (((kept last).onClock fun k =>
         { k with backwardMark := true }).raise .clockBackward {} (last - day) 2)))) ∧
  (∀ s : State,
     (s.Running → exec .resetnHeldLow s = .next { s with
       power := .heldInReset, ims := s.ims.cut, host := { s.host with receiver := .hunting, reply := none } }) ∧
     exec .powerDown s = .next { State.reset with
       pending := s.pending, power := .unpowered, ims := s.ims.cut, notices := .initial, freeCount := s.freeCount })

/-- A cold start, by power-on or by the release of RESETN, takes the floor, bus, cabinet and string records, the pending list and
its timing from a valid configuration image, and the defaults and nothing else where the image is absent or corrupt (R185, R189
step 2). Every string takes its ageing record from a valid ageing image, its open discharge cut, in FLOAT, with the gap to be
accrued where the saved time is known; where the image is not valid or lacks it, the record is new, and lost where the image was
corrupt (R95). A warm start with a valid clock, here on the last processed day, accrues the gap of every kept record at once:
from the saved time to the present floor time, at most 366 days, at the factor of the last temperature; no mark is left, and a
saved time that lies ahead raises CLOCK_BACKWARD (R91, R92; also where no string has the mark, log 30). -/
def Obligations.StartTakesTheStoredConfiguration : Prop :=
  (∀ (released : Bool) (s : State) (pins : StartPins), (released = true → s.power ≠ .unpowered) →
    let image := s.ims.cut.config
    let status := image.header.status Config.configImageMax
    let body := if status = .valid then image.body else ConfigBody.empty
    let ages := s.ims.cut.ageing
    let agesStatus := ages.header.status Config.ageingImageMax
    ∃ t, exec (if released then .resetnRelease pins else .powerOn pins) s = .next t ∧ t.power = .running ∧
      t.startCause = (if released then 2 else 1) ∧ t.ims.configStatus = status ∧
      t.floor = body.floor.load ∧
      (t.buses.map fun o => o.map fun u => u.defn) = (body.buses.map fun o => o.map BusImage.load) ∧
      (t.cabinets.map fun o => o.map Cabinet.image) = body.cabinets ∧
      t.scs.pendingList = body.list ∧ t.scs.pendingTiming = body.timing ∧
      t.clock.uptime = 0 ∧ t.clock.offset = 0 ∧ t.clock.valid = false ∧
      t.host = HostLine.initial pins.baud.toNat ∧ t.notices.mask = 0xFF#8 ∧ t.par.nextId = 1 ∧ t.vct.nextId = 1 ∧
      t.ims.ageingStatus = agesStatus ∧ t.loadedSaved = (if agesStatus = .valid then ages.header.savedTime else 0) ∧
      (agesStatus = .corrupt → ∃ x ∈ t.notices.queue, x.kind = .ageingLost) ∧
      ∀ c slot u, t.string c slot = some u →
        let kept := if agesStatus = .valid then ages.body.find? fun a => a.cabinet == c && a.slot == slot else none
        u.age.state = .float ∧ u.age.rechargeStart = none ∧ u.age.rechargeExpiry = none ∧ u.age.counterBase = none ∧
        u.age.lastAccrual = 0 ∧
        (∀ a, kept = some a → u.age.calendarWear = a.calendarWear ∧ u.age.cycleCharge = a.cycleCharge ∧
          u.age.baseline = a.baseline ∧ u.age.lastImpedance = a.lastImpedance ∧ u.age.lastTest = a.lastTest ∧
          u.age.lastTemperature = a.lastTemperature ∧ u.age.window = a.window ∧ u.age.boundaryWear = a.boundaryWear ∧
          u.age.ageingLost = a.ageingLost ∧ u.age.tempUnknown = a.tempUnknown ∧
          u.age.baselinePending = a.baselinePending ∧ u.age.gapPending = (ages.header.savedTime != 0) ∧
          u.age.history = a.history.map fun r => if r.isOpen ∨ r.awaitingClose then
            { r with isOpen := false, awaitingClose := false, cutByStart := true } else r) ∧
        (kept = none → u.age.calendarWear = 0 ∧ u.age.cycleCharge = 0 ∧ u.age.baseline = 0 ∧ u.age.lastImpedance = 0 ∧
          u.age.lastTest = none ∧ u.age.lastTemperature = none ∧ u.age.window = [] ∧ u.age.history = [] ∧
          u.age.ageingLost = (agesStatus == .corrupt) ∧ u.age.baselinePending = true ∧ u.age.gapPending = false)) ∧
  (∀ (s : State) (pins : StartPins), s.Running → s.host.restartWaiting = true → s.ims.configSave = .idle →
     s.ims.ageingSave = .idle → s.clock.valid = true →
     let time := (s.clock.uptime + s.clock.offset) % 2 ^ 32
     let ages := s.ims.ageing
     ages.header.status Config.ageingImageMax = .valid → s.clock.lastDay = time / 86400 →
     let saved := ages.header.savedTime
     ∃ t, exec (.warmStart pins) s = .next t ∧ t.power = .running ∧ t.startCause = 3 ∧
       t.clock = { uptime := 0, offset := time, valid := true, lastDay := s.clock.lastDay, backwardMark := false } ∧
       (time < saved → t.notices.overflow = true ∨ ∃ x ∈ t.notices.queue, x.kind = .clockBackward ∧ x.result = 1 ∧
         x.value = min (saved - time) (2 ^ 32 - 1)) ∧
       ∀ c slot u a, t.string c slot = some u →
         ages.body.find? (fun a => a.cabinet == c && a.slot == slot) = some a →
         let factor := match a.lastTemperature with
           | none => 256
           | some degrees => temperatureFactor degrees
         u.age.gapPending = false ∧ u.age.cycleCharge = a.cycleCharge ∧ u.age.lastAccrual = 0 ∧
         u.age.calendarWear = (if saved = 0 then a.calendarWear
           else min (a.calendarWear + factor * min (time - saved) 31622400) (2 ^ 40 - 1)))

/-! ### The host line -/

/-- The receiver, octet by octet: hunting, LEN, the octets of the frame, the last one of a frame whose CRC does not match, and the
gap timeout (R169, R170). -/
def Obligations.ReceiverTakesAnOctet : Prop :=
  ∀ (s : State) (octet : Byte) (low : Bool), s.Running →
    let abandoned := s.onHost fun h =>
      { h with receiver := .hunting, framingErrors := min (h.framingErrors + 1) 65535 }
    (s.host.receiver = .hunting → (low = true ∨ octet ≠ 0xB7#8) → exec (.hostOctetReceived octet low) s = .next s) ∧
    (s.host.receiver = .hunting → low = false → octet = 0xB7#8 →
      exec (.hostOctetReceived octet low) s = .next (s.onHost fun h => { h with receiver := .awaitingLength })) ∧
    (s.host.receiver = .awaitingLength → low = false → octet.toNat ≤ 120 →
      exec (.hostOctetReceived octet low) s =
        .next (s.onHost fun h => { h with receiver := .inFrame [octet] (2 + octet.toNat + 2) })) ∧
    (s.host.receiver = .awaitingLength → (low = true ∨ 120 < octet.toNat) →
      exec (.hostOctetReceived octet low) s = .next abandoned) ∧
    (∀ stored expected, s.host.receiver = .inFrame stored expected → low = false → 2 ≤ expected →
      exec (.hostOctetReceived octet low) s =
        .next (s.onHost fun h => { h with receiver := .inFrame (stored ++ [octet]) (expected - 1) })) ∧
    (∀ stored expected, s.host.receiver = .inFrame stored expected → low = true →
      exec (.hostOctetReceived octet low) s = .next abandoned) ∧
    (∀ kind tag body hi, s.host.receiver = .inFrame (BitVec.ofNat 8 body.length :: kind :: tag :: (body ++ [hi])) 1 →
      low = false → body.length ≤ 120 → [hi, octet] ≠ octets 2 (crc16 (BitVec.ofNat 8 body.length :: kind :: tag :: body)).toNat →
      exec (.hostOctetReceived octet low) s = .next abandoned) ∧
    (s.host.receiver ≠ .hunting → exec .hostGapTimeout s = .next abandoned) ∧
    (s.host.receiver = .hunting → exec .hostGapTimeout s = .next s)

/-- A good frame that arrives while a reply is in progress: queued, or put on the busy list, or dropped and counted (R170,
R171). -/
def Obligations.FrameWaitsBehindAReply : Prop :=
  ∀ (c : Instr) (f : Frame) (s : State), requestFrame c = some f → f.body.length ≤ 120 → s.Running →
    s.host.reply ≠ none →
    (s.host.queue.length < 4 → exec c s = .next (s.onHost fun h => { h with queue := h.queue ++ [f] })) ∧
    (4 ≤ s.host.queue.length → s.host.busy.length < 4 →
      exec c s = .next (s.onHost fun h => { h with busy := h.busy ++ [(f.kind, f.tag)] })) ∧
    (4 ≤ s.host.queue.length → 4 ≤ s.host.busy.length →
      exec c s = .next (s.onHost fun h => { h with dropped := min (h.dropped + 1) 65535 }))

/-- The end of a reply: the oldest BUSY reply goes first, then the oldest frame is handled, as its request is where no other
waits; a CLOSED visit that the reply carried leaves the table, and one not CLOSED stays (log 25); after a RESTART no frame is
taken (R165, R171, R188). -/
def Obligations.ReplySentServesTheNext : Prop :=
  ∀ (s : State) (octets : List Byte), s.Running → s.host.reply = some octets →
    (s.host.afterReply = .nothing → s.host.busy = [] → s.host.queue = [] →
      exec .replySent s = .next (s.onHost fun h => { h with reply := none })) ∧
    (∀ kind tag rest, s.host.afterReply = .nothing → s.host.busy = (kind, tag) :: rest →
      exec .replySent s = .next (s.onHost fun h =>
        { h with busy := rest, reply := some (frameOctets { kind := kind + 0x80#8, tag := tag, body := [0x27#8] }) })) ∧
    (∀ c f rest, requestFrame c = some f → f.body.length ≤ 120 → s.host.afterReply = .nothing →
      s.host.restartWaiting = false → s.host.busy = [] → s.host.queue = f :: rest →
      let free := s.onHost fun h => { h with reply := none, queue := rest }
      exec .replySent s = .next (free.handleFrame f).settle ∧ (rest = [] → exec .replySent s = exec c free)) ∧
    (s.host.afterReply = .restart → s.host.busy = [] →
      exec .replySent s = .next (s.onHost fun h =>
        { h with reply := none, afterReply := .nothing, restartWaiting := true })) ∧
    (∀ (slot : Fin 8) (v : Visit), s.host.afterReply = .dropVisit slot v.id → s.vct.slots[slot] = some v →
      s.host.busy = [] → s.host.queue = [] →
      let sent := s.onHost fun h => { h with reply := none, afterReply := .nothing }
      (v.state = .closed → exec .replySent s = .next (sent.onVct fun t => { t with slots := t.slots.set slot none })) ∧
      (v.state ≠ .closed → exec .replySent s = .next sent))

/-! ### What every request is answered -/

/-- A KIND that is not in Table 10-3 is answered UNKNOWN_KIND, a body of a length the kind does not take BAD_LENGTH, and nothing
else changes (R172 steps 1 and 2). -/
def Obligations.UnknownKindAndBadLengthAreAnswered : Prop :=
  (∀ (kind tag : Byte) (body : List Byte) (s : State), s.Ready → kind ∉ kindOctets → body.length ≤ 120 →
     exec (.unknownKindRequest kind tag body) s = .next (s.answered kind tag .unknownKind [])) ∧
  (∀ (c : Instr) (k : RequestKind) (tag : Byte) (body : List Byte) (s : State), s.Ready →
     requestFrame c = some { kind := kindCode k, tag := tag, body := body } → body.length ≤ 120 →
     body.length ∉ (match k with
       | .ident | .status | .restart | .commitConfig | .scanStop => [0]
       | .setNoticeMask | .fetchNotices | .cancelVisit => [1]
       | .scanStart | .readBus | .readCabinets | .readPermits | .readVisit | .returnPermit | .cancelRequest
       | .abortStringTest => [2]
       | .scanTiming | .readStrings | .readReadings | .extendVisit => [3]
       | .setTime | .undefine => [4]
       | .readHistory | .requestWithdraw | .requestBusBypass => [5]
       | .scanEdit | .startStringTest => [6]
       | .defineBus => [9]
       | .defineFloor => [10]
       | .defineCabinet => [16]
       | .seedAgeing => [17]
       | .defineString => [28]
       | .closeVisit => [1, 3]
       | .declareReplaced => [3, 13]
       | .bookVisit => [13, 14, 15, 16, 17, 18, 19, 20, 21, 22, 23, 24, 25, 26, 27, 28, 29, 30, 31, 32, 33, 34, 35, 36]) →
     exec c s = .next (s.answered (kindCode k) tag .badLength []))

/-- While no bus is defined, the scan, permit, test and visit requests and COMMIT_CONFIG of the right length are refused
NOT_CONFIGURED, and nothing else changes (R16). -/
def Obligations.UnconfiguredPartRefuses : Prop :=
  ∀ (c : Instr) (k : RequestKind) (tag : Byte) (body : List Byte) (s : State), s.Ready → s.configured = false →
    requestFrame c = some { kind := kindCode k, tag := tag, body := body } →
    (k, body.length) ∈ [(RequestKind.scanEdit, 6), (.scanTiming, 3), (.scanStart, 2), (.scanStop, 0),
      (.requestWithdraw, 5), (.requestBusBypass, 5), (.returnPermit, 2), (.cancelRequest, 2), (.startStringTest, 6),
      (.abortStringTest, 2), (.cancelVisit, 1), (.extendVisit, 3), (.closeVisit, 1), (.closeVisit, 3),
      (.declareReplaced, 3), (.declareReplaced, 13), (.commitConfig, 0)] ∨
      (k = .bookVisit ∧ 1 ≤ field body 11 1 ∧ field body 11 1 ≤ 24 ∧ body.length = 12 + field body 11 1) →
    exec c s = .next (s.answered (kindCode k) tag .notConfigured [])

/-- The lock and authority check (R6, R156): a host-direct request is refused LOCKED where a touched cabinet is locked; on
behalf of a visit, the visit's state, its scope and its level are judged, in that order. That it is refused too where it ends
the visit's own ON_REQUEST permit, of which R160 says otherwise, is the model's choice (log 50). -/
def Obligations.AuthorityIsChecked : Prop :=
  ∀ (s : State) (touched : List Nat) (level : Level),
    (s.authorise 0 touched level = if ∃ c ∈ touched, s.lockOf c ≠ none then some .locked else none) ∧
    ∀ v : Visit, v.id ≠ 0 → s.visit v.id = some v →
      s.authorise v.id touched level =
        if v.state = .booked ∨ v.state = .closing ∨ v.state = .closed then some .state
        else if ∃ c ∈ touched, c ∉ v.scope then some .locked
        else if v.level.code < level.code then some .authority
        else none

/-! ### The requests of the host link and the clock -/

/-- IDENT answers the identity of the part and changes nothing (R175); RESTART answers OK, and the wait for a warm start begins
once the reply has been sent (R188). -/
def Obligations.IdentAndRestartAnswer : Prop :=
  (∀ (tag : Byte) (s : State), s.Ready →
     exec (.ident tag []) s = .next (s.answered 0x01#8 tag .ok
       ([0x52#8, 0x41#8, 0x4C#8, 0x56#8, 0x45#8, 0x53#8, 0x54#8, 0x41#8, 0x20#8, 0x46#8, 0x53#8, 0x2D#8, 0x32#8, 0x34#8,
         0x20#8, 0x20#8] ++ [1#8, Config.configFormat, Config.ageingFormat, BitVec.ofNat 8 s.host.rateCode] ++
         [24#8, 4#8, 4#8, 128#8, 32#8, 8#8, 32#8]))) ∧
  (∀ (tag : Byte) (s : State), s.Ready →
     exec (.restart tag []) s = .next ((s.onHost fun h => { h with afterReply := .restart }).answered 0x04#8 tag .ok []))

/-- STATUS changes nothing, and its reply carries, in 83 octets after the status, the clock, the link, the notices, the
scanner, the test, the permits, the images and the locks (R176). -/
def Obligations.StatusReports : Prop :=
  ∀ (tag : Byte) (s : State), s.Ready →
    ∃ rest : List Byte, exec (.status tag []) s = .next (s.answered 0x02#8 tag .ok rest) ∧ rest.length = 83 ∧
      field rest 0 4 = s.clock.uptime % 2 ^ 32 ∧
      field rest 4 1 = (if s.clock.valid then 1 else 0) + (if s.configured then 2 else 0) +
        (if s.notices.overflow then 4 else 0) + (if s.notices.attention then 8 else 0) ∧
      field rest 5 4 = (if s.clock.valid then s.clock.floorTime else 0) ∧
      field rest 9 4 = s.clock.lastDay % 2 ^ 32 ∧ field rest 13 1 = s.startCause % 256 ∧
      field rest 14 1 = s.clc.link.code ∧ field rest 15 1 = s.notices.queue.length % 256 ∧
      rest[16]? = some s.notices.mask ∧ field rest 17 2 = s.host.framingErrors % 65536 ∧
      field rest 19 2 = s.host.dropped % 65536 ∧ field rest 21 1 = s.scs.scanner.code ∧
      field rest 22 4 = s.scs.round % 2 ^ 32 ∧ field rest 26 1 = s.scs.passCount % 256 ∧
      field rest 27 1 = s.scs.passSequence % 256 ∧ field rest 28 4 = s.scs.totalRounds % 2 ^ 32 ∧
      field rest 32 2 = s.scs.overruns % 65536 ∧ field rest 34 2 = s.scs.scanFailures % 65536 ∧
      field rest 36 1 = s.scs.active.length % 256 ∧ field rest 37 1 = s.scs.pendingList.length % 256 ∧
      field rest 38 1 = s.test.phase.code ∧ field rest 39 1 = (s.test.permit.getD 0) % 256 ∧
      field rest 40 1 = ((s.test.subject.map fun u => u.cabinet).getD 0) % 256 ∧
      field rest 41 1 = ((s.test.subject.map fun u => u.slot).getD 0) % 256 ∧
      field rest 42 1 = s.test.level % 256 ∧ field rest 43 1 = s.test.locked % 256 ∧
      field rest 44 1 = s.test.results.length % 256 ∧
      field rest 45 1 = s.test.last.outcome.code + (if s.test.last.confirmed then 128 else 0) ∧
      field rest 46 1 = s.test.last.cause.code ∧ field rest 47 4 = s.test.last.result % 2 ^ 32 ∧
      field rest 51 4 = s.test.last.charge % 2 ^ 32 ∧ field rest 55 1 = s.par.permits.length % 256 ∧
      field rest 56 1 = s.ims.configStatus.code ∧ field rest 57 1 = s.ims.ageingStatus.code ∧
      field rest 58 1 = s.ims.configSave.code + 4 * s.ims.ageingSave.code ∧
      ∀ c, 1 ≤ c → c ≤ 24 → field rest (58 + c) 1 = ((s.lockOf c).getD 0) % 256

/-- SET_NOTICE_MASK stores the mask, leaves the queue, and lets ATTNN take the state the new mask gives (R180). FETCH_NOTICES
carries the oldest notices, at most 8, which leave the queue; it reports and clears the overflow flag and re-examines ATTNN
(R174, R181). The widths of the reply's values are log 47. -/
def Obligations.NoticeMaskAndFetch : Prop :=
  (∀ (tag mask : Byte) (s : State), s.Ready →
     let enabled := s.notices.queue.filter fun x => mask.getLsbD (x.kind.code / 16 - 1)
     exec (.setNoticeMask tag [mask]) s = .next
       ((s.onNotices fun n => { n with mask := mask, attention := !enabled.isEmpty }).answered 0x05#8 tag .ok
         [mask, BitVec.ofNat 8 s.notices.queue.length, BitVec.ofNat 8 enabled.length])) ∧
  (∀ (tag wanted : Byte) (s : State), s.Ready →
     let queue := s.notices.queue
     let n := min wanted.toNat (min queue.length 8)
     exec (.fetchNotices tag [wanted]) s = .next
       ((s.onNotices fun x =>
           { queue := queue.drop n, mask := x.mask, overflow := false,
             attention := (queue.drop n).any fun y => x.mask.getLsbD (y.kind.code / 16 - 1) }).answered 0x06#8 tag
         (if n = 8 ∧ 8 < wanted.toNat ∧ 8 < queue.length then .okClamped else .ok)
         ([if s.notices.overflow then 1#8 else 0#8, BitVec.ofNat 8 n, BitVec.ofNat 8 (queue.length - n)] ++
           (queue.take n).flatMap Notice.record)))

/-- A notice raised joins the tail of the queue whatever the mask, or sets the overflow flag where 32 are held; its stamp is
the floor time, or the uptime with the uptime mark (R178, R179, R180). -/
def Obligations.NoticeJoinsTheQueue : Prop :=
  ∀ (s : State) (kind : NoticeKind) (subject : Subject) (value result : Nat), value < 2 ^ 32 →
    let notice : Notice :=
      { kind := kind,
        stamp := if s.clock.valid then { time := (s.clock.uptime + s.clock.offset) % 2 ^ 32, isUptime := false }
          else { time := s.clock.uptime, isUptime := true },
        bus := subject.bus, cabinet := subject.cabinet, slot := subject.slot, permit := subject.permit,
        visit := subject.visit, value := value, result := result }
    let due := fun (queue : List Notice) => queue.any fun y => s.notices.mask.getLsbD (y.kind.code / 16 - 1)
    (s.notices.queue.length < 32 → s.raise kind subject value result = s.onNotices fun n =>
      { n with queue := n.queue ++ [notice], attention := due (n.queue ++ [notice]) }) ∧
    (32 ≤ s.notices.queue.length → s.raise kind subject value result = s.onNotices fun n =>
      { n with overflow := true, attention := due n.queue })

/-- The first SET_TIME of a part without a saved time: the offset makes the floor time the one given, 0 taken as 1, and the day
is the first processed (R183, R184). With a saved time and the clock not valid, here on the last processed day, the gap from it
to the start, at most 366 days, is accrued for every string that has the mark, and a start before it raises CLOCK_BACKWARD (R91,
R183), also where no string has the mark (log 30). Then the starts that the new floor time reaches arrive, in booking order (log
20): each such visit is ACTIVE where it is an OBSERVE visit or its scope is unlocked as the ones before it left it, with its
locks, its deadline and VISIT_ACTIVE, and waits for locks where not (R154, R183 step 4). R183 gives the reply's values; the four
octets of the day number and the one of the was-valid value are the model's choice (log 41). Where several buses are recomputed,
that they are met in their order, A to D, is log 10. -/
def Obligations.SetTimeSetsTheFloorTime : Prop :=
  ∀ (tag a b c d : Byte) (arriving : List Visit) (s : State), s.Ready →
    let given := ((a.toNat * 256 + b.toNat) * 256 + c.toNat) * 256 + d.toNat
    let t := if given = 0 then 1 else given
    arriving.Perm (s.visits.filter fun v => v.state = .booked ∧ v.waitingLock = false ∧ v.bookedStart ≤ t) →
    arriving.Pairwise (fun v w => v.sequence < w.sequence) →
    let arrive := fun (x : State) (v : Visit) =>
      if v.level = .observe ∨ ∀ c ∈ v.scope, x.lockOf c = none then
        ((x.onVisit v.id fun w => { w with state := .active, activation := some s.now,
                                           deadline := some (s.now + 60 * w.duration), waitingLock := false }).onVct fun y =>
          { y with locks := if v.level = .observe then y.locks else Vector.ofFn fun i : Fin 24 =>
              if i.val + 1 ∈ v.scope then some v.id else y.locks[i] }).raise .visitActive { visit := v.id } v.credential 0
      else x.onVisit v.id fun w => { w with waitingLock := true }
    let answer := fun (x : State) => (arriving.foldl arrive x).answered 0x03#8 tag (if given = 0 then .okClamped else .ok)
      (octets 4 t ++ octets 4 (t / 86400) ++ octets 4 (t / 86400) ++ [if s.clock.valid then 1#8 else 0#8])
    ∃ offset, (s.clock.uptime + offset) % 2 ^ 32 = t ∧ offset < 2 ^ 32 ∧
      (s.clock.lastDay = 0 → (s.clock.valid = true ∨ s.loadedSaved = 0) → exec (.setTime tag [a, b, c, d]) s = .next
        (answer (s.onClock fun k => { k with offset := offset, valid := true, lastDay := t / 86400, backwardMark := false }))) ∧
      (s.clock.lastDay = t / 86400 → s.clock.valid = false → s.loadedSaved ≠ 0 → s.NoTransfers →
        let gap := (t : Int) - s.now - s.loadedSaved
        let timed := s.onClock fun k => { k with offset := offset, valid := true, backwardMark := false }
        let warned := if gap < 0 then timed.raise .clockBackward {} (min (-gap).toNat (2 ^ 32 - 1)) 1 else timed
        exec (.setTime tag [a, b, c, d]) s = .next (answer (warned.forStrings fun x c slot =>
          x.ageString c slot (gapWork (min gap.toNat 31622400))).met))

/-! ### The floor description -/

/-- DEFINE_FLOOR from the host: the record is stored with each field held to its range, and answered as stored; the next reminder
of each OVERDUE visit falls one new interval after its last VISIT_OVERDUE, is raised at once where that has passed, and ends with
an interval of 0 (R5, R7, R8, Table 1-1). That the last VISIT_OVERDUE is held with the visit is log 21, and that reminders due at
once are raised in the order of the slots is log 32. -/
def Obligations.DefineFloorStoresTheRecord : Prop :=
  ∀ (tag r1 r0 st th sr ct rm d1 d0 : Byte) (s : State), s.Ready →
    (∀ v ∈ s.visits, v.state = .overdue → v.lastOverdue.isSome ∧ v.deadline.isSome) →
    let rate := r1.toNat * 256 + r0.toNat
    let delay := d1.toNat * 256 + d0.toNat
    let new : FloorRec :=
      { linkRate := if rate = 100 ∨ rate = 400 then rate else if rate ≤ 250 then 100 else 400,
        stretchMs := clampTo 1 100 st.toNat, unreachableThreshold := clampTo 1 15 th.toNat,
        staleRounds := clampTo 1 15 sr.toNat, closeTimeoutMin := clampTo 1 60 ct.toNat,
        reminderMin := min rm.toNat 120,
        startScanDelay := if delay = 0xFFFF then none else some (min delay 1440) }
    let unmoved := new.linkRate = rate ∧ new.stretchMs = st.toNat ∧ new.unreachableThreshold = th.toNat ∧
      new.staleRounds = sr.toNat ∧ new.closeTimeoutMin = ct.toNat ∧ new.reminderMin = rm.toNat ∧
      (delay ≤ 1440 ∨ delay = 0xFFFF)
    let move := fun (x : State) (v : Visit) => match v.lastOverdue, v.deadline with
      | some last, some due =>
        if new.reminderMin = 0 then x.onVisit v.id fun w => { w with nextReminder := none }
        else if s.now < last + 60 * new.reminderMin then
          x.onVisit v.id fun w => { w with nextReminder := some (last + 60 * new.reminderMin) }
        else (x.onVisit v.id fun w =>
          { w with lastOverdue := some s.now, nextReminder := some (s.now + 60 * new.reminderMin) }).raise .visitOverdue
            { visit := v.id } (s.now - due) 1
      | _, _ => x
    exec (.defineFloor tag [0#8, r1, r0, st, th, sr, ct, rm, d1, d0]) s = .next
      (((s.visits.filter fun v => v.state = .overdue).foldl move (s.onFloor fun _ => new)).answered 0x10#8 tag (if unmoved then .ok else .okClamped)
        (octets 2 new.linkRate ++ octets 1 new.stretchMs ++ octets 1 new.unreachableThreshold ++
          octets 1 new.staleRounds ++ octets 1 new.closeTimeoutMin ++ octets 1 new.reminderMin ++
          octets 2 (match new.startScanDelay with
            | none => 0xFFFF
            | some d => d)))

/-- DEFINE_BUS of an undefined bus creates it with figures UNKNOWN and a NORMAL sequencer; of a defined bus it replaces the
record and recomputes the figures, and keeps all else (R5, R7, R9, Table 1-2). A recomputation stores the strict figures with
their security, the first case of R118 that applies, and keeps the mark of a round seen; then LOAD_UNCERTAIN, BUS_DEFICIT and
BUS_SECURE are raised as their condition begins to hold (R118, R119, R121, Table 7-2). A command still in hand for an earlier bus
of that name stays in hand, its outcome used for nothing (log 34). -/
def Obligations.DefineBusCreatesOrReplaces : Prop :=
  (∀ (tag rs hd au sp sy t1 t0 : Byte) (b : Bus) (s : State), s.Ready →
    let transfer := t1.toNat * 256 + t0.toNat
    let new : BusRec :=
      { reserve := min rs.toNat 3, headroom := min hd.toNat 50, minAutonomy := min au.toNat 120,
        spacing := clampTo 1 60 sp.toNat, syncTimeout := clampTo 1 30 sy.toNat, transferTimeout := clampTo 5 300 transfer }
    let unmoved := new.reserve = rs.toNat ∧ new.headroom = hd.toNat ∧ new.minAutonomy = au.toNat ∧
      new.spacing = sp.toNat ∧ new.syncTimeout = sy.toNat ∧ new.transferTimeout = transfer
    let command := Instr.defineBus tag [0#8, BitVec.ofNat 8 b.val, rs, hd, au, sp, sy, t1, t0]
    let status := if unmoved then Status.ok else Status.okClamped
    let rest := octets 1 b.val ++ octets 1 new.reserve ++ octets 1 new.headroom ++ octets 1 new.minAutonomy ++
      octets 1 new.spacing ++ octets 1 new.syncTimeout ++ octets 2 new.transferTimeout
    (s.bus b = none → exec command s = .next
      (((s.setBus b (some { defn := new, fig := BusFigures.initial new.reserve })).onSeq b fun _ =>
        Sequencer.initial).answered 0x11#8 tag status rest)) ∧
    (∀ u, s.bus b = some u → s.NoTransfers →
      exec command s = .next (((s.setBus b (some { u with defn := new })).recompute b).answered 0x11#8 tag status rest))) ∧
  (∀ (s : State) (b : Bus), (s.bus b = none → s.recompute b = s) ∧
    ∀ u, s.bus b = some u →
      let f := s.strict b u.defn
      let short := 0 < u.defn.minAutonomy ∧ f.autonomy < u.defn.minAutonomy
      let security :=
        if u.fig.roundSeen = false ∨ ∃ p ∈ s.cabinetsOf b, p.2.track.state = .unknown then Security.unknown
        else if (s.seqOf b).state ≠ .normal then .bypassed
        else if f.margin < 0 ∨ short then .deficit
        else .secure
      let subject : Subject := { bus := b.val + 1 }
      let value := f.autonomy * 65536 + (f.margin % 65536).toNat
      let stored := s.setBus b (some { u with fig :=
        { load := f.load, uncertain := decide (0 < f.uncertainCount), uncertainCount := f.uncertainCount, online := f.online,
          capacity := f.capacity, required := f.required, spare := f.spare, margin := f.margin, energy := f.energy,
          autonomy := f.autonomy, security := security, roundSeen := u.fig.roundSeen } })
      let warned := if 0 < f.uncertainCount ∧ u.fig.uncertain = false then stored.raise .loadUncertain subject f.uncertainCount 0
        else stored
      s.recompute b =
        if security = .deficit ∧ u.fig.security ≠ .deficit then
          warned.raise .busDeficit subject value ((if f.margin < 0 then 1 else 0) + if short then 2 else 0)
        else if security = .secure ∧ u.fig.security ≠ .secure then
          warned.raise .busSecure subject value u.fig.security.code
        else warned)

/-- DEFINE_CABINET of an undefined cabinet, from the host: the record is stored, its tracking is UNKNOWN, its slots are
undefined, its bus is recomputed (R5, R7, R10, R11, Table 1-3). Of a defined one: the record is replaced; slots past the new
count go with their scan entries; a new rating or count, or a slot that goes, recomputes the bus; the other clauses are of a
count below which no defined slot falls; an earlier master of the bus gives up its flag and its pending check, and the reply
names it; a new address sets the tracking back, with CABINET_STATE of source 7; a new bus takes the waiting transfer commands out
of the old one's queue and recomputes both (R10, R11, R47, R138). That the reply names the cabinet itself where it gives up its
own flag is log 28; that the two buses of a move are recomputed in their order, A to D, is log 10. -/
def Obligations.DefineCabinetCreates : Prop :=
  (∀ (tag address r1 r0 n : Byte) (master : Bool) (name : List Byte) (c : Nat) (b : Bus) (s : State), s.Ready →
     s.NoTransfers → 1 ≤ c → c ≤ 24 → 1 ≤ address.toNat → address.toNat ≤ 31 → name.length = 8 → (s.bus b).isSome →
     s.cabinet c = none → s.lockOf c = none → (∀ p ∈ s.definedCabinets, p.2.defn.address ≠ address.toNat) →
     (master = true → s.masterOf b = none) →
     let rating := r1.toNat * 256 + r0.toNat
     let new : CabinetRec :=
       { address := address.toNat, bus := b, rating := clampTo 1 2000 rating, stringCount := min n.toNat 4, master := master,
         tag := name }
     let status := if new.rating = rating ∧ new.stringCount = n.toNat then Status.ok else Status.okClamped
     exec (.defineCabinet tag
         ([0#8, BitVec.ofNat 8 c, address, BitVec.ofNat 8 b.val, r1, r0, n, if master then 1#8 else 0#8] ++ name)) s =
       .next (((s.setCabinet c (some
         { defn := new,
           track := { lastWord := none, failures := 0, unreachable := false, unreachableSince := none, lastSuccess := none,
                      overlay := none, overlayDeadline := none, orphan := false, firstReportPending := true,
                      bypassCheckPending := master },
           strings := Vector.replicate 4 none })).recompute b).answered 0x12#8 tag status
         (octets 1 c ++ [address] ++ octets 1 b.val ++ octets 2 new.rating ++ octets 1 new.stringCount ++
           [if master then 1#8 else 0#8] ++ name ++ [0#8]))) ∧
  (∀ (tag address r1 r0 n : Byte) (master : Bool) (name : List Byte) (c : Nat) (b : Bus) (k : Cabinet) (s : State), s.Ready →
     s.NoTransfers → s.test.phase = .idle → s.test.subject = none → 1 ≤ address.toNat → address.toNat ≤ 31 →
     name.length = 8 → (s.bus b).isSome → s.cabinet c = some k → s.lockOf c = none →
     (∀ p ∈ s.definedCabinets, p.1 ≠ c → p.2.defn.address ≠ address.toNat) →
     let rating := r1.toNat * 256 + r0.toNat
     let new : CabinetRec :=
       { address := address.toNat, bus := b, rating := clampTo 1 2000 rating, stringCount := min n.toNat 4, master := master,
         tag := name }
     let status := if new.rating = rating ∧ new.stringCount = n.toNat then Status.ok else Status.okClamped
     let command := Instr.defineCabinet tag
       ([0#8, BitVec.ofNat 8 c, address, BitVec.ofNat 8 b.val, r1, r0, n, if master then 1#8 else 0#8] ++ name)
     let answer := fun (t : State) (lost : Nat) => t.answered 0x12#8 tag status
       (octets 1 c ++ [address] ++ octets 1 b.val ++ octets 2 new.rating ++ octets 1 new.stringCount ++
         [if master then 1#8 else 0#8] ++ name ++ octets 1 lost)
     let keepsSlots := ∀ i : Fin 4, new.stringCount < i.val + 1 → k.strings[i] = none
     let same := new.rating = k.defn.rating ∧ new.stringCount = k.defn.stringCount ∧ keepsSlots
     let remade := fun (t : State) => if same then t else t.recompute b
     let kept : Cabinet := { k with
       defn := new,
       track := { k.track with bypassCheckPending :=
         master && (k.track.bypassCheckPending || !k.defn.master || k.defn.bus != b) } }
     let ownFlag := if master = false ∧ k.defn.master = true then c else 0
     let noOther := master = true → s.masterOf b = none ∨ s.masterOf b = some c
     (k.defn.bus = b → k.defn.address = address.toNat → noOther →
       let gone := fun (slot : Nat) => decide (new.stringCount < slot) && (k.slot slot).isSome
       let dropped := s.onScs fun x => { x with
         active := x.active.filter fun e => !(e.entry.cabinet == c && e.entry.point.slot.any gone),
         pendingList := x.pendingList.filter fun e => !(e.cabinet == c && e.point.slot.any gone) }
       exec command s = .next (answer (remade (dropped.setCabinet c (some
         { kept with strings := Vector.ofFn fun i : Fin 4 => if new.stringCount < i.val + 1 then none else k.strings[i] })))
         ownFlag)) ∧
     (∀ m j, k.defn.bus = b → k.defn.address = address.toNat → keepsSlots → master = true →
       s.masterOf b = some m → m ≠ c → s.cabinet m = some j → s.lockOf m = none →
       exec command s = .next (answer (remade ((s.setCabinet m (some { j with
         defn := { j.defn with master := false }, track := { j.track with bypassCheckPending := false } })).setCabinet c
           (some kept))) m)) ∧
     (k.defn.bus = b → k.defn.address ≠ address.toNat → keepsSlots → noOther →
       k.track.state ≠ .unknown → k.track.state ≠ .onBattery →
       exec command s = .next (answer (((s.setCabinet c (some { kept with
         track := { lastWord := none, failures := 0, unreachable := false, unreachableSince := none, lastSuccess := none,
                    overlay := k.track.overlay, overlayDeadline := k.track.overlayDeadline, orphan := false,
                    firstReportPending := true, bypassCheckPending := master } })).raise .cabinetState
           { bus := b.val + 1, cabinet := c } (k.track.state.code * 256) 7).recompute b) ownFlag)) ∧
     (∀ a : Bus, k.defn.bus = a → a ≠ b → k.defn.address = address.toNat → keepsSlots →
       master = false → k.defn.master = false →
       let moved := (s.setCabinet c (some kept)).onQueue a fun q =>
         { priority := q.priority.filter fun e => e.cabinet != c, ordinary := q.ordinary.filter fun e => e.cabinet != c,
           inHand := q.inHand.map fun h => if h.entry.cabinet = c then { h with used := false } else h,
           spacingDue := q.spacingDue }
       exec command s = .next (answer (if a < b then (moved.recompute a).recompute b else (moved.recompute b).recompute a)
         0)))

/-- DEFINE_STRING of an undefined slot, from the host, on a cabinet that is not on battery and with an alarm level below 100: a
new ageing record at full health, and the bus recomputed (R5, R12, R72, R95). The settings of the body are stored each held to
its range, with OK_CLAMPED where one moved (R7, Table 1-4). Of a defined slot it replaces the settings and keeps wear, charge,
history and state; the figures that Table 5-2 derives, the flags of R79 and R84 and the remaining days follow the new settings,
and the bus is recomputed (R12, R72). -/
def Obligations.DefineStringCreates : Prop :=
  (∀ (tag : Byte) (settings : List Byte) (mode : CombineMode) (c slot : Nat) (k : Cabinet) (s : State), s.Ready →
     s.NoTransfers → s.test.phase = .idle → s.cabinet c = some k → 1 ≤ slot → slot ≤ 4 → slot ≤ k.defn.stringCount →
     k.slot slot = none → s.lockOf c = none → k.track.state ≠ .onBattery → settings.length = 24 →
     field settings 23 1 < 100 →
     let body := [0#8, BitVec.ofNat 8 c, BitVec.ofNat 8 slot] ++ settings ++ octets 1 mode.code
     let new := stringOperand body mode
     exec (.defineString tag body) s =
       .next (((s.setCabinet c (some (k.setSlot slot (some
         { defn := new.1,
           age := { AgeRec.fresh s.now false with wearHealth := 100, impHealth := 100, health := 100,
                                                  energy := new.1.energy } })))).recompute k.defn.bus).answered
         0x13#8 tag (if new.2 then .okClamped else .ok) (octets 1 c ++ octets 1 slot ++ new.1.octets))) ∧
  (∀ (body : List Byte) (mode : CombineMode),
     let given := [field body 3 2, field body 5 4, field body 9 2, field body 11 2, field body 13 4, field body 17 2,
       field body 19 1, field body 20 1, field body 21 2, field body 23 1, field body 24 2, field body 26 1]
     let new := stringOperand body mode
     let stored := [new.1.capacity, new.1.energy, new.1.designLife, new.1.cycles, new.1.shunt, new.1.minSignal,
       new.1.stepTime, new.1.settleTime, new.1.floatThreshold, new.1.holdHours, new.1.serviceLead, new.1.alarmLevel]
     let limits : List (Nat × Nat) := [(1, 5000), (100, 2000000), (365, 7300), (10, 5000), (100, 100000), (500, 50000),
       (1, 10), (0, 10), (1, 1000), (1, 72), (0, 365), (0, 100)]
     stored = List.zipWith (fun v l => max l.1 (min v l.2)) given limits ∧
     (new.2 = true ↔ stored ≠ given) ∧ new.1.combine = mode) ∧
  (∀ (tag : Byte) (settings : List Byte) (mode : CombineMode) (c slot : Nat) (k : Cabinet) (u : StringUnit) (w : BusUnit)
     (s : State), s.Ready → s.NoTransfers → s.test.phase = .idle → s.cabinet c = some k → slot ≤ k.defn.stringCount →
     k.slot slot = some u → s.lockOf c = none → s.bus k.defn.bus = some w → settings.length = 24 →
     let body := [0#8, BitVec.ofNat 8 c, BitVec.ofNat 8 slot] ++ settings ++ octets 1 mode.code
     let new := stringOperand body mode
     let d := new.1
     let cycle := cycleWearOf d u.age.cycleCharge
     let total := min (u.age.calendarWear + cycle) (2 ^ 40 - 1)
     let wear := wearHealthOf d total
     let imp := impHealthOf u.age.baseline u.age.lastImpedance
     let days := remainingDaysOf d total u.age.window
     let after := k.setSlot slot (some
       { defn := d,
         age := { u.age with cycleWear := cycle, totalWear := total, wearHealth := wear, impHealth := imp,
                             health := min wear imp, energy := energyOf d (min wear imp) u.age.state,
                             impFlagged := decide (imp ≤ d.alarmLevel), remainingDays := days,
                             dueFlagged := decide (days ≤ d.serviceLead) } })
     ∃ t, exec (.defineString tag body) s = .next t ∧ t.cabinets = (s.setCabinet c (some after)).cabinets ∧
       (let f := t.strict k.defn.bus w.defn
        t.bus k.defn.bus = some { w with fig := w.fig.update f (t.securityOf k.defn.bus w.defn f) }) ∧
       t.scs = s.scs ∧ t.clc = s.clc ∧ t.par = s.par ∧ t.vct = s.vct ∧ t.test = s.test ∧ t.clock = s.clock ∧
       t.ims = s.ims ∧ t.outer = ((s.setCabinet c (some after)).answered 0x13#8 tag
         (if new.2 then .okClamped else .ok) (octets 1 c ++ octets 1 slot ++ d.octets)).outer)

/-- UNDEFINE from the host (R5). Of a string: its scan entries and its records go (R13). Of a cabinet: its scan entries, its
records and its waiting transfer commands go, its requests at the link are no longer credited to it (R14); either way its bus is
recomputed. Of a bus without cabinets: the bus and its waiting transfer commands are gone (R15); while another bus stays defined
nothing else changes, and with the last bus the scanner stops and the part is UNCONFIGURED (R16). That a command in hand of the
bus stays in hand is log 34, and that its spacing timer stops is log 49. -/
def Obligations.UndefineRemovesStringCabinetAndBus : Prop :=
  (∀ (tag : Byte) (c slot : Nat) (k : Cabinet) (s : State), s.Ready → s.NoTransfers → s.test.phase = .idle →
     s.cabinet c = some k → (k.slot slot).isSome → s.lockOf c = none →
     exec (.undefineString tag 0#8 [BitVec.ofNat 8 c, BitVec.ofNat 8 slot]) s =
       .next ((((s.onScs fun x =>
         { x with active := x.active.filter fun e => !(e.entry.cabinet == c && e.entry.point.slot == some slot),
                  pendingList := x.pendingList.filter fun e => !(e.cabinet == c && e.point.slot == some slot) }).setCabinet c
           (some (k.setSlot slot none))).recompute k.defn.bus).answered 0x14#8 tag .ok [])) ∧
  (∀ (tag unused : Byte) (c : Nat) (k : Cabinet) (s : State), s.Ready → s.NoTransfers → s.test.phase = .idle →
     s.cabinet c = some k → s.lockOf c = none → (∀ v ∈ s.visits, v.state ≠ .closed → c ∉ v.scope) →
     exec (.undefineCabinet tag 0#8 [BitVec.ofNat 8 c, unused]) s =
       .next ((((((s.onScs fun x =>
           { x with active := x.active.filter fun e => e.entry.cabinet != c,
                    pendingList := x.pendingList.filter fun e => e.cabinet != c }).onClc fun l => l.discredit c).onQueue
         k.defn.bus fun q =>
           { priority := q.priority.filter fun e => e.cabinet != c, ordinary := q.ordinary.filter fun e => e.cabinet != c,
             inHand := q.inHand.map fun h => if h.entry.cabinet = c then { h with used := false } else h,
             spacingDue := q.spacingDue }).setCabinet c none).recompute k.defn.bus).answered 0x14#8 tag .ok [])) ∧
  (∀ (tag unused : Byte) (b : Bus) (s : State), s.Ready → (s.bus b).isSome →
     (∀ p ∈ s.definedCabinets, p.2.defn.bus ≠ b) → (∀ p ∈ s.par.permits, p.kind = .busBypass → p.bus ≠ b) →
     (s.seqOf b).state = .normal →
     let command := Instr.undefineBus tag 0#8 [BitVec.ofNat 8 b.val, unused]
     let gone := (s.setBus b none).onQueue b fun q =>
       { priority := [], ordinary := [], inHand := q.inHand.map fun h => { h with used := false }, spacingDue := none }
     ((∃ other : Bus, other ≠ b ∧ (s.bus other).isSome) → exec command s = .next (gone.answered 0x14#8 tag .ok [])) ∧
     ((∀ other : Bus, other ≠ b → s.bus other = none) → s.definedCabinets = [] →
       ∃ scs clc, exec command s = .next ({ gone with scs := scs, clc := clc }.answered 0x14#8 tag .ok []) ∧
         scs.scanner = .stopped ∧ scs.pendingList = s.scs.pendingList ∧ scs.pendingTiming = s.scs.pendingTiming ∧
         scs.round = s.scs.round ∧ scs.totalRounds = s.scs.totalRounds ∧ scs.overruns = s.scs.overruns ∧
         clc.link = s.clc.link ∧ clc.slots = s.clc.slots ∧ clc.testSlot = s.clc.testSlot ∧
         (s.scs.scanner = .running → scs.active = carryOver s.scs.active s.scs.pendingList ∧ clc.scanQueue = []) ∧
         (s.scs.scanner ≠ .running → scs.active = s.scs.active ∧ clc = s.clc) ∧ gone.configured = false))

/-- COMMIT_CONFIG with both images idle takes both snapshots at once: the records with the pending list, and, once every string
is accrued, every string's ageing record; both images are then SAVING. While both are being written, the requests are coalesced
into one further save each (R185, R186, R187; the length of an image written is a free value, log 6; that the saved time which an
unset clock gives is taken modulo 2^32 is the model's choice, log 26). The widths of the reply's values are log 47. Where several buses are recomputed, that they are met in their order, A to D, is log 10. -/
def Obligations.CommitTakesOrCoalescesBothSaves : Prop :=
  ∀ (tag : Byte) (s : State), s.Ready → s.configured = true →
    (s.ims.configSave = .idle → s.ims.ageingSave = .idle → s.NoTransfers →
      exec (.commitConfig tag []) s =
        .next ((((s.accrueAll.onIms fun i => { i with
            configSave := .saving
              { header := { length := .written s.freeCount, format := .current, savedTime := 0, crcMatches := true },
                body :=
                  { floor := s.floor.image, buses := s.buses.map fun o => o.map fun u => u.defn.image,
                    cabinets := s.cabinets.map fun o => o.map Cabinet.image, list := s.scs.pendingList,
                    timing := s.scs.pendingTiming } } false,
            ageingSave := .saving
              { header := { length := .written (s.freeCount + 1), format := .current, savedTime := s.savedTime,
                            crcMatches := true },
                body := s.accrueAll.ageingBody } false }).onFreeCount (· + 2)).met).answered 0x15#8 tag .accepted [1#8, 1#8])) ∧
    (∀ x y m n, s.ims.configSave = .saving x m → s.ims.ageingSave = .saving y n →
      exec (.commitConfig tag []) s = .next
        ((s.onIms fun i => { i with configSave := .saving x true, ageingSave := .saving y true }).answered 0x15#8 tag
          .accepted [2#8, 2#8]))

/-- SEED_AGEING of a string marked AGEING_LOST: wear, charge and baseline are the ones given, the baseline held to its range, and
the mark is cleared; the bus is recomputed: it stores the strict figures as the seed leaves them, with their security (R94,
R121). -/
def Obligations.SeedSetsWearChargeAndBaseline : Prop :=
  ∀ (tag : Byte) (given : List Byte) (c slot : Nat) (k : Cabinet) (u : StringUnit) (s : State),
    s.Ready → s.NoTransfers → s.cabinet c = some k → k.slot slot = some u → s.lockOf c = none → u.age.ageingLost = true →
    given.length = 15 →
    let baseline := min (field given 11 4) 99999999
    ∃ t v, exec (.seedAgeing tag ([BitVec.ofNat 8 c, BitVec.ofNat 8 slot] ++ given)) s = .next t ∧
      t.string c slot = some v ∧ v.defn = u.defn ∧ v.age.calendarWear = field given 0 5 ∧
      v.age.cycleCharge = field given 5 6 ∧ v.age.baseline = baseline ∧
      v.age.baselinePending = (baseline == 0) ∧ v.age.lastAccrual = s.now ∧ v.age.ageingLost = false ∧
      v.age.gapPending = false ∧ v.age.boundaryWear = v.age.totalWear ∧ v.age.history = u.age.history ∧
      v.age.window = u.age.window ∧ v.age.state = u.age.state ∧
      t.ims.ageingSave ≠ .idle ∧ t.scs = s.scs ∧ t.clc = s.clc ∧ t.par = s.par ∧ t.vct = s.vct ∧
      t.test = s.test ∧ t.clock = s.clock ∧ t.outer = (s.answered 0x16#8 tag
        (if baseline = field given 11 4 then .ok else .okClamped)
        ([BitVec.ofNat 8 c, BitVec.ofNat 8 slot] ++ given.take 11 ++ octets 4 baseline)).outer ∧
      ∀ w, s.bus k.defn.bus = some w →
        let f := t.strict k.defn.bus w.defn
        t.bus k.defn.bus = some { w with fig := w.fig.update f (t.securityOf k.defn.bus w.defn f) }

/-! ### The scanner's requests and the reads -/

/-- SCAN_EDIT inserts, removes and replaces an entry of the pending list, SCAN_TIMING stores the period and the averaging count,
each held to its range; while the scanner is not RUNNING the active copy changes with it, and the readings of other entries stay
(R53, R54, R55). The widths of the reply's values are log 47. -/
def Obligations.ScanEditAndTimingChangeTheLists : Prop :=
  (∀ (tag position skip x1 x2 x3 x4 : Byte) (c : Nat) (p : Point) (mode : CombineMode) (s : State), s.Ready →
     s.configured = true →
     let list := s.scs.pendingList
     let n := position.toNat
     let running := s.scs.scanner = .running
     let e : ScanEntry := { cabinet := c, point := p, skip := min skip.toNat 15, combine := mode }
     let names := (s.cabinet c).isSome ∧ ∀ slot, p.slot = some slot → (s.string c slot).isSome
     let body := [position, BitVec.ofNat 8 c, BitVec.ofNat 8 p.code, skip] ++ octets 1 mode.code
     let status := if skip.toNat ≤ 15 then Status.ok else Status.okClamped
     let copy := if running then 1#8 else 0#8
     let entryOctets := fun (e : ScanEntry) => octets 1 e.cabinet ++ octets 1 e.point.code ++ octets 1 e.skip ++ octets 1 e.combine.code
     let other := fun (f : ScanEntry) => ¬(f.cabinet = c ∧ f.point = p)
     (names → n ≤ list.length → list.length < 128 → (∀ f ∈ list, other f) →
       exec (.scanEditInsert tag body) s = .next ((s.onScs fun x =>
         { x with pendingList := list.take n ++ e :: list.drop n,
                  active := if running then x.active else
                    x.active.take n ++ { entry := e, reading := .initial, samples := .initial } :: x.active.drop n }).answered
         0x20#8 tag status ([copy] ++ octets 1 (list.length + 1) ++ entryOctets e))) ∧
     (∀ h : n < list.length,
       exec (.scanEditRemove tag [position, x1, x2, x3, x4]) s = .next ((s.onScs fun x =>
         { x with pendingList := list.eraseIdx n,
                  active := if running then x.active else x.active.eraseIdx n }).answered
         0x20#8 tag .ok ([copy] ++ octets 1 (list.length - 1) ++ entryOctets list[n]))) ∧
     (names → n < list.length → (∀ f ∈ list.eraseIdx n, other f) →
       exec (.scanEditReplace tag body) s = .next ((s.onScs fun x =>
         { x with pendingList := list.set n e,
                  active := if running then x.active else x.active.modify n fun a =>
                    if a.entry.cabinet = c ∧ a.entry.point = p then { a with entry := e }
                    else { entry := e, reading := .initial, samples := .initial } }).answered
         0x20#8 tag status ([copy] ++ octets 1 list.length ++ entryOctets e)))) ∧
  (∀ (tag p1 p0 a : Byte) (s : State), s.Ready → s.configured = true →
     let period := p1.toNat * 256 + p0.toNat
     let new : ScanTiming := { period := clampTo 1 3600 period, average := clampTo 1 16 a.toNat }
     let running := s.scs.scanner = .running
     exec (.scanTiming tag [p1, p0, a]) s = .next ((s.onScs fun x =>
       { x with pendingTiming := new, timing := if running then x.timing else new }).answered 0x21#8 tag
       (if new.period = period ∧ new.average = a.toNat then .ok else .okClamped)
       ([if running then 1#8 else 0#8] ++ octets 2 new.period ++ octets 1 new.average)))

/-- SCAN_START of a STOPPED scanner: with a delay it is DELAYED, at most 1440 minutes; at once it is RUNNING, SCAN_RUNNING is
raised, and the first pass hands FREEZE and a POLL for every entry to the link, here busy (R57, R58, R61). SCAN_STOP of a RUNNING
scanner: STOPPED, the pending copy applied with the readings carried over by pair, no request of the scanner left to count, every
string accrued; of a DELAYED one: STOPPED, every string accrued (R56, R59). The widths of the reply's values are log 47. Where
several buses are recomputed, that they are met in their order, A to D, is log 10. -/
def Obligations.ScanStartAndStop : Prop :=
  (∀ (tag d1 d0 : Byte) (s : State), s.Ready → s.configured = true → s.scs.scanner = .stopped →
     let delay := d1.toNat * 256 + d0.toNat
     let sequence := (s.scs.passSequence + 1) % 256
     (1 ≤ delay →
       exec (.scanStart tag [d1, d0]) s = .next ((s.onScs fun x =>
         { x with startCause := 1, scanner := .delayed, delayDue := some (s.now + 60 * min delay 1440) }).answered 0x22#8 tag
         (if delay ≤ 1440 then .ok else .okClamped) (octets 2 (min delay 1440)))) ∧
     (delay = 0 → (s.clc.link = .own ∨ s.clc.link = .alertIn ∨ s.clc.link = .recovery) →
       exec (.scanStart tag [d1, d0]) s = .next ((((s.onScs fun x =>
           { x with startCause := 1, scanner := .running, delayDue := none, round := 0, passCount := 0, overrunSeen := false,
                    lastTick := some s.now, nextTick := some (s.now + x.timing.period), passSequence := sequence,
                    outstanding := x.active.length + 1 }).raise .scanRunning {} s.scs.active.length 1).onClc fun l =>
           { l with scanQueue := l.scanQueue ++
               { requester := .scan, cls := .freeze sequence, cabinet := 0, attempts := 0, begun := false, address := 0, credited := false,
                 counted := true } :: s.scs.active.map fun e =>
                 { requester := .scan, cls := .poll e.entry.point, cabinet := e.entry.cabinet, attempts := 0, begun := false,
                   address := ((s.cabinet e.entry.cabinet).map fun k => k.defn.address).getD 0,
                   credited := (s.cabinet e.entry.cabinet).isSome, counted := true } }).answered 0x22#8 tag .ok [0#8, 0#8]))) ∧
  (∀ (tag : Byte) (s : State), s.Ready → s.configured = true → s.NoTransfers →
     let old := fun (e : ScanEntry) => (s.scs.active.find? fun a => a.entry.cabinet == e.cabinet && a.entry.point == e.point).map
       fun a => a.reading
     (s.scs.scanner = .running → exec (.scanStop tag []) s =
       .next (((((s.onScs fun x =>
         { x with scanner := .stopped, passCount := 0, outstanding := 0, lastTick := none, nextTick := none,
                  timing := x.pendingTiming,
                  active := x.pendingList.map fun e =>
                    { entry := e, reading := (old e).getD .initial, samples := .initial } }).onClc fun l =>
         { l with scanQueue := [],
                  inFlight := l.inFlight.map fun f =>
                    if f.request.requester = .scan then { f with request := { f.request with counted := false } } else f }).accrueAll).met).answered
         0x23#8 tag .ok [2#8])) ∧
     (s.scs.scanner = .delayed → exec (.scanStop tag []) s =
       .next (((s.onScs fun x => { x with scanner := .stopped, delayDue := none }).accrueAll.met).answered 0x23#8 tag .ok
         [1#8])) ∧
     (s.scs.scanner = .stopped → exec (.scanStop tag []) s = .next (s.answered 0x23#8 tag .ok [0#8])))

/-- The reads answer whole records from the first index on: as many as are wanted, are there, and fit, with OK_CLAMPED where
fitting alone decided; but for READ_VISIT they change nothing (R51, R69, R96, R97, R126, R148, R165, R174); a CLOSED record is
marked to leave as the reply ends (log 25). That a first index at the last record carries that record, of which R174 also says
that no record is carried, is the model's choice (log 52), and so are the records of what is not defined, of which R16 says that
the reads return none (log 53). The widths of the part and the count of READ_HISTORY are log 47. -/
def Obligations.ReadsAnswerWholeRecords : Prop :=
  ∀ (tag wanted : Byte) (s : State), s.Ready →
    let count := fun (there fit : Nat) => min wanted.toNat (min there fit)
    let status := fun (there fit : Nat) => if fit < there ∧ fit < wanted.toNat then Status.okClamped else Status.ok
    (∀ b : Bus, exec (.readBus tag [BitVec.ofNat 8 b.val, wanted]) s = .next (s.answered 0x28#8 tag .ok
      (octets 1 (count (4 - b) 4) ++ ((List.finRange 4).drop b |>.take (count (4 - b) 4)).flatMap s.busRecord))) ∧
    (∀ c, 1 ≤ c → c ≤ 24 → exec (.readCabinets tag [BitVec.ofNat 8 c, wanted]) s = .next (s.answered 0x29#8 tag
      (status (25 - c) 4)
      (octets 1 (count (25 - c) 4) ++ (List.range (count (25 - c) 4)).flatMap fun i => s.cabinetRecord (c + i)))) ∧
    (∀ c slot, 1 ≤ c → c ≤ 24 → 1 ≤ slot → slot ≤ 4 →
      let first := (c - 1) * 4 + (slot - 1)
      exec (.readStrings tag [BitVec.ofNat 8 c, BitVec.ofNat 8 slot, wanted]) s = .next (s.answered 0x2A#8 tag
        (status (96 - first) 2) (octets 1 (count (96 - first) 2) ++ (List.range (count (96 - first) 2)).flatMap fun i =>
          s.stringRecord ((first + i) / 4 + 1, (first + i) % 4 + 1)))) ∧
    (∀ first, first ≤ 127 →
      let there := s.scs.active.length - first
      exec (.readReadings tag [0#8, BitVec.ofNat 8 first, wanted]) s = .next (s.answered 0x2B#8 tag (status there 7)
        (octets 1 (count there 7) ++ (((s.scs.active.drop first).take (count there 7)).zipIdx first).flatMap fun x =>
          x.1.entry.lead x.2 ++ x.1.reading.octets))) ∧
    (∀ first, first ≤ 127 →
      let there := s.scs.pendingList.length - first
      exec (.readReadings tag [1#8, BitVec.ofNat 8 first, wanted]) s = .next (s.answered 0x2B#8 tag (status there 7)
        (octets 1 (count there 7) ++ (((s.scs.pendingList.drop first).take (count there 7)).zipIdx first).flatMap fun x =>
          x.1.lead x.2 ++ List.replicate 11 0#8))) ∧
    (∀ first, 1 ≤ first → first ≤ 255 →
      let live := (s.par.permits.filter fun p => first ≤ p.id).insertionSort fun p q => p.id ≤ q.id
      exec (.readPermits tag [BitVec.ofNat 8 first, wanted]) s = .next (s.answered 0x2C#8 tag (status live.length 4)
        ((List.finRange 4).flatMap (fun b => octets 1 ((s.seqOf b).state.code + if (s.seqOf b).orphan then 8 else 0)) ++
          octets 1 (count live.length 4) ++ (live.take (count live.length 4)).flatMap s.permitRecord))) ∧
    (∀ slot, slot ≤ 7 →
      let n := count (8 - slot) 1
      let after := match s.visitIn slot with
        | some v => if v.state = VisitState.closed ∧ n = 1 then s.onHost fun h => { h with afterReply := .dropVisit slot v.id } else s
        | none => s
      exec (.readVisit tag [BitVec.ofNat 8 slot, wanted]) s = .next (after.answered 0x2D#8 tag (status (8 - slot) 1)
        (octets 1 n ++ if n = 1 then s.visitRecord slot else []))) ∧
    (∀ c slot u first, s.string c slot = some u → first ≤ 7 →
      let days := u.age.window.length - first
      let records := u.age.history.length - first
      exec (.readHistory tag [BitVec.ofNat 8 c, BitVec.ofNat 8 slot, 0#8, BitVec.ofNat 8 first, wanted]) s = .next
        (s.answered 0x2E#8 tag (status days 8) ([0#8] ++ octets 1 (count days 8) ++
          (((u.age.window.drop first).take (count days 8)).zipIdx first).flatMap fun x => octets 1 x.2 ++ octets 5 x.1)) ∧
      exec (.readHistory tag [BitVec.ofNat 8 c, BitVec.ofNat 8 slot, 1#8, BitVec.ofNat 8 first, wanted]) s = .next
        (s.answered 0x2E#8 tag (status records 7) ([1#8] ++ octets 1 (count records 7) ++
          (((u.age.history.drop first).take (count records 7)).zipIdx first).flatMap fun x => x.1.record s.now x.2)))

/-- The records of the reads have the lengths of their tables with every field in its place: READ_BUS (Table 7-4), READ_CABINETS
(3-4), READ_STRINGS (5-5), READ_READINGS (4-2), READ_HISTORY (5-6), READ_PERMITS (8-11) and READ_VISIT (9-7), a record that is
not defined all zeros after its index; and so a notice record (10-8). The codes are those of the tables. A figure too wide for its
octets is taken modulo their range (log 26), as the seconds to a visit's deadline are (log 46), a wait deadline whose expiry is
overdue shows 0 seconds (log 3), and bit 7 of the last state word reads 0, since it is not kept (log 24). -/
def Obligations.RecordsHaveTheirLengths : Prop :=
  ([Security.unknown, .secure, .deficit, .bypassed].map Security.code = [0, 1, 2, 3] ∧
   [Tracked.unknown, .online, .onBattery, .staticBypass, .standby, .isolated, .fault, .withdrawing, .returning,
     .unreachable].map Tracked.code = [0, 1, 2, 3, 4, 5, 6, 7, 8, 9] ∧
   [Mode.online, .onBattery, .staticBypass, .standby, .isolated, .fault].map Mode.bits = [0, 1, 2, 3, 4, 5] ∧
   [StringState.float, .discharging, .testing, .recharging].map StringState.code = [0, 1, 2, 3] ∧
   [Policy.onRequest, .whenDone, .yield, .hold].map Policy.code = [0, 1, 2, 3] ∧
   [PermitState.waiting, .granted, .returning, .returnBlocked].map PermitState.code = [0, 1, 2, 3]) ∧
  (∀ s : State,
     let flag := fun (value : Nat) (set : Bool) => if set then value else 0
     let orAll := fun (seconds : Option Nat) => match seconds with
       | none => 0xFFFFFFFF
       | some n => n % 2 ^ 32
     (∀ b : Bus, s.bus b = none → s.busRecord b = BitVec.ofNat 8 b.val :: List.replicate 28 0#8) ∧
     (∀ (b : Bus) (u : BusUnit), s.bus b = some u →
       let l := s.busRecord b
       let f := u.fig
       l.length = 29 ∧ field l 0 1 = b.val ∧ field l 1 1 = 1 ∧ field l 2 1 = f.security.code ∧
         field l 3 1 = flag 1 f.uncertain + flag 2 f.roundSeen + flag 4 ((s.seqOf b).state != .normal) ∧
         field l 4 4 = min f.load 0xFFFFFFFF ∧ field l 8 1 = f.uncertainCount % 256 ∧ field l 9 1 = f.online % 256 ∧
         field l 10 4 = f.capacity % 2 ^ 32 ∧ field l 14 4 = min f.required 0xFFFFFFFF ∧
         field l 18 1 = (f.spare % 256).toNat ∧ field l 19 1 = (f.margin % 256).toNat ∧
         field l 20 4 = f.energy % 2 ^ 32 ∧ field l 24 2 = f.autonomy % 65536 ∧ field l 26 1 = u.defn.reserve % 256 ∧
         field l 27 1 = u.defn.headroom % 256 ∧ field l 28 1 = u.defn.minAutonomy % 256) ∧
     (∀ c, s.cabinet c = none → s.cabinetRecord c = BitVec.ofNat 8 c :: List.replicate 23 0#8) ∧
     (∀ c (k : Cabinet), c < 256 → s.cabinet c = some k → k.defn.tag.length = 8 →
       let l := s.cabinetRecord c
       l.length = 24 ∧ field l 0 1 = c ∧ field l 1 1 = 1 ∧ field l 2 1 = k.defn.address % 256 ∧
         field l 3 1 = k.defn.bus.val ∧ field l 4 2 = k.defn.rating % 65536 ∧ field l 6 1 = k.defn.stringCount % 256 ∧
         field l 7 1 = flag 1 k.defn.master ∧ (l.drop 8).take 8 = k.defn.tag ∧ field l 16 1 = k.track.state.code ∧
         field l 17 1 = (match k.track.lastWord with
           | none => 255
           | some w => w.mode.bits + flag 8 w.syncOk + flag 16 w.bypassSourceOk + flag 32 w.bypassClosed +
               flag 64 w.testActive) ∧
         field l 18 1 = k.track.failures % 256 ∧
         field l 19 1 = flag 1 k.track.orphan + (match k.track.overlay with
           | none => 0
           | some .withdrawing => 2
           | some .returning => 4) + flag 8 k.track.unreachable + flag 16 k.track.firstReportPending +
             flag 32 k.track.bypassCheckPending ∧
         field l 20 4 = orAll (k.track.lastSuccess.map fun t => s.now - t)) ∧
     (∀ c slot, s.string c slot = none →
       s.stringRecord (c, slot) = BitVec.ofNat 8 c :: BitVec.ofNat 8 slot :: List.replicate 42 0#8) ∧
     (∀ c slot u, c < 256 → slot < 256 → s.string c slot = some u →
       let l := s.stringRecord (c, slot)
       let a := u.age
       l.length = 44 ∧ field l 0 1 = c ∧ field l 1 1 = slot ∧ field l 2 1 = 1 + 2 * a.state.code ∧
         field l 3 1 = flag 1 a.ageingLost + flag 2 a.tempUnknown + flag 4 a.baselinePending + flag 8 a.dueFlagged +
           flag 16 a.impFlagged + flag 32 a.gapPending + flag 64 a.counterBase.isSome +
           flag 128 (a.lastTest.any fun x => x.isUptime) ∧
         field l 4 1 = a.health % 256 ∧ field l 5 1 = a.wearHealth % 256 ∧ field l 6 1 = a.impHealth % 256 ∧
         field l 7 5 = a.calendarWear % 2 ^ 40 ∧ field l 12 5 = a.cycleWear % 2 ^ 40 ∧
         field l 17 6 = a.cycleCharge % 2 ^ 48 ∧ field l 23 4 = a.baseline % 2 ^ 32 ∧
         field l 27 4 = a.lastImpedance % 2 ^ 32 ∧ field l 31 4 = a.energy % 2 ^ 32 ∧
         field l 35 2 = a.remainingDays % 65536 ∧ field l 37 1 = (a.lastTemperature.getD 255) % 256 ∧
         field l 38 4 = (match a.lastTest with
           | none => 0
           | some x => x.time % 2 ^ 32) ∧
         field l 42 1 = a.window.length % 256 ∧ field l 43 1 = a.history.length % 256) ∧
     (∀ e : ActiveEntry, ∀ position,
       let l := e.entry.lead position ++ e.reading.octets
       l.length = 16 ∧ field l 0 1 = position % 256 ∧ field l 1 1 = e.entry.cabinet % 256 ∧
         field l 2 1 = e.entry.point.code % 256 ∧ field l 3 1 = e.entry.skip % 256 ∧
         field l 4 1 = e.entry.combine.code ∧ field l 5 4 = (e.reading.value % 2 ^ 32).toNat ∧
         field l 9 4 = e.reading.round % 2 ^ 32 ∧ field l 13 1 = e.reading.quality.code ∧
         field l 14 1 = e.reading.held % 256 ∧ field l 15 1 = e.reading.lastOutcome.code) ∧
     (∀ p : Permit,
       let l := s.permitRecord p
       let waiting := (s.par.permits.filter fun q => q.bus = p.bus ∧ q.state = .waiting).map fun q => q.id
       let queue := s.queueOf p.bus
       l.length = 24 ∧ field l 0 1 = p.id % 256 ∧
         field l 1 1 = (match p.kind with
           | .withdraw => 0
           | .busBypass => 1
           | .stringTest _ _ => 2) ∧
         field l 2 1 = p.bus.val ∧ field l 3 1 = (p.cabinet.getD 0) % 256 ∧
         field l 4 1 = (match p.kind with
           | .stringTest slot _ => slot % 256
           | _ => 0) ∧
         field l 5 1 = (match p.kind with
           | .stringTest _ steps => steps % 256
           | _ => 0) ∧
         field l 6 1 = p.holder % 256 ∧
         field l 7 1 = (match p.policy with
           | none => 255
           | some y => y.code) ∧
         field l 8 1 = p.state.code ∧
         field l 9 1 = flag 1 p.returnOrdered + flag 2 p.yielded + flag 4 p.adopted + flag 8 p.sent +
           flag 16 ((queue.priority ++ queue.ordinary).any (fun e => e.permit = some p.id) ||
             queue.inHand.any fun h => h.used && h.entry.permit = some p.id) ∧
         field l 10 1 = (if p.id ∈ waiting then waiting.idxOf p.id % 256 else 255) ∧ field l 11 1 = 0 ∧
         field l 12 4 = (s.now - p.requestUptime) % 2 ^ 32 ∧
         field l 16 4 = orAll (p.grantUptime.map fun t => s.now - t) ∧
         field l 20 4 = orAll (p.deadline.map fun due => due - s.now)) ∧
     (∀ slot, s.visitIn slot = none → slot < 256 → (s.visitRecord slot).length = 71 ∧
       s.visitRecord slot = BitVec.ofNat 8 slot :: List.replicate 70 0#8) ∧
     (∀ slot v, s.visitIn slot = some v → v.scope.length ≤ 24 → v.replaced.length ≤ 8 →
       let l := s.visitRecord slot
       l.length = 71 ∧ field l 0 1 = slot ∧ field l 1 1 = v.id % 256 ∧ field l 2 1 = v.state.code ∧
         field l 3 1 = v.level.code ∧
         field l 4 1 = (if v.waitingLock then 1 else 0) + (if v.expected.isSome then 2 else 0) +
           (if v.report.mismatch then 4 else 0) + (if v.report.overdue then 8 else 0) +
           (match v.report.result with
             | none => 0
             | some .clean => 16
             | some .incomplete => 32) ∧
         field l 5 4 = v.credential % 2 ^ 32 ∧ field l 9 4 = v.bookedStart % 2 ^ 32 ∧ field l 13 2 = v.duration % 65536 ∧
         field l 15 4 = (match v.activation with
           | none => 0xFFFFFFFF
           | some a => (s.now - a) % 2 ^ 32) ∧
         field l 19 4 = (match v.state, v.deadline with
           | .active, some d => (((d : Int) - s.now) % 2 ^ 32).toNat
           | .overdue, some d => (((d : Int) - s.now) % 2 ^ 32).toNat
           | _, _ => 0) ∧
         field l 23 2 = v.actions % 65536 ∧ field l 25 2 = (v.expected.getD 0) % 65536 ∧
         field l 27 1 = v.report.ended % 256 ∧ field l 28 1 = v.report.rehomed % 256 ∧
         field l 29 1 = v.scope.length ∧ (∀ i, i < 24 → field l (30 + i) 1 = (v.scope.getD i 0) % 256) ∧
         field l 54 1 = v.replaced.length ∧ ∀ i, i < 8 → field l (55 + 2 * i) 1 = (v.replaced.getD i (0, 0)).1 % 256 ∧
           field l (56 + 2 * i) 1 = (v.replaced.getD i (0, 0)).2 % 256) ∧
     (∀ (r : DischargeRec) (now index : Nat),
       let l := r.record now index
       l.length = 16 ∧ field l 0 1 = index % 256 ∧
         field l 1 1 = r.kind.code + (if r.isOpen then 4 else 0) + (if r.awaitingClose then 8 else 0) +
           (if r.cutByStart then 16 else 0) + (if r.startIsUptime then 32 else 0) ∧
         field l 2 4 = r.start % 2 ^ 32 ∧ field l 6 4 = (if r.isOpen then now - r.openedAt else r.duration) % 2 ^ 32 ∧
         field l 10 4 = r.charge % 2 ^ 32 ∧ field l 14 2 = (r.minVoltage.getD 0xFFFF) % 65536)) ∧
  (∀ n : Notice, n.record.length = 14 ∧ field n.record 0 1 = n.kind.code ∧ field n.record 1 4 = n.stamp.time % 2 ^ 32 ∧
     (n.bus ≤ 4 → n.slot ≤ 4 →
       field n.record 5 1 = (if n.stamp.isUptime then 128 else 0) + 16 * n.bus + n.slot) ∧
     field n.record 6 1 = n.cabinet % 256 ∧ field n.record 7 1 = n.permit % 256 ∧ field n.record 8 1 = n.visit % 256 ∧
     field n.record 9 4 = n.value % 2 ^ 32 ∧ field n.record 13 1 = n.result % 256)

/-! ### Permits and tests on request -/

/-- A permit request that cannot be granted waits: REQUEST_WITHDRAW and START_STRING_TEST on a bus whose figures are unknown,
REQUEST_BUS_BYPASS on a bus without a master, each on a NORMAL bus without other permits. The permit joins the table with the
first free id, the counter moves past it, and the reply carries what was stored (R100, R127, R130, R136). The widths of the
reply's values are log 47. -/
def Obligations.PermitRequestsWait : Prop :=
  ∀ (tag m1 m0 : Byte) (b : Bus) (s : State), s.Ready → (s.bus b).isSome → (s.seqOf b).state = .normal →
    s.par.permits.length < 32 → (∀ p ∈ s.par.permits, p.bus ≠ b) →
    let deadline := min (m1.toNat * 256 + m0.toNat) 1440
    let id := freeId (s.par.permits.map fun p => p.id) 255 s.par.nextId
    let created := fun (kind : PermitKind) (c : Option Nat) (policy : Option Policy) =>
      let p : Permit :=
        { id := id, kind := kind, bus := b, cabinet := c, holder := 0, policy := policy, state := .waiting,
          requestUptime := s.now, deadline := if deadline = 0 then none else some (s.now + 60 * deadline),
          grantUptime := none, grantSequence := none, returnOrdered := false, yielded := false,
          yieldSequence := none, adopted := false,
          sent := false }
      s.onPar fun x => { x with permits := x.permits ++ [p], nextId := if 255 ≤ id then 1 else id + 1 }
    (∀ c (k : Cabinet) (policy : Policy), s.cabinet c = some k → k.defn.bus = b → s.lockOf c = none → s.known b = false →
      (∀ p ∈ s.par.permits, p.cabinet ≠ some c) → k.track.state ≠ .standby → k.track.state ≠ .isolated →
      exec (.requestWithdraw tag [0#8, BitVec.ofNat 8 c, BitVec.ofNat 8 policy.code, m1, m0]) s =
        .next (((created .withdraw (some c) (some policy)).recompute b).answered 0x30#8 tag .accepted
          (octets 1 id ++ [0#8] ++ octets 1 policy.code ++ octets 2 deadline))) ∧
    (∀ policy : Policy, policy ≠ .yield → s.masterOf b = none → (∀ x ∈ s.cabinetsOf b, s.lockOf x.1 = none) →
      exec (.requestBusBypass tag [0#8, BitVec.ofNat 8 b.val, BitVec.ofNat 8 policy.code, m1, m0]) s =
        .next (((created .busBypass none (some policy)).recompute b).answered 0x31#8 tag .accepted
          (octets 1 id ++ [0#8] ++ octets 1 policy.code ++ octets 2 deadline))) ∧
    (∀ c slot (n : Byte) (k : Cabinet), s.cabinet c = some k → k.defn.bus = b → (k.slot slot).isSome → s.lockOf c = none →
      s.known b = false → (∀ p ∈ s.par.permits, p.cabinet ≠ some c) →
      let steps := clampTo 1 8 n.toNat
      exec (.startStringTest tag [0#8, BitVec.ofNat 8 c, BitVec.ofNat 8 slot, n, m1, m0]) s =
        .next (((created (.stringTest slot steps) (some c) none).recompute b).answered 0x38#8 tag .accepted
          (octets 1 id ++ octets 1 steps ++ octets 2 deadline)))

/-- A request for what already stands is an adoption, granted at once: REQUEST_WITHDRAW of a cabinet on STANDBY or ISOLATED,
REQUEST_BUS_BYPASS of an orphan bypass; PERMIT_GRANTED is raised and the orphan flag is cleared (R131, R137, R147; the grant
sequence past its top is a free value, log 22). An ordinary request is granted in the grant pass that its creation brings, where
the conditions of Table 8-7 hold on a NORMAL bus, here one without other permits and with its transfer queue idle and the link
busy: a WITHDRAW is sent for the cabinet, the test engine enters BEGIN with TEST_BEGIN, or TEST_END first where the cabinet still
shows a test, and the bypass sequencer enters PREPARING with a BYPASS_PREPARE for each cabinet of the online set, the first of
them sent (R101, R103, R135, R136, R137, R138, R143 step 1). Beside outcome none the last-test summary that a test begins with
has cause 0, result 0, charge 0 and the end not confirmed (log 38). The widths of the reply's values are log 47. -/
def Obligations.AdoptionsAreGrantedAtOnce : Prop :=
  ∀ (tag m1 m0 : Byte) (b : Bus) (policy : Policy) (s : State), s.Ready → (s.bus b).isSome → policy ≠ .yield →
    s.par.permits.length < 32 → (∀ p ∈ s.par.permits, p.bus ≠ b) →
    let deadline := min (m1.toNat * 256 + m0.toNat) 1440
    let id := freeId (s.par.permits.map fun p => p.id) 255 s.par.nextId
    let sequence := if s.par.grants < 2 ^ 32 - 1 then s.par.grants + 1 else Config.grantPastTop % 2 ^ 32
    let granted := fun (kind : PermitKind) (c : Option Nat) =>
      let p : Permit :=
        { id := id, kind := kind, bus := b, cabinet := c, holder := 0, policy := some policy, state := .granted,
          requestUptime := s.now, deadline := none, grantUptime := some s.now, grantSequence := some sequence,
          returnOrdered := false, yielded := false, yieldSequence := none, adopted := true, sent := false }
      (s.onPar fun x =>
        { x with permits := x.permits ++ [p], nextId := if 255 ≤ id then 1 else id + 1,
                 grants := sequence }).raise .permitGranted
        { bus := b.val + 1, cabinet := c.getD 0, permit := id } 0 1
    let rest := octets 1 id ++ [1#8] ++ octets 1 policy.code ++ octets 2 deadline
    (∀ c (k : Cabinet), s.cabinet c = some k → k.defn.bus = b → s.lockOf c = none → (s.seqOf b).state = .normal →
      (∀ p ∈ s.par.permits, p.cabinet ≠ some c) → (k.track.state = .standby ∨ k.track.state = .isolated) →
      exec (.requestWithdraw tag [0#8, BitVec.ofNat 8 c, BitVec.ofNat 8 policy.code, m1, m0]) s =
        .next ((((granted .withdraw (some c)).setCabinet c
          (some { k with track := { k.track with orphan := false } })).recompute b).answered 0x30#8 tag .accepted rest)) ∧
    ((s.seqOf b).state = .onMaintBypass → (s.seqOf b).orphan = true → (∀ x ∈ s.cabinetsOf b, s.lockOf x.1 = none) →
      exec (.requestBusBypass tag [0#8, BitVec.ofNat 8 b.val, BitVec.ofNat 8 policy.code, m1, m0]) s =
        .next ((((granted .busBypass none).onSeq b fun q => { q with orphan := false }).recompute b).answered 0x31#8 tag
          .accepted rest)) ∧
    (∀ u : BusUnit, s.bus b = some u → (s.seqOf b).state = .normal →
      (s.clc.link = .own ∨ s.clc.link = .alertIn ∨ s.clc.link = .recovery) → s.queueOf b = TransferQueue.initial →
      (∀ x ∈ s.cabinetsOf b, x.2.track.state ≠ .onBattery) →
      let d := u.defn
      let enough := fun (f : Figures) => d.minAutonomy = 0 ∨ d.minAutonomy ≤ f.autonomy
      let asked := fun (kind : PermitKind) (c : Option Nat) (policy : Option Policy) (state : PermitState) =>
        ({ id := id, kind := kind, bus := b, cabinet := c, holder := 0, policy := policy, state := state,
           requestUptime := s.now,
           deadline := if state = .waiting ∧ deadline ≠ 0 then some (s.now + 60 * deadline) else none,
           grantUptime := if state = .granted then some s.now else none,
           grantSequence := if state = .granted then some sequence else none, returnOrdered := false, yielded := false,
           yieldSequence := none,
           adopted := false, sent := decide (state = .granted ∧ kind = .withdraw) } : Permit)
      let pass := fun (kind : PermitKind) (c : Option Nat) (slot : Nat) (policy : Option Policy) =>
        (((s.onPar fun x =>
            { x with permits := x.permits ++ [asked kind c policy .waiting],
                     nextId := if 255 ≤ id then 1 else id + 1 }).recompute b).onPar fun x =>
          { x with permits := s.par.permits ++ [asked kind c policy .granted], grants := sequence }).raise .permitGranted
            { bus := b.val + 1, cabinet := c.getD 0, slot := slot, permit := id } 0 0
      let request := fun (who : Requester) (c : Nat) (command : CabinetCommand) =>
        ({ requester := who, cls := .command command, cabinet := c, attempts := 0, begun := false,
           address := ((s.cabinet c).map fun k => k.defn.address).getD 0, credited := true, counted := true } : LinkRequest)
      let inHand := fun (c : Nat) (command : TransferCommand) (permit : Option Nat) (t : State) =>
        (t.onQueue b fun q =>
          { q with inHand := some { entry := { cabinet := c, command := command, permit := permit }, used := true } }).onClc
          fun l => { l with slots := l.slots.set b (some (request (.transfer b) c command.cabinetCommand)) }
      (∀ c (k : Cabinet), s.cabinet c = some k → k.defn.bus = b → s.lockOf c = none →
        (∀ p ∈ s.par.permits, p.cabinet ≠ some c) → k.track.state = .online → s.known b = true →
        (s.strict b d).uncertainCount = 0 → 0 ≤ (s.whatIfWithdrawn b d c).margin → enough (s.whatIfWithdrawn b d c) →
        exec (.requestWithdraw tag [0#8, BitVec.ofNat 8 c, BitVec.ofNat 8 policy.code, m1, m0]) s =
          .next (((inHand c .withdraw (some id) (pass .withdraw (some c) 0 (some policy))).recompute b).answered 0x30#8 tag
            .accepted rest)) ∧
      (∀ c slot (n : Byte) (k : Cabinet) (w : StateWord), s.cabinet c = some k → k.defn.bus = b → (k.slot slot).isSome →
        s.lockOf c = none → (∀ p ∈ s.par.permits, p.cabinet ≠ some c) → k.track.state = .online →
        k.track.lastWord = some w → s.test.phase = .idle → s.known b = true → 0 ≤ (s.strict b d).margin →
        enough (s.whatIfTested b d c slot) →
        let steps := clampTo 1 8 n.toNat
        let first := if w.testActive then (TestRequest.testEnd, CabinetCommand.testEnd)
          else (TestRequest.testBegin, CabinetCommand.testBegin slot)
        exec (.startStringTest tag [0#8, BitVec.ofNat 8 c, BitVec.ofNat 8 slot, n, m1, m0]) s =
          .next (((((pass (.stringTest slot steps) (some c) slot none).onTest fun _ =>
              { TestContext.initial with phase := .begin, permit := some id,
                                         subject := some { cabinet := c, bus := b, slot := slot }, steps := steps,
                                         inHand := some first.1 }).onClc fun l =>
              { l with testSlot := some (request .test c first.2) }).recompute b).answered 0x38#8 tag .accepted
            (octets 1 id ++ octets 1 steps ++ octets 2 deadline))) ∧
      (∀ first others m t, (s.onlineSet b).map (fun x => x.1) = first :: others →
        (∀ x ∈ s.onlineSet b, ∃ w, x.2.track.lastWord = some w ∧ w.bypassSourceOk = true) → s.masterOf b = some m →
        s.tracked m = some t → t ≠ .unreachable → t ≠ .unknown → (∀ x ∈ s.cabinetsOf b, s.lockOf x.1 = none) →
        exec (.requestBusBypass tag [0#8, BitVec.ofNat 8 b.val, BitVec.ofNat 8 policy.code, m1, m0]) s =
          .next ((((inHand first .prepare none (pass .busBypass none 0 (some policy))).onQueue b fun q =>
              { q with ordinary := others.map fun c => { cabinet := c, command := .prepare, permit := none } }).onSeq b fun q =>
              { q with state := .preparing, syncDue := none, transferDue := none,
                       prepared := { cabinet := first, handed := true, accepted := false } ::
                         others.map fun c => { cabinet := c, handed := false, accepted := false } }).recompute b |>.answered
            0x31#8 tag .accepted rest)))

/-- RETURN_PERMIT, from the host, of the only permit of a NORMAL bus: a withdrawal neither sent nor adopted ends RETURNED; one
sent or adopted goes RETURNING, its GO_ONLINE waiting behind the command in hand, in the priority lane where it yielded. A bypass
whose transfer is under way is marked return-ordered; on maintenance bypass its return begins: RETURN_WAIT, and where the
return-check figures qualify RE_PREPARING, with a BYPASS_PREPARE for each cabinet of their set in the queue (R132, R138, R140,
R145 steps 1 and 2, R146). The yield pass (R141): in DEFICIT the YIELD withdrawals that are GRANTED are yielded, most recent
grant first and an ISOLATED cabinet's not, until the pending-credit figures suffice or none is left; a bus on battery or in
DEFICIT yields its granted test, with result 2 on battery whether or not it is in DEFICIT too (log 14). A replacement of the bus
record that brings the DEFICIT returns such a withdrawal with PERMIT_YIELDED, its GO_ONLINE in the priority lane. The retry of a
yielded RETURN_BLOCKED permit joins that lane in the order of the yields (R132, R138; how the model numbers them is log 44). The
widths of the reply's values are log 47. -/
def Obligations.ReturnPermitReturns : Prop :=
  (∀ (tag : Byte) (p : Permit) (s : State), s.Ready → s.configured = true → s.permit p.id = some p → p.id ≤ 255 →
     p.holder = 0 → p.state = .granted →
     let body := [0#8, BitVec.ofNat 8 p.id]
     (∀ c, p.kind = .withdraw → p.cabinet = some c → (∀ q ∈ s.par.permits, q.bus = p.bus → q.id = p.id) →
       s.lockOf c = none → (s.seqOf p.bus).state = .normal →
       (p.sent = false → p.adopted = false → exec (.returnPermit tag body) s =
         .next (((((s.onQueue p.bus fun q =>
             { q with priority := q.priority.filter fun e => e.permit != some p.id,
                      ordinary := q.ordinary.filter fun e => e.permit != some p.id,
                      inHand := q.inHand.map fun h => if h.entry.permit = some p.id then { h with used := false } else h }).onPar
             fun x => { x with permits := x.permits.filter fun q => q.id != p.id }).raise .permitEnded
             { bus := p.bus.val + 1, cabinet := c, permit := p.id } 256 1).recompute p.bus).answered 0x32#8 tag .ok
             (octets 1 p.id ++ [0xFF#8]))) ∧
       (∀ h, (p.sent = true ∨ p.adopted = true) → (s.queueOf p.bus).inHand = some h → (s.queueOf p.bus).priority = [] →
         (s.queueOf p.bus).ordinary = [] → exec (.returnPermit tag body) s =
         .next ((((s.onPermit p.id fun q => { q with returnOrdered := true, state := .returning }).onQueue p.bus fun q =>
           let e : TransferEntry := { cabinet := c, command := .goOnline, permit := some p.id }
           { q with priority := if p.yielded then [e] else [],
                    ordinary := if p.yielded then [] else [e] }).recompute p.bus).answered 0x32#8 tag .ok
           (octets 1 p.id ++ [2#8])))) ∧
     (p.kind = .busBypass → p.cabinet = none → p.returnOrdered = false →
       ((s.seqOf p.bus).state = .preparing ∨ (s.seqOf p.bus).state = .closing) →
       (∀ x ∈ s.cabinetsOf p.bus, s.lockOf x.1 = none) →
       exec (.returnPermit tag body) s = .next
         ((s.onPermit p.id fun q => { q with returnOrdered := true }).answered 0x32#8 tag .ok (octets 1 p.id ++ [1#8]))) ∧
     (∀ (u : BusUnit) (m : Nat), p.kind = .busBypass → p.cabinet = none → p.returnOrdered = false → s.bus p.bus = some u →
       (s.seqOf p.bus).state = .onMaintBypass → s.par.permits.filter (fun q => q.bus == p.bus) = [p] →
       (∀ q ∈ s.par.permits, q.id = p.id → q = p) → (∀ x ∈ s.cabinetsOf p.bus, s.lockOf x.1 = none) →
       s.masterOf p.bus = some m →
       let set := ((s.cabinetsOf p.bus).filter fun x => x.2.track.state == .online &&
         s.par.permits.all fun q => !(q.kind == .withdraw && q.cabinet == some x.1 && q.state != .waiting)).map fun x => x.1
       let margin := (s.returnFigures p.bus u.defn).margin
       let waiting := (s.onPermit p.id fun q => { q with returnOrdered := true, state := .returning }).onSeq p.bus fun q =>
         { q with state := .returnWait, returnSince := some s.now }
       ((m ∉ set ∨ margin < 0) → exec (.returnPermit tag body) s = .next
         ((waiting.recompute p.bus).answered 0x32#8 tag .ok (octets 1 p.id ++ [2#8]))) ∧
       (m ∈ set → 0 ≤ margin → (s.queueOf p.bus).priority = [] → (s.queueOf p.bus).ordinary = [] →
         ((s.queueOf p.bus).inHand ≠ none ∨ (s.queueOf p.bus).spacingDue ≠ none) → exec (.returnPermit tag body) s = .next
         ((((waiting.onSeq p.bus fun q =>
             { q with state := .rePreparing, syncDue := none, transferDue := none,
                      prepared := set.map fun c => { cabinet := c, handed := false, accepted := false } }).onQueue p.bus fun q =>
             { q with ordinary := set.map fun c => { cabinet := c, command := .prepare, permit := none } }).recompute
           p.bus).answered 0x32#8 tag .ok (octets 1 p.id ++ [2#8]))))) ∧
  (∀ (tag : Byte) (p : Permit) (c y : Nat) (h : InHand) (earlier later : List TransferEntry) (s : State), s.Ready →
     s.configured = true → s.permit p.id = some p → p.id ≤ 255 → p.kind = .withdraw → p.cabinet = some c →
     p.state = .returnBlocked → p.yielded = true → p.yieldSequence = some y → s.lockOf c = none →
     (∀ q ∈ s.par.permits, q.bus = p.bus → q.state = .returning ∨ q.state = .returnBlocked) →
     (s.seqOf p.bus).state = .normal → (s.queueOf p.bus).inHand = some h →
     (s.queueOf p.bus).priority = earlier ++ later →
     (∀ e ∈ (s.queueOf p.bus).waiting, e.cabinet ≠ c ∧ e.permit ≠ some p.id) →
     (∀ e ∈ earlier, ∃ q, e.permit = some q.id ∧ s.permit q.id = some q ∧ ∃ z, q.yieldSequence = some z ∧ z < y) →
     (∀ e ∈ later, ∃ q, e.permit = some q.id ∧ s.permit q.id = some q ∧ ∃ z, q.yieldSequence = some z ∧ y < z) →
     exec (.returnPermit tag [0#8, BitVec.ofNat 8 p.id]) s =
       .next ((((s.onPermit p.id fun q => { q with state := .returning }).onQueue p.bus fun q =>
         { q with priority := earlier ++ { cabinet := c, command := .goOnline, permit := some p.id } :: later }).recompute
         p.bus).answered 0x32#8 tag .ok (octets 1 p.id ++ [2#8]))) ∧
  (∀ (b : Bus) (u : BusUnit) (s : State), s.bus b = some u →
     let short := fun (f : Figures) (d : BusRec) => f.margin < 0 ∨ (0 < d.minAutonomy ∧ f.autonomy < d.minAutonomy)
     let deficit := fun (s : State) (d : BusRec) => (s.seqOf b).state = .normal ∧ s.known b = true ∧ short (s.strict b d) d
     let yields := fun (t : State) (p : Permit) => p ∈ t.par.permits ∧ p.bus = b ∧ p.kind = .withdraw ∧ p.policy = some .yield ∧
       p.state = .granted ∧ ∃ c, p.cabinet = some c ∧ t.tracked c ≠ some .isolated
     let onBattery := ∃ x ∈ s.cabinetsOf b, x.2.track.state = .onBattery
     let value := fun (f : Figures) => f.autonomy * 65536 + (f.margin % 65536).toNat
     (∀ p, s.yieldCandidate b = some p → yields s p ∧ ∀ q, yields s q → q.grantSequence.getD 0 ≤ p.grantSequence.getD 0) ∧
     (s.yieldCandidate b = none → ∀ p, ¬yields s p) ∧
     (deficit s u.defn → ∀ p, yields (s.yieldWithdrawals b) p → ¬short ((s.yieldWithdrawals b).pendingCredit b u.defn) u.defn) ∧
     (¬deficit s u.defn → s.yieldWithdrawals b = s) ∧
     (∀ p, s.par.permits.filter (fun q => q.bus == b && q.isTest && q.state == .granted) = [p] →
       (onBattery ∨ deficit s u.defn → s.yieldTests b = (s.raise .permitYielded
         { bus := b.val + 1, cabinet := p.cabinet.getD 0, slot := p.slot, permit := p.id, visit := p.holder }
         (value (s.strict b u.defn)) (if onBattery then 2 else 1)).push [.testAbort .yield])) ∧
     (∀ (tag rs hd au sp sy t1 t0 : Byte) (p : Permit) (c : Nat), s.Ready → s.par.permits.filter (fun q => q.bus == b) = [p] →
       (∀ q ∈ s.par.permits, q.id = p.id → q = p) → yields s p → p.cabinet = some c → p.holder = 0 →
       (p.sent = true ∨ p.adopted = true) → (s.queueOf b).priority = [] → (s.queueOf b).ordinary = [] →
       ((s.queueOf b).inHand ≠ none ∨ (s.queueOf b).spacingDue ≠ none) →
       let new : BusRec :=
         { reserve := rs.toNat, headroom := hd.toNat, minAutonomy := au.toNat, spacing := sp.toNat, syncTimeout := sy.toNat,
           transferTimeout := t1.toNat * 256 + t0.toNat }
       new.reserve ≤ 3 → new.headroom ≤ 50 → new.minAutonomy ≤ 120 → 1 ≤ new.spacing → new.spacing ≤ 60 →
       1 ≤ new.syncTimeout → new.syncTimeout ≤ 30 → 5 ≤ new.transferTimeout → new.transferTimeout ≤ 300 →
       (let replaced := s.setBus b (some { u with defn := new })
        deficit replaced new ∧ short (replaced.pendingCredit b new) new) →
       exec (.defineBus tag [0#8, BitVec.ofNat 8 b.val, rs, hd, au, sp, sy, t1, t0]) s = .next
         ((((((s.setBus b (some { u with defn := new })).recompute b).raise .permitYielded
             { bus := b.val + 1, cabinet := c, permit := p.id } (value (s.strict b new)) 1).onPermit p.id fun q =>
               { q with yielded := true, yieldSequence := some (p.yieldSequence.getD 0 + 1), returnOrdered := true,
                        state := .returning }).onQueue b fun q =>
             { q with priority := [{ cabinet := c, command := .goOnline, permit := some p.id }] }).recompute b |>.answered
           0x11#8 tag .ok (octets 1 b.val ++ [rs, hd, au, sp, sy, t1, t0]))))

/-- CANCEL_REQUEST, from the host, of a waiting permit that is the only one of a NORMAL bus: it leaves the table and PERMIT_ENDED
with result CANCELLED is raised (R127, R133, R147). ABORT_STRING_TEST, from the host, of a test whose TEST_BEGIN still waits at
the link: the request is withdrawn, the context is IDLE with the outcome ABORTED by REQUEST, TEST_ABORTED and then PERMIT_ENDED
are raised, and the string is left as it was (R102, R110, R112; what an idle context keeps and what the detail word counts is
log 31; that a TEST_BEGIN whose only attempts were lost to alerts counts as not sent, so that no TEST_END follows, is log 9). -/
def Obligations.CancelAndAbortEndThePermit : Prop :=
  (∀ (tag : Byte) (p : Permit) (s : State), s.Ready → s.configured = true → s.permit p.id = some p → p.id ≤ 255 →
     p.holder = 0 → p.state = .waiting → (∀ q ∈ s.par.permits, q.bus = p.bus → q.id = p.id) →
     (∀ c ∈ s.permitTouches p, s.lockOf c = none) → (s.seqOf p.bus).state = .normal →
     (∀ e ∈ (s.queueOf p.bus).waiting, e.permit ≠ some p.id) →
     (∀ h, (s.queueOf p.bus).inHand = some h → h.entry.permit ≠ some p.id) →
     exec (.cancelRequest tag [0#8, BitVec.ofNat 8 p.id]) s =
       .next ((((s.onPar fun x => { x with permits := x.permits.filter fun q => q.id != p.id }).raise .permitEnded
         { bus := p.bus.val + 1, cabinet := p.cabinet.getD 0, slot := p.slot, permit := p.id } p.kind.code 3).recompute p.bus).answered
         0x33#8 tag .ok (octets 1 p.id))) ∧
  (∀ (tag : Byte) (p : Permit) (c slot steps : Nat) (r : LinkRequest) (s : State), s.Ready → s.configured = true →
     s.par.permits = [p] → p.id ≤ 255 → p.kind = .stringTest slot steps → p.cabinet = some c → p.holder = 0 →
     p.state = .granted → s.NormalBuses → s.lockOf c = none → s.test.phase = .begin → s.test.permit = some p.id →
     s.test.holder = 0 → s.test.subject = some { cabinet := c, bus := p.bus, slot := slot } →
     s.test.beginHanded = false → s.test.inHand = some .testBegin → s.clc.testSlot = some r → r.attempts = 0 →
     (∀ e ∈ (s.queueOf p.bus).waiting, e.permit ≠ some p.id) →
     (∀ h, (s.queueOf p.bus).inHand = some h → h.entry.permit ≠ some p.id) →
     exec (.abortStringTest tag [0#8, BitVec.ofNat 8 p.id]) s =
       .next (((((((s.onClc fun l => { l with testSlot := none }).onTest fun x =>
           { TestContext.initial with last := { outcome := .aborted, cause := .request, result := 0, charge := x.charge,
                                                confirmed := false } }).onPar fun x => { x with permits := [] }).raise
           .testAborted { bus := p.bus.val + 1, cabinet := c, slot := slot, permit := p.id }
           (1 + s.test.level * 256 + s.test.results.length * 65536) 4).raise .permitEnded
           { bus := p.bus.val + 1, cabinet := c, slot := slot, permit := p.id } 258 7).recompute p.bus).answered 0x39#8 tag .ok
         (octets 1 p.id)))

/-- The next permit or visit id is the first one from the counter upward, wrapping from 255 to 1, that is not taken (R127,
R150). The slot of a booking is the lowest empty one, or else that of the CLOSED record with the lowest close sequence, or none
(R150). -/
def Obligations.IdsAndVisitSlotsAreTheFirstFree : Prop :=
  (∀ (taken : List Nat) (counter : Nat), taken.length < 255 → 1 ≤ counter → counter ≤ 255 →
     let place := fun (n : Nat) => (counter - 1 + n) % 255 + 1
     ∃ n, n < 255 ∧ freeId taken 255 counter = place n ∧ place n ∉ taken ∧ ∀ m, m < n → place m ∈ taken) ∧
  (∀ s : State,
     (∀ i : Fin 8, s.vct.slots[i] = none → (∀ j : Fin 8, j < i → s.vct.slots[j] ≠ none) → s.freeVisitSlot = some i.val) ∧
     ((∀ i : Fin 8, s.vct.slots[i] ≠ none) →
       (∀ (i : Fin 8) v, s.vct.slots[i] = some v → v.state = .closed →
         (∀ (j : Fin 8) w, s.vct.slots[j] = some w → w.state = .closed → j ≠ i →
           v.closeSequence.getD 0 < w.closeSequence.getD 0) → s.freeVisitSlot = some i.val) ∧
       ((∀ (i : Fin 8) v, s.vct.slots[i] = some v → v.state ≠ .closed) → s.freeVisitSlot = none)))

/-! ### Visits -/

/-- BOOK_VISIT: a visit with a later start is BOOKED; one whose start has arrived is ACTIVE at once where it is an OBSERVE visit
or its scope is unlocked, with its locks, its deadline and VISIT_ACTIVE; otherwise it stays BOOKED and waits for locks (R150,
R152, R154, R164; the booking sequence past its top is a free value, log 22). The widths of the reply's values are log 47. -/
def Obligations.BookVisitBooksOrActivates : Prop :=
  ∀ (tag : Byte) (credential start minutes : Nat) (level : Level) (scope : List Nat) (slot : Fin 8) (s : State), s.Ready →
    s.configured = true → credential < 2 ^ 32 → start < 2 ^ 32 → minutes < 65536 → scope ≠ [] → scope.length ≤ 24 →
    scope.Nodup → (∀ c ∈ scope, (s.cabinet c).isSome) → (start ≠ 0 → s.clock.valid = true) →
    (∀ v ∈ s.visits, v.credential = credential → v.state = .closed) → s.vct.slots[slot] = none →
    (∀ i : Fin 8, i < slot → s.vct.slots[i] ≠ none) →
    let id := freeId (s.visits.map fun v => v.id) 255 s.vct.nextId
    let duration := clampTo 1 1440 minutes
    let sequence := if s.vct.bookings < 2 ^ 32 - 1 then s.vct.bookings + 1 else Config.bookingPastTop % 2 ^ 32
    let booked : Visit :=
      { id := id, credential := credential, level := level, scope := scope, bookedStart := start, duration := duration,
        sequence := sequence, state := .booked, waitingLock := false, activation := none, deadline := none,
        nextReminder := none, lastOverdue := none, actions := 0, expected := none, replaced := [], closeDeadline := none,
        closeSet := [], closeSequence := none,
        report := { result := none, mismatch := false, overdue := false, ended := 0, rehomed := 0 } }
    let put := fun (v : Visit) => s.onVct fun x =>
      { x with slots := x.slots.set slot (some v), nextId := if 255 ≤ id then 1 else id + 1, bookings := sequence }
    let command := Instr.bookVisit tag (octets 4 credential ++ octets 1 level.code ++ octets 4 start ++ octets 2 minutes ++
      octets 1 scope.length ++ scope.flatMap (octets 1))
    let rest := fun (state : Byte) => octets 1 id ++ octets 1 slot ++ [state] ++ octets 2 duration
    let free := ∀ c ∈ scope, s.lockOf c = none
    (start ≠ 0 → s.clock.floorTime < start → exec command s = .next ((put booked).answered 0x40#8 tag .accepted (rest 0#8))) ∧
    (start ≤ s.clock.floorTime ∨ start = 0 → level = .observe ∨ free →
      exec command s = .next ((((put
        { booked with state := .active, activation := some s.now, deadline := some (s.now + 60 * duration) }).onVct fun x =>
          { x with locks := if level = .observe then x.locks else Vector.ofFn fun i : Fin 24 =>
              if i.val + 1 ∈ scope then some id else x.locks[i] }).raise .visitActive { visit := id } credential 0).answered
        0x40#8 tag .accepted (rest 1#8))) ∧
    (start ≤ s.clock.floorTime ∨ start = 0 → level ≠ .observe → ¬free →
      exec command s = .next ((put { booked with waitingLock := true }).answered 0x40#8 tag .accepted (rest 0#8)))

/-- CANCEL_VISIT: its checks in order, and the removal of a BOOKED visit (R153). -/
def Obligations.CancelVisitRemovesABookedVisit : Prop :=
  ∀ (tag : Byte) (body : List Byte) (s : State), s.Ready → body.length ≤ 120 →
    let refused := fun (status : Status) => exec (.cancelVisit tag body) s = .next (s.answered 0x41#8 tag status [])
    (body.length ≠ 1 → refused .badLength) ∧
    (body.length = 1 → s.configured = false → refused .notConfigured) ∧
    (∀ id : Byte, body = [id] → s.configured = true →
      (s.visit id.toNat = none → refused .badArgument) ∧
      ∀ v, s.visit id.toNat = some v →
        (v.state ≠ .booked → refused .state) ∧
        (v.state = .booked → exec (.cancelVisit tag body) s = .next
          ((s.onVct fun x => { x with slots := x.slots.map fun o => if (o.map fun w => w.id) = some id.toNat then none else o }).answered
            0x41#8 tag .ok [id])))

/-- EXTEND_VISIT: its checks in order, the minutes held to 1..1440, and the new deadline; an OVERDUE visit whose deadline is then
later than the present uptime is ACTIVE again, without a reminder (R159; a deadline past the greatest uptime, and seconds past
four octets, are log 46). The widths of the reply's values are log 47. -/
def Obligations.ExtendVisitMovesTheDeadline : Prop :=
  ∀ (tag : Byte) (body : List Byte) (s : State), s.Ready → body.length ≤ 120 →
    let refused := fun (status : Status) => exec (.extendVisit tag body) s = .next (s.answered 0x42#8 tag status [])
    (body.length ≠ 3 → refused .badLength) ∧
    (body.length = 3 → s.configured = false → refused .notConfigured) ∧
    (∀ id m1 m0 : Byte, body = [id, m1, m0] → s.configured = true →
      (s.visit id.toNat = none → refused .badArgument) ∧
      ∀ v, s.visit id.toNat = some v →
        (v.state ≠ .active → v.state ≠ .overdue → refused .state) ∧
        (∀ deadline, v.deadline = some deadline → (v.state = .active ∨ v.state = .overdue) →
          let given := m1.toNat * 256 + m0.toNat
          let minutes := clampTo 1 1440 given
          let later := deadline + 60 * minutes
          let returns := v.state = .overdue ∧ s.now < later
          let new := { v with deadline := some later, state := if returns then .active else v.state,
                              nextReminder := if returns then none else v.nextReminder }
          exec (.extendVisit tag body) s = .next
            ((s.onVisit id.toNat fun _ => new).answered 0x42#8 tag (if minutes = given then .ok else .okClamped)
              (octets 2 minutes ++ [if v.state = .active ∨ returns then 1#8 else 2#8] ++
                signedOctets 4 ((later : Int) - (s.now : Int))))))

/-- CLOSE_VISIT of a visit without live permits: CLOSED at once and CLEAN, its locks released, VISIT_CLOSED raised; with a live
ON_REQUEST permit it is refused PERMITS_HELD with the lowest id (R160, R161, R163, R164; the close sequence past its top is a
free value, log 22). Otherwise its permits are dealt with, here of one kind at a time and with no other permit on the bus. HOLD
permits that are not waiting, which no test has, are re-homed, and the visit is CLOSED. A WAITING permit is cancelled, a granted
test aborted with VISIT_CLOSE, and a withdrawal never sent returned, each with its notices, and the visit is CLOSED with that
permit counted as ended (R110, R133, R161 groups 1 to 4; what an idle test context keeps and the detail word counts is log 31,
and that a TEST_BEGIN lost only to alerts counts as not sent is log 9). A withdrawal that was sent or adopted, or whose return is
blocked, goes RETURNING with its GO_ONLINE waiting; a bypass is marked return-ordered, or goes to RETURN_WAIT; a return under way
is awaited as it stands: the visit is then CLOSING with its deadline, the permit in its close set (R132, R140, R145, R146, R161
group 3). The widths of the reply's values are log 47. -/
def Obligations.CloseVisitClosesOrIsRefused : Prop :=
  ∀ (tag : Byte) (v : Visit) (slot : Fin 8) (s : State), s.Ready → s.configured = true → v.id ≤ 255 →
    s.vct.slots[slot] = some v → (∀ (i : Fin 8) w, s.vct.slots[i] = some w → w.id = v.id → i = slot) →
    (v.state = .active ∨ v.state = .overdue) →
    let sequence := if s.vct.closes < 2 ^ 32 - 1 then s.vct.closes + 1 else Config.closePastTop % 2 ^ 32
    ((∀ p ∈ s.par.permits, p.holder ≠ v.id) → v.replaced = [] → v.closeSet = [] → v.report.ended = 0 →
      (∀ w ∈ s.visits, w.waitingLock = false) → v.actions ≤ 65535 →
      ∀ expected : Option (Byte × Byte),
        let count := expected.map fun e => e.1.toNat * 256 + e.2.toNat
        let mismatch := count.any fun n => n != v.actions
        let code := 1 + if mismatch then 2 else 0
        exec (.closeVisit tag (BitVec.ofNat 8 v.id :: match expected with
          | none => []
          | some e => [e.1, e.2])) s = .next
          (((s.onVct fun x =>
            { x with
              slots := x.slots.set slot (some
                { v with state := .closed, nextReminder := none, expected := count, closeDeadline := none, closeSet := [],
                         closeSequence := some sequence,
                         report := { v.report with result := some .clean, mismatch := mismatch, rehomed := 0 } }),
              locks := x.locks.map fun l => if l = some v.id then none else l, closes := sequence }).raise .visitClosed
            { visit := v.id } v.actions code).answered 0x43#8 tag .accepted [BitVec.ofNat 8 v.id, 4#8, 0#8, 0#8])) ∧
    (∀ p ∈ s.par.permits, p.holder = v.id → p.policy = some .onRequest →
      (∀ q ∈ s.par.permits, q.holder = v.id → q.policy = some .onRequest → p.id ≤ q.id) →
      exec (.closeVisit tag [BitVec.ofNat 8 v.id]) s = .next (s.answered 0x43#8 tag .permitsHeld (octets 1 p.id))) ∧
    ((∀ w ∈ s.visits, w.waitingLock = false) → v.replaced = [] → v.actions ≤ 65535 → v.report.ended = 0 →
      ∀ expected : Option (Byte × Byte),
      let count := expected.map fun e => e.1.toNat * 256 + e.2.toNat
      let mismatch := count.any fun n => n != v.actions
      let close := exec (.closeVisit tag (BitVec.ofNat 8 v.id :: match expected with
          | none => []
          | some e => [e.1, e.2])) s
      let answer := fun (x : State) (state left rehomed : Nat) =>
        x.answered 0x43#8 tag .accepted ([BitVec.ofNat 8 v.id] ++ octets 1 state ++ octets 1 left ++ octets 1 rehomed)
      let put := fun (x : State) (w : Visit) => x.onVct fun y => { y with slots := y.slots.set slot (some w) }
      let closed := fun (x : State) (ended rehomed : Nat) =>
        ((put x { v with state := .closed, nextReminder := none, expected := count, closeDeadline := none, closeSet := [],
                         closeSequence := some sequence,
                         report := { v.report with result := some .clean, mismatch := mismatch, ended := ended,
                                                   rehomed := rehomed } }).onVct fun y =>
          { y with locks := y.locks.map fun l => if l = some v.id then none else l, closes := sequence }).raise .visitClosed
            { visit := v.id } (v.actions + ended * 65536 + rehomed * 16777216) (1 + if mismatch then 2 else 0)
      let closing := fun (x : State) (id : Nat) =>
        put x { v with state := .closing, nextReminder := none, expected := count,
                       closeDeadline := some (s.now + 60 * s.floor.closeTimeoutMin), closeSet := [id],
                       report := { v.report with rehomed := 0 } }
      ((∀ p ∈ s.par.permits, p.holder = v.id → p.policy = some .hold ∧ p.state ≠ .waiting ∧ p.isTest = false) →
        (s.par.permits.map fun p => p.id).Nodup → s.par.permits.length ≤ 32 →
        let n := (s.par.permits.filter fun p => p.holder = v.id).length
        close = .next (answer (closed (s.onPar fun x =>
          { x with permits := x.permits.map fun p => if p.holder = v.id then { p with holder := 0 } else p }) 0 n) 4 0 n)) ∧
      (∀ p : Permit, s.par.permits.filter (fun q => q.bus == p.bus) = [p] →
        (∀ q ∈ s.par.permits, q.holder = v.id ∨ q.id = p.id → q = p) → p.holder = v.id → p.policy ≠ some .onRequest →
        let subject : Subject :=
          { bus := p.bus.val + 1, cabinet := p.cabinet.getD 0, slot := p.slot, permit := p.id, visit := v.id }
        let gone := fun (x : State) (result : Nat) => ((x.onQueue p.bus fun q =>
            { q with priority := q.priority.filter fun e => e.permit != some p.id,
                     ordinary := q.ordinary.filter fun e => e.permit != some p.id,
                     inHand := q.inHand.map fun h => if h.entry.permit = some p.id then { h with used := false } else h }).onPar
          fun y => { y with permits := y.permits.filter fun q => q.id != p.id }).raise .permitEnded subject
            (p.kind.code + p.state.code * 256) result
        let awaited := fun (x : State) => answer (closing x p.id) 3 1 0
        (p.state = .waiting → (s.seqOf p.bus).state = .normal →
          close = .next (answer ((closed (gone s 3) 1 0).recompute p.bus) 4 0 0)) ∧
        (p.kind = .withdraw → p.state = .granted → p.sent = false → p.adopted = false → p.policy ≠ some .hold →
          (s.seqOf p.bus).state = .normal →
          close = .next (answer ((closed (gone s 1) 1 0).recompute p.bus) 4 0 0)) ∧
        (∀ c slot steps r, p.kind = .stringTest slot steps → p.state = .granted → p.policy = none → p.cabinet = some c →
          s.par.permits = [p] → s.NormalBuses → s.test.phase = .begin → s.test.permit = some p.id → s.test.holder = v.id →
          s.test.subject = some { cabinet := c, bus := p.bus, slot := slot } → s.test.beginHanded = false →
          s.test.inHand = some .testBegin → s.clc.testSlot = some r → r.attempts = 0 →
          close = .next (answer ((closed (gone (((s.onClc fun l => { l with testSlot := none }).onTest fun x =>
              { TestContext.initial with last := { outcome := .aborted, cause := .visitClose, result := 0, charge := x.charge,
                                                   confirmed := false } }).raise .testAborted subject
            (1 + s.test.level * 256 + s.test.results.length * 65536) 8) 7) 1 0).recompute p.bus) 4 0 0)) ∧
        (∀ c h, p.kind = .withdraw → p.policy ≠ some .hold → p.cabinet = some c → (s.seqOf p.bus).state = .normal →
          (s.queueOf p.bus).inHand = some h → (s.queueOf p.bus).waiting = [] →
          (p.state = .granted ∧ (p.sent = true ∨ p.adopted = true) ∨ p.state = .returnBlocked) →
          close = .next (awaited (((s.onPermit p.id fun q =>
            { q with returnOrdered := p.returnOrdered || p.state == .granted, state := .returning }).onQueue p.bus fun q =>
              let e : TransferEntry := { cabinet := c, command := .goOnline, permit := some p.id }
              { q with priority := if p.yielded then [e] else [], ordinary := if p.yielded then [] else [e] }).recompute
            p.bus))) ∧
        (p.kind = .busBypass → p.policy = some .whenDone → p.state = .granted → p.returnOrdered = false →
          ((s.seqOf p.bus).state = .preparing ∨ (s.seqOf p.bus).state = .closing →
            close = .next (awaited (s.onPermit p.id fun q => { q with returnOrdered := true }))) ∧
          (∀ (u : BusUnit) (m : Nat), (s.seqOf p.bus).state = .onMaintBypass → s.bus p.bus = some u → s.masterOf p.bus = some m →
            (s.tracked m ≠ some .online ∨ (s.returnFigures p.bus u.defn).margin < 0) →
            close = .next (awaited (((s.onPermit p.id fun q => { q with returnOrdered := true, state := .returning }).onSeq p.bus
              fun q => { q with state := .returnWait, returnSince := some s.now }).recompute p.bus)))) ∧
        (p.isTest = false → p.policy ≠ some .hold →
          (p.state = .returning ∨ p.kind = .busBypass ∧ p.state = .granted ∧ p.returnOrdered = true) →
          close = .next (awaited s))))

/-- DECLARE_REPLACED on a visit's behalf, of a string of a cabinet that is out: the string joins the visit's replaced list, the
action is counted, and the string's ageing record begins anew, under the rated values that the long form carries, each held to
its range with OK_CLAMPED where one moved, or else under its old ones (R7, R93, R156, R157, Tables 1-4 and 9-2); a host-direct
one is refused AUTHORITY. The widths of the reply's values are log 47. -/
def Obligations.ReplacementBeginsTheRecordAnew : Prop :=
  ∀ (tag : Byte) (rated : List Byte) (v : Visit) (place : Fin 8) (c slot : Nat) (k : Cabinet) (u : StringUnit) (s : State),
    s.Ready → s.configured = true → s.cabinet c = some k → k.slot slot = some u → 0 < u.defn.designLife →
    (rated = [] ∨ rated.length = 10) →
    let given := [field rated 0 2, field rated 2 4, field rated 6 2, field rated 8 2]
    let capacity := clampTo 1 5000 (field rated 0 2)
    let energy := clampTo 100 2000000 (field rated 2 4)
    let life := clampTo 365 7300 (field rated 6 2)
    let cycles := clampTo 10 5000 (field rated 8 2)
    let d := if rated = [] then u.defn else
      { u.defn with capacity := capacity, energy := energy, designLife := life, cycles := cycles }
    exec (.declareReplaced tag ([0#8, BitVec.ofNat 8 c, BitVec.ofNat 8 slot] ++ rated)) s =
      .next (s.answered 0x44#8 tag .authority []) ∧
    (1 ≤ v.id → v.id ≤ 255 → s.vct.slots[place] = some v →
      (∀ (i : Fin 8) w, s.vct.slots[i] = some w → w.id = v.id → i = place) → (v.state = .active ∨ v.state = .overdue) →
      c ∈ v.scope → (v.level = .battery ∨ v.level = .supervise) → s.test.phase = .idle →
      (k.track.state = .standby ∨ k.track.state = .isolated) →
      (v.replaced.length < 8 ∨ (c, slot) ∈ v.replaced) → s.NoTransfers →
      ∃ t w x, exec (.declareReplaced tag ([BitVec.ofNat 8 v.id, BitVec.ofNat 8 c, BitVec.ofNat 8 slot] ++ rated)) s = .next t ∧
        t.vct = { s.vct with slots := s.vct.slots.set place (some w) } ∧
        w = { v with replaced := if (c, slot) ∈ v.replaced then v.replaced else v.replaced ++ [(c, slot)],
                     actions := min (v.actions + 1) 65535 } ∧
        t.string c slot = some x ∧ x.defn = d ∧ x.age.calendarWear = 0 ∧ x.age.cycleCharge = 0 ∧
        x.age.lastImpedance = 0 ∧ x.age.baseline = 0 ∧ x.age.counterBase = none ∧ x.age.lastTest = none ∧
        x.age.window = [] ∧ x.age.history = [] ∧ x.age.baselinePending = true ∧ x.age.ageingLost = false ∧
        x.age.state = .float ∧ x.age.remainingDays = 65535 ∧ x.age.health = 100 ∧ x.age.energy = d.energy ∧
        t.ims.ageingSave ≠ .idle ∧ t.scs = s.scs ∧ t.clc = s.clc ∧ t.par = s.par ∧ t.test = s.test ∧ t.clock = s.clock ∧
        t.outer = ((s.onCabinet c fun y => y.setSlot slot (some { u with defn := d })).answered 0x44#8 tag
          (if rated = [] ∨ given = [capacity, energy, life, cycles] then .ok else .okClamped)
          ([BitVec.ofNat 8 c, BitVec.ofNat 8 slot] ++ octets 1 w.replaced.length ++ octets 2 d.capacity ++
            octets 4 d.energy ++ octets 2 d.designLife ++ octets 2 d.cycles)).outer)

/-! ### The cabinet link -/

/-- FREEZE ends, sent or not: with polls of the pass outstanding one fewer is; as the last, the pass ends; the link is IDLE
(R20, R27, R32, R62). -/
def Obligations.FreezeEndsItsPart : Prop :=
  ∀ (ending : FreezeEnd) (f : InFlight) (n : Nat) (s : State), s.Quiet → s.clc.Empty → s.clc.link = .own →
    s.clc.inFlight = some f → f.request.requester = .scan → f.request.cls = .freeze n → f.request.counted = true →
    let idle := s.onClc fun l => { l with inFlight := none, link := .idle, stretchWait := false, stuckTimer := false }
    (2 ≤ s.scs.outstanding → exec (.freezeComplete ending) s = .next
      (idle.onScs fun x => { x with outstanding := x.outstanding - 1 })) ∧
    (s.scs.outstanding = 1 → s.scs.passCount + 1 < s.scs.timing.average → exec (.freezeComplete ending) s = .next
      (idle.onScs fun x => { x with outstanding := 0, passCount := x.passCount + 1 }))

/-- POLL ends: unanswered, its cabinet has one failure more, the entry its last outcome, the failure count moves; answered with
the state word already known, the failure count is 0, and the entry has a sample where the echo is the pass's number and is
STALE_FREEZE where not (R21, R24, R32, R38, R40, R63; bit 7 of a state word is not kept, log 24). A failure that brings the count
to the threshold makes the cabinet UNREACHABLE, with CABINET_UNREACHABLE and then CABINET_STATE, and recomputes its bus (R40,
R48, R49). -/
def Obligations.PollIsTrackedAndJudged : Prop :=
  ∀ (f : InFlight) (p : Point) (c : Nat) (k : Cabinet) (s : State), s.Quiet → s.clc.Empty → s.clc.link = .own →
    s.clc.inFlight = some f → f.request.requester = .scan → f.request.cls = .poll p → f.request.cabinet = c →
    f.request.counted = true → f.request.credited = true → s.cabinet c = some k → 2 ≤ s.scs.outstanding →
    let idle := s.onClc fun l => { l with inFlight := none, link := .idle, stretchWait := false, stuckTimer := false }
    let entries := fun (g : ActiveEntry → ActiveEntry) (x : Scs) =>
      x.active.map fun e => if e.entry.cabinet = c ∧ e.entry.point = p then g e else e
    let listed := s.scs.active.any fun e => e.entry.cabinet = c ∧ e.entry.point = p
    let missed := fun (o : LastOutcome) (s : State) => s.onScs fun x =>
      { x with outstanding := x.outstanding - 1,
               active := entries (fun e => { e with reading := { e.reading with lastOutcome := o } }) x,
               scanFailures := if listed then min (x.scanFailures + 1) 65535 else x.scanFailures }
    (∀ ending, ending = .notAcknowledged →
      (k.track.unreachable = true ∨ min (k.track.failures + 1) 15 < s.floor.unreachableThreshold) →
      exec (.pollComplete ending) s = .next (missed .noAnswer
        (idle.setCabinet c (some { k with track := { k.track with failures := min (k.track.failures + 1) 15 } })))) ∧
    (let n := min (k.track.failures + 1) 15
     let subject : Subject := { bus := k.defn.bus.val + 1, cabinet := c }
     s.NoTransfers → s.test.subject = none → k.track.unreachable = false → s.floor.unreachableThreshold ≤ n →
     k.track.state ≠ .onBattery →
     exec (.pollComplete .notAcknowledged) s = .next (missed .noAnswer
       ((((idle.setCabinet c (some { k with
         track := { k.track with failures := n, unreachable := true, unreachableSince := some s.now } })).raise
           .cabinetUnreachable subject n 1).raise .cabinetState subject (k.track.state.code * 256 + 9) 3).recompute
             k.defn.bus))) ∧
    (∀ (word echo check : Byte) (value : BitVec 32) (w : StateWord), StateWord.ofByte word = some w →
      check = crc8 (f.request.header :: word :: echo :: octets 4 value.toNat) → k.track.lastWord = some w →
      k.track.unreachable = false → k.track.overlay = none → k.track.firstReportPending = false →
      k.track.bypassCheckPending = false →
      let heard := idle.setCabinet c (some { k with track := { k.track with failures := 0, lastSuccess := some s.now } })
      (echo.toNat = s.scs.passSequence →
        exec (.pollComplete (.reply { stateWord := word, echo := echo, value := value } check)) s = .next
          (heard.onScs fun x =>
            { x with outstanding := x.outstanding - 1,
                     active := entries (fun e => { e with reading := { e.reading with lastOutcome := .ok },
                                                          samples := e.samples.add (p.valueOf value) }) x })) ∧
      (echo.toNat ≠ s.scs.passSequence →
        exec (.pollComplete (.reply { stateWord := word, echo := echo, value := value } check)) s = .next
          (missed .staleFreeze heard)))

/-- COMMAND of a transfer ends: a BYPASS_CANCEL answered OK leaves the hand of its bus and the spacing starts; a WITHDRAW or
GO_ONLINE answered OK sets its overlay with its deadline, and CABINET_STATE of source 4 tells it (R42, R139, R140); a refused
WITHDRAW ends its permit, and a refused GO_ONLINE makes it RETURN_BLOCKED with the refusal's code (R139, R140, R147); an
unanswered first or second attempt of any transfer command is made again at once where nothing else waits (R22, R32, R33, R35,
R138, R144; the turn pointer is log 9's). The bypass commands' outcomes are in BypassTimersFailTheTransfer, the test commands'
in TestReadNotReadyIsReadAgain. -/
def Obligations.CommandEndsOrIsMadeAgain : Prop :=
  ∀ (f : InFlight) (command : CabinetCommand) (b : Bus) (c : Nat) (k : Cabinet) (s : State), s.Quiet → s.clc.Empty →
    s.clc.link = .own → s.clc.inFlight = some f → f.request.requester = .transfer b → f.request.cls = .command command →
    f.request.cabinet = c → f.request.credited = true → s.cabinet c = some k →
    (∀ (word check : Byte) (w : StateWord) (used : Bool), command = .bypassCancel → StateWord.ofByte word = some w →
      check = crc8 [f.request.header, word, 0#8] → k.track.lastWord = some w → k.track.unreachable = false →
      k.track.overlay = none → k.track.firstReportPending = false → k.track.bypassCheckPending = false →
      (s.queueOf b).inHand = some { entry := { cabinet := c, command := .cancel, permit := none }, used := used } →
      exec (.commandComplete (.reply { stateWord := word, result := 0#8 } check)) s = .next
        (((s.onClc fun l => { l with inFlight := none, link := .idle, stretchWait := false, stuckTimer := false }).setCabinet c
          (some { k with track := { k.track with failures := 0, lastSuccess := some s.now } })).onQueue b fun q =>
          { q with inHand := none, spacingDue := (s.bus b).map fun u => s.now + u.defn.spacing })) ∧
    (∀ (word result check : Byte) (w : StateWord) (p : Permit) (u : BusUnit), StateWord.ofByte word = some w →
      check = crc8 [f.request.header, word, result] → k.track.lastWord = some w → k.track.unreachable = false →
      k.track.overlay = none → k.track.firstReportPending = false → k.track.bypassCheckPending = false →
      k.defn.bus = b → s.bus b = some u → (s.seqOf b).state = .normal → s.test.subject = none →
      s.par.permits.filter (fun q => q.bus == b) = [p] → (∀ q ∈ s.par.permits, q.cabinet = some c ∨ q.id = p.id → q = p) →
      p.kind = .withdraw → p.cabinet = some c → p.holder = 0 → p.state ≠ .waiting → p.policy ≠ some .yield →
      let ended := exec (.commandComplete (.reply { stateWord := word, result := result } check)) s
      let heard := fun (track : Track) =>
        ((s.onClc fun l => { l with inFlight := none, link := .idle, stretchWait := false, stuckTimer := false }).setCabinet c
          (some { k with track := { track with failures := 0, lastSuccess := some s.now } })).onQueue b fun q =>
          { q with inHand := none, spacingDue := some (s.now + u.defn.spacing) }
      let subject : Subject := { bus := b.val + 1, cabinet := c }
      let due := some (s.now + u.defn.transferTimeout)
      (command = .withdraw → (s.queueOf b).inHand =
          some { entry := { cabinet := c, command := .withdraw, permit := some p.id }, used := true } →
        (result = 0#8 → w.mode = .online → ended = .next
          (((heard { k.track with overlay := some .withdrawing, overlayDeadline := due }).raise .cabinetState subject
            (1 * 256 + 7) 4).recompute b)) ∧
        (result ≠ 0#8 → ended = .next
          (((((heard k.track).onQueue b fun q =>
              { q with priority := q.priority.filter fun e => e.permit != some p.id,
                       ordinary := q.ordinary.filter fun e => e.permit != some p.id }).onPar fun x =>
            { x with permits := x.permits.filter fun q => q.id != p.id }).raise .permitEnded
              { subject with permit := p.id } (p.state.code * 256) (if p.state = .granted then 5 else 1)).recompute b))) ∧
      (command = .goOnline → (s.queueOf b).inHand =
          some { entry := { cabinet := c, command := .goOnline, permit := some p.id }, used := true } →
        (result = 0#8 → w.mode = .standby → ended = .next
          (((heard { k.track with overlay := some .returning, overlayDeadline := due }).raise .cabinetState subject
            (4 * 256 + 8) 4).recompute b)) ∧
        (result ≠ 0#8 → ended = .next
          ((((heard k.track).onPermit p.id fun q => { q with state := .returnBlocked }).raise .returnBlocked
            { subject with permit := p.id } (min result.toNat 4) 1).recompute b)))) ∧
    (∀ ending, (ending = .notAcknowledged ∨ ending = .checkNotAcknowledged ∨ ending = .bitMismatch) →
      f.request.attempts < 2 →
      (k.track.unreachable = true ∨ min (k.track.failures + 1) 15 < s.floor.unreachableThreshold) →
      exec (.commandComplete ending) s = .next
        ((s.onClc fun l =>
          { l with link := .own, stretchWait := false, stuckTimer := false, turn := b,
                   inFlight := some { request := { f.request with attempts := f.request.attempts + 1, begun := true,
                                                                  address := k.defn.address },
                                      rate := s.floor.linkRate, stretchMs := s.floor.stretchMs } }).setCabinet c
          (some { k with track := { k.track with failures := min (k.track.failures + 1) 15 } })))

/-- The test engine takes the outcomes of its requests, the link otherwise idle. A reading that is not complete is asked for
again a second later, at most three times, and then the test fails NO_DATA (R23, R105). A reading in SEARCH raises the level, or
locks it and enters MEASURE, or at level 15 fails LOW_SIGNAL (R106); in MEASURE it gives an impedance, and the last one the
combined result and DONE, or fails LOW_SIGNAL without its results (R107, R108). A test that has begun ends with TEST_END on the
link, its string RECHARGING, the result stored where it is DONE, its notice, and its permit ended (R80, R109, R110, R112).
TEST_STEP answered OK starts the step wait (R105); TEST_BEGIN answered OK makes the string TESTING and enters SETTLE, or SEARCH
at once without a settle time, and refused fails the test, with no TEST_END (R103, R104, R110); TEST_END's outcome returns the
context to IDLE with the confirmation kept (R110). A notice value is taken modulo 2^32 (log 26). What an idle context keeps, and
that the detail word of LOW_SIGNAL counts the results it discards, is log 31. -/
def Obligations.TestReadNotReadyIsReadAgain : Prop :=
  ∀ (f : InFlight) (check : Byte) (u : TestUnit) (k : Cabinet) (x : StringUnit) (s : State), s.Quiet → s.clc.Empty →
    s.clc.link = .own → s.clc.inFlight = some f → f.request.requester = .test → f.request.cabinet = u.cabinet →
    f.request.credited = true → s.cabinet u.cabinet = some k → k.slot u.slot = some x → k.track.unreachable = false →
    s.test.subject = some u →
    let d := x.defn
    let heard := (s.onClc fun l => { l with inFlight := none, link := .idle, stretchWait := false, stuckTimer := false }).setCabinet
      u.cabinet (some { k with track := { k.track with failures := 0, lastSuccess := some s.now } })
    let flight := fun (command : CabinetCommand) => some ({
      request := { requester := .test, cls := .command command, cabinet := u.cabinet, attempts := 0, begun := true,
                   address := k.defn.address, credited := true, counted := true },
      rate := s.floor.linkRate, stretchMs := s.floor.stretchMs } : InFlight)
    let step := fun (level : Nat) (t : State) => (t.onTest fun c => { c with level := level, inHand := some .testStep }).onClc
      fun l => { l with link := .own, inFlight := flight (.testStep level) }
    let subject : Subject := { bus := u.bus.val + 1, cabinet := u.cabinet, slot := u.slot }
    let onNewest := fun (g : DischargeRec → DischargeRec) => match x.age.history.getLast? with
      | none => []
      | some r => x.age.history.dropLast ++ [g r]
    let ended := fun (r : DischargeRec) => if r.isOpen then { r with duration := s.now - r.openedAt, isOpen := false } else r
    let others := fun (t : State) => t.scs = s.scs ∧ t.vct = s.vct ∧ t.ims = s.ims ∧ t.clock = s.clock ∧ t.outer = s.outer
    let ends := fun (o : Host.Outcome State Fault Refusal) (cause : TestCause) (charge result : Nat) (results : List Nat) =>
      ∃ t v, o = .next t ∧ others t ∧ t.par = { s.par with permits := [] } ∧
        t.test = { s.test with
          phase := .ending, timer := .none, inHand := some .testEnd, charge := charge,
          results := if cause = .lowSignal then [] else results, endNeeded := true, endHanded := true,
          last := { outcome := if cause = .none then .done else .failed, cause := cause, result := result, charge := charge,
                    confirmed := false } } ∧
        t.clc = { heard.clc with link := .own, inFlight := flight .testEnd } ∧
        t.string u.cabinet u.slot = some v ∧ v.defn = d ∧ v.age.calendarWear = x.age.calendarWear ∧
        v.age.cycleCharge = x.age.cycleCharge ∧ v.age.window = x.age.window ∧
        v.age.lastImpedance = (if cause = .none then result else x.age.lastImpedance) ∧
        v.age.baseline = (if cause = .none ∧ x.age.baselinePending = true then result else x.age.baseline) ∧
        v.age.lastTest = (if cause = .none then some (if s.clock.valid then
            { time := (s.clock.uptime + s.clock.offset) % 2 ^ 32, isUptime := false }
          else { time := s.clock.uptime, isUptime := true }) else x.age.lastTest) ∧
        v.age.state = .recharging ∧ v.age.rechargeStart = some s.now ∧
        v.age.rechargeExpiry = some (s.now + d.holdHours * 3600) ∧
        v.age.history = onNewest (fun r => if r.isOpen then
          { ended r with awaitingClose := true, kind := if cause = .none then r.kind else .testAborted } else r) ∧
        ∃ y ∈ t.notices.queue, y.cabinet = u.cabinet ∧ y.slot = u.slot ∧ some y.permit = s.test.permit ∧
          (cause = .none → y.kind = .testDone ∧ y.value = result % 2 ^ 32 ∧ y.result = s.test.locked) ∧
          (cause ≠ .none → y.kind = .testFailed ∧ y.result = cause.code ∧ y.value =
            ((if s.test.phase = .search then 3 else 4) + s.test.level * 256 + results.length * 65536) % 2 ^ 32)
    let endable := fun (p : Permit) => s.par.permits = [p] ∧ s.test.permit = some p.id ∧ p.holder = 0 ∧ p.bus = u.bus ∧
      k.defn.bus = u.bus ∧ s.NormalBuses ∧ s.test.beginHanded = true ∧ x.age.state = .testing ∧
      s.notices.queue.length ≤ 28 ∧ (∀ e ∈ (s.queueOf u.bus).waiting, e.permit ≠ some p.id) ∧
      ∀ h, (s.queueOf u.bus).inHand = some h → h.entry.permit ≠ some p.id
    (∀ (slot : Nat) (p : TestReadReply), f.request.cls = .testRead slot → (s.test.phase = .search ∨ s.test.phase = .measure) →
      s.test.inHand = some .testRead → check = crc8 (f.request.header :: testReadReplyOctets p) →
      let read := exec (.testReadComplete (.reply p check)) s
      let n := s.test.level
      let charge := min (s.test.charge + p.charge.toNat) (2 ^ 32 - 1)
      let taken := heard.onTest fun t => { t with inHand := none, charge := charge }
      let low := p.deltaShunt.toNat < d.minSignal
      let impedance := min ((p.deltaString.toNat * d.shunt + p.deltaShunt.toNat / 2) / p.deltaShunt.toNat) 99999999
      let results := s.test.results ++ [impedance]
      (p.ready = 0#8 → s.test.notReady < 3 → read = .next (heard.onTest fun t =>
        { t with inHand := none, notReady := t.notReady + 1, timer := .reread, timerDue := s.now + 1 })) ∧
      (p.ready = 0#8 → 3 ≤ s.test.notReady → ∀ q, endable q → ends read .noData s.test.charge 0 s.test.results) ∧
      (p.ready = 1#8 → s.test.phase = .search →
        (low → n < 15 → read = .next (step (n + 1) taken)) ∧
        (low → 15 ≤ n → ∀ q, endable q → ends read .lowSignal charge 0 s.test.results) ∧
        (¬low → read = .next (step n (taken.onTest fun t => { t with locked := n, phase := .measure })))) ∧
      (p.ready = 1#8 → s.test.phase = .measure →
        (low → ∀ q, endable q → ends read .lowSignal charge 0 s.test.results) ∧
        (¬low → results.length < s.test.steps →
          read = .next (step s.test.locked (taken.onTest fun t => { t with results := results }))) ∧
        (¬low → s.test.steps ≤ results.length → ∀ q, endable q → ends read .none charge (match d.combine with
          | .mean => (2 * results.sum + results.length) / (2 * results.length)
          | .max => results.foldl max 0
          | .min => results.foldl min (results.headD 0)
          | .first => results.headD 0) results))) ∧
    (∀ (command : CabinetCommand) (word result : Byte) (w : StateWord), f.request.cls = .command command →
      StateWord.ofByte word = some w → check = crc8 [f.request.header, word, result] → k.track.lastWord = some w →
      k.track.overlay = none → k.track.firstReportPending = false → k.track.bypassCheckPending = false →
      let answered := exec (.commandComplete (.reply { stateWord := word, result := result } check)) s
      (∀ level, command = .testStep level → s.test.inHand = some .testStep → result = 0#8 →
        (s.test.phase = .search ∨ s.test.phase = .measure) →
        answered = .next (heard.onTest fun t =>
          { t with inHand := none, notReady := 0, timer := .step, timerDue := s.now + d.stepTime })) ∧
      (command = .testBegin u.slot → s.test.phase = .begin → s.test.inHand = some .testBegin → result = 0#8 →
        ∀ (p : Permit) (b : BusUnit), s.par.permits = [p] → p.state = .granted → k.defn.bus = u.bus → p.bus = u.bus →
        s.NormalBuses → s.bus u.bus = some b → (∀ y ∈ s.cabinetsOf u.bus, y.2.track.state ≠ .onBattery) →
        (s.known u.bus = true → 0 ≤ (s.strict u.bus b.defn).margin ∧
          (b.defn.minAutonomy = 0 ∨ b.defn.minAutonomy ≤ (s.whatIfTested u.bus b.defn u.cabinet u.slot).autonomy)) →
        (x.age.state = .float ∨ x.age.state = .recharging) → p.isTest = true →
        let closed := onNewest fun r => { ended r with awaitingClose := false }
        let opened : DischargeRec :=
          { kind := .test, start := if s.clock.valid then (s.clock.uptime + s.clock.offset) % 2 ^ 32 else s.clock.uptime,
            startIsUptime := !s.clock.valid, openedAt := s.now, duration := 0, charge := 0, minVoltage := none, isOpen := true,
            awaitingClose := false, cutByStart := false }
        ∃ t v, answered = .next t ∧ others t ∧ t.par = s.par ∧ t.string u.cabinet u.slot = some v ∧ v.defn = d ∧
          v.age.state = .testing ∧ v.age.energy = 0 ∧ v.age.rechargeStart = none ∧ v.age.rechargeExpiry = none ∧
          v.age.calendarWear = x.age.calendarWear ∧ v.age.cycleCharge = x.age.cycleCharge ∧
          v.age.history = closed.drop (closed.length - 7) ++ [opened] ∧
          (d.settleTime ≠ 0 → t.clc = heard.clc ∧ t.test = { s.test with
            inHand := none, beginHanded := true, phase := .settle, timer := .settle, timerDue := s.now + d.settleTime }) ∧
          (d.settleTime = 0 → t.clc = { heard.clc with link := .own, inFlight := flight (.testStep 1) } ∧ t.test = { s.test with
            inHand := some .testStep, beginHanded := true, phase := .search, level := 1, timer := .none })) ∧
      (command = .testBegin u.slot → s.test.phase = .begin → s.test.inHand = some .testBegin → result ≠ 0#8 →
        ∀ p : Permit, s.par.permits = [p] → s.test.permit = some p.id → p.holder = 0 → s.test.holder = 0 → p.bus = u.bus →
        p.cabinet = some u.cabinet → (∃ steps, p.kind = .stringTest u.slot steps) → p.state = .granted → s.NormalBuses →
        s.test.beginHanded = false → (∀ e ∈ (s.queueOf u.bus).waiting, e.permit ≠ some p.id) →
        (∀ h, (s.queueOf u.bus).inHand = some h → h.entry.permit ≠ some p.id) →
        answered = .next (((((heard.onPar fun y => { y with permits := [] }).onTest fun t =>
            { TestContext.initial with last := { outcome := .failed, cause := .cabinet, result := 0, charge := t.charge,
                                                 confirmed := false } }).raise .testFailed { subject with permit := p.id }
              (1 + s.test.level * 256 + s.test.results.length * 65536 + (16 + min result.toNat 4) * 16777216) 1).raise
            .permitEnded { subject with permit := p.id } 258 6).recompute u.bus)) ∧
      (command = .testEnd → s.test.phase = .ending → s.test.inHand = some .testEnd → s.test.endHanded = true →
        s.par.permits = [] →
        answered = .next (heard.onTest fun t =>
          { TestContext.initial with last := { t.last with confirmed := result == 0#8 } })))

/-- Alerts: one that starts on an idle link takes it; an attempt lost to one goes back to the head of its queue; a received one
that is not valid, or from an address no cabinet holds, is dropped; a valid one with the state word already known counts as a
success and raises CABINET_STATE with its cause (R24, R25, R27, R38, R48). The turn pointer that a lost attempt restores is log
9's, and bit 7 of a state word is not kept (log 24). A line that still reads low after the stop keeps the link from being free,
whatever waits (R17, R29); that the link is then IDLE is log 48. -/
def Obligations.AlertsTakeTheLink : Prop :=
  ∀ s : State, s.Quiet →
    (s.clc.link = .idle → exec .alertStart s = .next (s.onClc fun l =>
      { l with link := .alertIn, alertRate := s.floor.linkRate, stuckTimer := true })) ∧
    (s.clc.link ≠ .idle → exec .alertStart s = .next s) ∧
    (∀ f, s.clc.inFlight = some f →
      exec .arbitrationLost s = .next (s.onClc fun l =>
        { l with inFlight := none, link := .alertIn, alertRate := f.rate, stuckTimer := true,
                 slots := match f.request.requester with
                   | .transfer b => l.slots.set b (some f.request)
                   | _ => l.slots,
                 turn := match f.request.requester with
                   | .transfer _ => l.turnBefore
                   | _ => l.turn,
                 testSlot := if f.request.requester = .test then some f.request else l.testSlot,
                 scanQueue := if f.request.requester = .scan then f.request :: l.scanQueue else l.scanQueue })) ∧
    (∀ (header word cause check : Byte) (after : LineLevels), s.clc.link = .alertIn →
      let low := after.lckLow || after.ldaLow
      let idle := s.onClc fun l => { l with link := .idle, stretchWait := false, stuckTimer := low }
      (s.clc.Empty ∨ low = true) →
      ((header.toNat = 0 ∨ 31 < header.toNat ∨ check ≠ crc8 [header, word, cause] ∨ 5 < word.toNat % 8 ∨
          ∀ p ∈ s.definedCabinets, p.2.defn.address ≠ header.toNat) →
        exec (.alertReceived header word cause { check := check, after := after }) s = .next idle) ∧
      (∀ c k w, s.definedCabinets.filter (fun p => p.2.defn.address == header.toNat) = [(c, k)] → 1 ≤ header.toNat →
        header.toNat ≤ 31 → check = crc8 [header, word, cause] → StateWord.ofByte word = some w →
        k.track.lastWord = some w → k.track.unreachable = false → k.track.overlay = none →
        k.track.firstReportPending = false → k.track.bypassCheckPending = false →
        let given := if 1 ≤ cause.toNat ∧ cause.toNat ≤ 7 then cause.toNat else 7
        exec (.alertReceived header word cause { check := check, after := after }) s = .next
          ((idle.setCabinet c (some { k with track := { k.track with failures := 0, lastSuccess := some s.now } })).raise
            .cabinetState { bus := k.defn.bus.val + 1, cabinet := c }
            (given * 65536 + k.track.state.code * 256 + k.track.state.code) 2)))

/-- A POLL whose stretch outlasts its timeout ends so, and LCK is waited for with the stuck-line timer running; as LCK rises
the link is IDLE (R28, R32). -/
def Obligations.StretchTimeoutWaitsForTheClock : Prop :=
  ∀ s : State, s.Quiet →
    (∀ (f : InFlight) (p : Point) (c : Nat) (k : Cabinet), s.clc.inFlight = some f → f.request.requester = .scan →
      f.request.cls = .poll p → f.request.cabinet = c → f.request.counted = true → f.request.credited = true →
      s.cabinet c = some k → 2 ≤ s.scs.outstanding →
      (k.track.unreachable = true ∨ min (k.track.failures + 1) 15 < s.floor.unreachableThreshold) →
      exec .stretchTimeoutExpiry s = .next
        (((s.onClc fun l => { l with inFlight := none, stretchWait := true, stuckTimer := true }).setCabinet c
          (some { k with track := { k.track with failures := min (k.track.failures + 1) 15 } })).onScs fun x =>
          { x with outstanding := x.outstanding - 1,
                   active := x.active.map fun e => if e.entry.cabinet = c ∧ e.entry.point = p then
                     { e with reading := { e.reading with lastOutcome := .stretchTimeout } } else e,
                   scanFailures := if x.active.any fun e => e.entry.cabinet = c ∧ e.entry.point = p then
                     min (x.scanFailures + 1) 65535 else x.scanFailures })) ∧
    (s.clc.link = .own → s.clc.stretchWait = true → s.clc.Empty →
      exec .lckRiseAfterStretch s = .next
        (s.onClc fun l => { l with link := .idle, stretchWait := false, stuckTimer := false })) ∧
    (s.clc.stretchWait = false → exec .lckRiseAfterStretch s = .next s)

/-- The recovery procedure with no attempt in flight and nothing waiting: LINK_STUCK names the lines; the link is IDLE where
both then read high, and DOWN where not, with LINK_DOWN and a retry a second later; each retry counts, and the one that finds
both lines high raises LINK_UP with the number of retries (R29, R30, R31). As the link goes DOWN every request that waits ends
LINK_DOWN: the transfer slots from the bus after the turn pointer round, the test slot, the scan queue from its head (R31). Each
attempt is a failure of its cabinet, here below the threshold (R40). A WITHDRAW of a granted permit and a GO_ONLINE return to the
head of their lane and the spacing starts (R138, R139, R140), a poll's entry has that last outcome (R63), and a TEST_BEGIN's test
fails: TEST_FAILED, PERMIT_ENDED, and its TEST_END ends LINK_DOWN at once (R31, R103, R110, R112; what an idle context keeps and the
detail word counts is log 31). That a GO_ONLINE returns to the head of its lane also before one yielded earlier is log 44. -/
def Obligations.RecoveryFreesTheLinkOrTakesItDown : Prop :=
  ∀ (lines after : LineLevels) (s : State), s.Quiet → s.clc.inFlight = none →
    let code := fun (l : LineLevels) => (if l.lckLow then 1 else 0) + (if l.ldaLow then 2 else 0)
    let stuck := (s.onClc fun l => { l with recoveryFlag := false, stretchWait := false, stuckTimer := false }).raise
      .linkStuck {} (code lines) 0
    let down := (stuck.onClc fun l =>
      { l with link := .down, retryDue := some (s.now + 1), retries := 0, slots := Vector.replicate 4 none, testSlot := none,
               scanQueue := [] }).raise .linkDown {} (code after) 0
    let ended := exec (.stuckLineTimerExpiry lines after) s
    let failed := fun (c n : Nat) (x : State) => match x.cabinet c with
      | none => x
      | some k => x.setCabinet c (some { k with track := { k.track with failures := min (k.track.failures + n) 15 } })
    let below := fun (c n : Nat) => ∀ k, s.cabinet c = some k →
      k.track.unreachable = true ∨ min (k.track.failures + n) 15 < s.floor.unreachableThreshold
    ((s.clc.link = .idle ∨ s.clc.link = .own ∨ s.clc.link = .alertIn) → code lines ≠ 0 →
      (s.clc.Empty → code after = 0 → ended = .next (stuck.onClc fun l => { l with link := .idle })) ∧
      (code after ≠ 0 → s.clc.testSlot = none →
        let turn := s.clc.turn
        let waiting := ([turn + 1, turn + 2, turn + 3, turn].filterMap fun b => s.clc.slots[b]) ++ s.clc.scanQueue
        (∀ (b : Bus) r, s.clc.slots[b] = some r → r.requester = .transfer b ∧ (∃ command, r.cls = .command command) ∧
          ∃ h, (s.queueOf b).inHand = some h ∧ (∀ e ∈ (s.queueOf b).waiting, e.cabinet ≠ h.entry.cabinet) ∧
            (h.used = false ∨ h.entry.command = .cancel ∨ ∃ p, h.entry.permit = some p.id ∧ s.permit p.id = some p ∧ p.bus = b ∧
              (h.entry.command = .withdraw ∧ p.state = .granted ∨ h.entry.command = .goOnline))) →
        (∀ r ∈ s.clc.scanQueue, r.requester = .scan ∧ ((∃ n, r.cls = .freeze n) ∨ ∃ p, r.cls = .poll p)) →
        s.clc.scanQueue.length ≤ 130 →
        (s.clc.scanQueue = [] ∨ s.clc.scanQueue.length < s.scs.outstanding) →
        (∀ r ∈ waiting, below r.cabinet (waiting.filter fun q => q.cabinet == r.cabinet).length) →
        let lost := fun (x : State) (r : LinkRequest) =>
          let heard := match r.cls with
            | .freeze _ => x
            | _ => if r.credited then failed r.cabinet 1 x else x
          match r.requester, r.cls with
          | .transfer b, _ => heard.onQueue b fun q => match q.inHand with
            | none => q
            | some h =>
              let back := h.used && h.entry.command != .cancel
              let first := h.entry.command == .goOnline && (h.entry.permit.bind s.permit).any fun p => p.yielded
              { priority := if back && first then h.entry :: q.priority else q.priority,
                ordinary := if back && !first then h.entry :: q.ordinary else q.ordinary, inHand := none,
                spacingDue := (s.bus b).map fun u => s.now + u.defn.spacing }
          | _, .poll p => if r.counted then heard.onScs fun y =>
              { y with outstanding := y.outstanding - 1,
                       active := y.active.map fun e => if e.entry.cabinet = r.cabinet ∧ e.entry.point = p then
                         { e with reading := { e.reading with lastOutcome := .linkDown } } else e,
                       scanFailures := if y.active.any fun e => e.entry.cabinet = r.cabinet ∧ e.entry.point = p then
                         min (y.scanFailures + 1) 65535 else y.scanFailures }
            else heard
          | _, _ => if r.counted then heard.onScs fun y => { y with outstanding := y.outstanding - 1 } else heard
        ended = .next (waiting.foldl lost down)) ∧
      (∀ (r : LinkRequest) (u : TestUnit) (p : Permit), code after ≠ 0 → s.clc.slots = Vector.replicate 4 none →
        s.clc.scanQueue = [] → s.clc.testSlot = some r → r.requester = .test → r.cls = .command (.testBegin u.slot) →
        r.cabinet = u.cabinet → r.credited = true → (s.cabinet u.cabinet).isSome → below u.cabinet 2 →
        s.test.phase = .begin → s.test.inHand = some .testBegin → s.test.beginHanded = false → s.test.subject = some u →
        (s.string u.cabinet u.slot).isSome → s.par.permits = [p] → s.test.permit = some p.id → p.holder = 0 →
        s.test.holder = 0 → p.bus = u.bus → p.cabinet = some u.cabinet → (∃ steps, p.kind = .stringTest u.slot steps) →
        p.state = .granted → s.NormalBuses → (∀ e ∈ (s.queueOf u.bus).waiting, e.permit ≠ some p.id) →
        (∀ h, (s.queueOf u.bus).inHand = some h → h.entry.permit ≠ some p.id) →
        let subject : Subject := { bus := u.bus.val + 1, cabinet := u.cabinet, slot := u.slot, permit := p.id }
        ended = .next ((((((failed u.cabinet 2 down).onPar fun y => { y with permits := [] }).onTest fun t =>
            { TestContext.initial with last := { outcome := .failed, cause := .cabinet, result := 0, charge := t.charge,
                                                 confirmed := false } }).raise .testFailed subject
          (1 + s.test.level * 256 + s.test.results.length * 65536 + 4 * 16777216) 1).raise .permitEnded subject 258 6).recompute
            u.bus))) ∧
    (∀ due, s.clc.Empty → s.clc.link = .down → s.clc.retryDue = some due → due ≤ s.now →
      (code after ≠ 0 → exec (.recoveryRetryExpiry after) s = .next
        (s.onClc fun l => { l with retries := l.retries + 1, retryDue := some (s.now + 1) })) ∧
      (code after = 0 → exec (.recoveryRetryExpiry after) s = .next
        ((s.onClc fun l => { l with link := .idle, retryDue := none, retries := 0 }).raise .linkUp {} (s.clc.retries + 1) 0)))

/-! ### Timers and the clock -/

/-- The scanner's timers, with the link busy: the end of the start delay makes the scanner RUNNING and starts the first pass; a
pass tick starts a pass of the entries due in the round, or counts an overrun where the last pass is not over, with
SCAN_OVERRUN once a round (R58, R60, R61, R64; a tick counts at the uptime it fell due, log 29). -/
def Obligations.ScanTimersStartPasses : Prop :=
  ∀ (due : Nat) (s : State), s.Quiet → (s.clc.link = .own ∨ s.clc.link = .alertIn ∨ s.clc.link = .recovery) → due ≤ s.now →
    let sequence := (s.scs.passSequence + 1) % 256
    let polls := fun (entries : List ActiveEntry) (s : State) => s.onClc fun l =>
      { l with scanQueue := l.scanQueue ++
          { requester := .scan, cls := .freeze sequence, cabinet := 0, attempts := 0, begun := false, address := 0, credited := false,
            counted := true } :: entries.map fun e =>
            { requester := .scan, cls := .poll e.entry.point, cabinet := e.entry.cabinet, attempts := 0, begun := false,
              address := ((s.cabinet e.entry.cabinet).map fun k => k.defn.address).getD 0,
              credited := (s.cabinet e.entry.cabinet).isSome, counted := true } }
    (s.scs.scanner = .delayed → s.scs.delayDue = some due →
      exec .scanDelayExpiry s = .next (polls s.scs.active ((s.onScs fun x =>
        { x with scanner := .running, delayDue := none, round := 0, passCount := 0, overrunSeen := false,
                 lastTick := some s.now, nextTick := some (s.now + x.timing.period), passSequence := sequence,
                 outstanding := x.active.length + 1 }).raise .scanRunning {} s.scs.active.length s.scs.startCause))) ∧
    (s.scs.scanner = .running → s.scs.nextTick = some due →
      let next := s.onScs fun x => { x with lastTick := some due, nextTick := some (due + x.timing.period) }
      let dueNow := s.scs.active.filter fun e => s.scs.round % (e.entry.skip + 1) = 0
      (s.scs.outstanding = 0 → exec .passTick s = .next (polls dueNow (next.onScs fun x =>
        { x with passSequence := sequence, outstanding := dueNow.length + 1 }))) ∧
      (s.scs.outstanding ≠ 0 → s.scs.overrunSeen = true → exec .passTick s = .next (next.onScs fun x =>
        { x with overruns := min (x.overruns + 1) 65535 })) ∧
      (s.scs.outstanding ≠ 0 → s.scs.overrunSeen = false → exec .passTick s = .next ((next.onScs fun x =>
        { x with overruns := min (x.overruns + 1) 65535, overrunSeen := true }).raise .scanOverrun {} s.scs.round 0)))

/-- Changes of tracked state. An overlay's deadline ends a withdrawal whose cabinet went on reporting ONLINE: CABINET_STATE, and
PERMIT_ENDED with REFUSED_BY_CABINET (R37, R45, R48, R139). A report, here an alert, under no overlay is stored; it makes an
unreachable cabinet reachable again (R41), is checked for an orphan cabinet and, of a master, for a closed bypass (R46, R47), and CABINET_STATE tells
the change (R39, R48, R49). A reported mode ends an overlay: the withdrawal is complete or failed, the return complete or blocked
(R43, R44, R139, R140). Into ON_BATTERY every string of the cabinet begins to discharge with a new OUTAGE record; out of it the
record awaits its close and the string recharges (R85, R86, R87; bit 7 of a state word is not kept, log 24). That a bypass found
closed reaches the sequencer before the change of tracked state is handed on is log 13; that the link is IDLE, with the stuck-line
timer running, where a line still reads low after the alert's stop is log 48. -/
def Obligations.OverlayDeadlineEndsTheOverlay : Prop :=
  (∀ (c due : Nat) (k : Cabinet) (w : StateWord) (p : Permit) (s : State), s.Quiet → s.cabinet c = some k →
     k.track.overlay = some .withdrawing → k.track.overlayDeadline = some due → due ≤ s.now →
     k.track.unreachable = false → k.track.lastWord = some w → w.mode = .online → s.test.subject = none →
     (s.seqOf k.defn.bus).state = .normal → s.par.permits.filter (fun q => q.bus == k.defn.bus) = [p] →
     (∀ q ∈ s.par.permits, q.cabinet = some c ∨ q.id = p.id → q = p) → p.kind = .withdraw → p.cabinet = some c →
     p.holder = 0 → (p.state = .granted ∨ p.state = .returning) →
     exec (.overlayDeadlineExpiry c) s = .next
       ((((((s.setCabinet c (some { k with
           track := { k.track with overlay := none, overlayDeadline := none, orphan := false } })).raise .cabinetState
         { bus := k.defn.bus.val + 1, cabinet := c } (7 * 256 + 1) 5).onQueue k.defn.bus fun q =>
         { q with priority := q.priority.filter fun e => e.permit != some p.id,
                  ordinary := q.ordinary.filter fun e => e.permit != some p.id,
                  inHand := q.inHand.map fun h => if h.entry.permit = some p.id then { h with used := false } else h }).onPar
         fun x => { x with permits := x.permits.filter fun q => q.id != p.id }).raise .permitEnded
           { bus := k.defn.bus.val + 1, cabinet := c, permit := p.id } (p.state.code * 256) 5).recompute k.defn.bus)) ∧
  (∀ (header word cause check : Byte) (after : LineLevels) (c : Nat) (k : Cabinet) (w : StateWord) (s : State), s.Quiet → s.clc.link = .alertIn →
     s.clc.Empty → s.definedCabinets.filter (fun p => p.2.defn.address == header.toNat) = [(c, k)] → 1 ≤ header.toNat →
     header.toNat ≤ 31 → check = crc8 [header, word, cause] → StateWord.ofByte word = some w → s.test.subject = none →
     let b := k.defn.bus
     let given := if 1 ≤ cause.toNat ∧ cause.toNat ≤ 7 then cause.toNat else 7
     let old := k.track.state
     let new := w.mode.tracked
     let idle := s.onClc fun l =>
       { l with link := .idle, stretchWait := false, stuckTimer := after.lckLow || after.ldaLow }
     let subject : Subject := { bus := b.val + 1, cabinet := c }
     let heard := exec (.alertReceived header word cause { check := check, after := after }) s
     let known : Track :=
       { k.track with lastWord := some w, failures := 0, unreachable := false, lastSuccess := some s.now,
                      unreachableSince := if k.track.unreachable then none else k.track.unreachableSince,
                      firstReportPending := false, bypassCheckPending := false }
     (k.track.overlay = none → s.NoTransfers → old ≠ new → old ≠ .onBattery → new ≠ .onBattery →
       let found := k.track.firstReportPending = true ∧ (w.mode = .standby ∨ w.mode = .isolated)
       let closed := k.track.bypassCheckPending = true ∧ w.bypassClosed = true
       let stored := idle.setCabinet c (some { k with
         track := { known with orphan := decide (w.mode ≠ .online ∧ (k.track.orphan = true ∨ found)) } })
       let back := if k.track.unreachable then
         stored.raise .cabinetRecovered subject (s.now - k.track.unreachableSince.getD s.now) 2 else stored
       let told := back.raise .cabinetState subject (given * 65536 + old.code * 256 + new.code) 2
       let alone := if found then told.raise .orphanCabinet subject new.code 0 else told
       heard = .next (if closed then
         (((alone.raise .orphanBypass subject 0 0).onSeq b fun q => { q with state := .onMaintBypass, orphan := true }).recompute
           b)
         else alone.recompute b)) ∧
     (∀ (o : Overlay) (p : Permit), k.track.overlay = some o → k.track.unreachable = false →
       (∃ v, k.track.lastWord = some v) → k.track.firstReportPending = false → k.track.bypassCheckPending = false →
       (s.seqOf b).state = .normal → s.par.permits.filter (fun q => q.bus == b) = [p] →
       (∀ q ∈ s.par.permits, q.cabinet = some c ∨ q.id = p.id → q = p) → p.kind = .withdraw → p.cabinet = some c →
       p.holder = 0 → (p.state = .granted ∨ p.state = .returning) → p.policy ≠ some .yield →
       let told := (idle.setCabinet c (some { k with
         track := { known with overlay := none, overlayDeadline := none,
                               orphan := k.track.orphan && w.mode != .online } })).raise .cabinetState subject
           (given * 65536 + old.code * 256 + new.code) 2
       let ended := fun (result : Nat) => ((told.onQueue b fun q =>
           { q with priority := q.priority.filter fun e => e.permit != some p.id,
                    ordinary := q.ordinary.filter fun e => e.permit != some p.id,
                    inHand := q.inHand.map fun h => if h.entry.permit = some p.id then { h with used := false } else h }).onPar
         fun x => { x with permits := x.permits.filter fun q => q.id != p.id }).raise .permitEnded
           { subject with permit := p.id } (p.state.code * 256) result
       let blocked := (told.onPermit p.id fun q => { q with state := .returnBlocked }).raise .returnBlocked
         { subject with permit := p.id } new.code 2
       (o = .withdrawing → (w.mode = .standby ∨ w.mode = .isolated) → heard = .next (told.recompute b)) ∧
       (o = .withdrawing → (w.mode = .fault ∨ w.mode = .staticBypass) → heard = .next ((ended 6).recompute b)) ∧
       (o = .returning → w.mode = .online → heard = .next ((ended 1).recompute b)) ∧
       (o = .returning → (w.mode = .fault ∨ w.mode = .isolated) → heard = .next (blocked.recompute b))) ∧
     (∀ slot u, k.slot slot = some u → k.track.overlay = none → s.NoTransfers → k.track.unreachable = false →
       k.track.firstReportPending = false → k.track.bypassCheckPending = false →
       let ended := fun (r : DischargeRec) => if r.isOpen then { r with duration := s.now - r.openedAt, isOpen := false } else r
       let onNewest := fun (g : DischargeRec → DischargeRec) => match u.age.history.getLast? with
         | none => []
         | some r => u.age.history.dropLast ++ [g r]
       let same := fun (t : State) (v : StringUnit) => t.string c slot = some v ∧ v.defn = u.defn ∧
         v.age.calendarWear = u.age.calendarWear ∧ v.age.cycleCharge = u.age.cycleCharge ∧ v.age.window = u.age.window ∧
         t.scs = s.scs ∧ t.clc = idle.clc ∧ t.par = s.par ∧ t.vct = s.vct ∧ t.test = s.test ∧ t.ims = s.ims
       (old ≠ .onBattery → new = .onBattery → u.age.state ≠ .discharging →
         let closed := onNewest fun r =>
           { ended r with awaitingClose := false, kind := if r.isOpen ∧ r.kind = .test then .testAborted else r.kind }
         let opened : DischargeRec :=
           { kind := .outage, start := if s.clock.valid then (s.clock.uptime + s.clock.offset) % 2 ^ 32 else s.clock.uptime,
             startIsUptime := !s.clock.valid, openedAt := s.now, duration := 0, charge := 0, minVoltage := none, isOpen := true,
             awaitingClose := false, cutByStart := false }
         ∃ t v, heard = .next t ∧ same t v ∧ v.age.state = .discharging ∧ v.age.rechargeStart = none ∧
           v.age.rechargeExpiry = none ∧ v.age.history = closed.drop (closed.length - 7) ++ [opened] ∧
           v.age.energy = u.defn.energy * v.age.health / 100) ∧
       (old = .onBattery → new ≠ .onBattery → u.age.state = .discharging →
         ∃ t v, heard = .next t ∧ same t v ∧ v.age.state = .recharging ∧ v.age.rechargeStart = some s.now ∧
           v.age.rechargeExpiry = some (s.now + u.defn.holdHours * 3600) ∧
           v.age.history = onNewest (fun r => if r.isOpen then { ended r with awaitingClose := true } else r) ∧
           v.age.energy = u.defn.energy * v.age.health / 100 / 2)))

/-- The day check: without a valid clock nothing; the first day is taken; a later day brings a rollover for every string and an
ageing save; an earlier one CLOCK_BACKWARD, once (R82, R184). Where several buses are recomputed, that they are met in their
order, A to D, is log 10. -/
def Obligations.DayCheckComparesTheDay : Prop :=
  ∀ s : State, s.Quiet →
    let day := (s.clock.uptime + s.clock.offset) % 2 ^ 32 / 86400
    let dayNow := s.onClock fun k => { k with lastDay := day }
    (s.clock.valid = false → exec .dayCheck s = .next s) ∧
    (s.clock.valid = true →
      (s.clock.lastDay = 0 → exec .dayCheck s = .next dayNow) ∧
      (s.clock.lastDay = day → exec .dayCheck s = .next s) ∧
      (0 < s.clock.lastDay → s.clock.lastDay < day → s.NoTransfers → exec .dayCheck s =
        .next ((dayNow.forStrings fun x c slot => x.ageString c slot (dayWork x.now)).requestAgeingSave).met) ∧
      (day < s.clock.lastDay → s.clock.backwardMark = true → exec .dayCheck s = .next s) ∧
      (day < s.clock.lastDay → s.clock.backwardMark = false → exec .dayCheck s = .next
        ((s.onClock fun k => { k with backwardMark := true }).raise .clockBackward {} (s.clock.lastDay - day) 2)))

/-- The recharge hold of a string expires: FLOAT, the recharge timer stopped, RECHARGE_LONG with the seconds spent; wear, charge
and history stay, and other strings are left alone (R81, R87, R88). -/
def Obligations.RechargeHoldReturnsToFloat : Prop :=
  ∀ (c slot due start : Nat) (k : Cabinet) (u : StringUnit) (s : State), s.Quiet → s.NoTransfers → s.cabinet c = some k →
    k.slot slot = some u → u.age.state = .recharging → u.age.rechargeExpiry = some due → due ≤ s.now →
    u.age.rechargeStart = some start → s.notices.queue.length ≤ 30 →
    ∃ t a, exec (.rechargeHoldExpiry c slot) s = .next t ∧
      t.cabinets = (s.setCabinet c (some (k.setSlot slot (some { u with age := a })))).cabinets ∧ a.state = .float ∧
      a.rechargeStart = none ∧ a.rechargeExpiry = none ∧ a.calendarWear = u.age.calendarWear ∧
      a.cycleCharge = u.age.cycleCharge ∧ a.history = u.age.history ∧ a.window = u.age.window ∧
      a.remainingDays = u.age.remainingDays ∧ a.energy = u.defn.energy * a.health / 100 ∧
      (∃ x ∈ t.notices.queue, x.kind = .rechargeLong ∧ x.cabinet = c ∧ x.slot = slot ∧ x.value = (s.now - start) % 2 ^ 32) ∧
      t.scs = s.scs ∧ t.clc = s.clc ∧ t.par = s.par ∧ t.test = s.test ∧ t.vct = s.vct ∧ t.ims = s.ims ∧ t.outer = s.outer

/-- The waits of a test, with the link busy: the settle wait leads to SEARCH at level 1 with TEST_STEP 1 handed to the link, the
step wait and the wait between readings to TEST_READ (R104, R105). -/
def Obligations.TestWaitsHandTheNextRequest : Prop :=
  ∀ (u : TestUnit) (k : Cabinet) (s : State), s.Quiet → (s.clc.link = .own ∨ s.clc.link = .alertIn ∨ s.clc.link = .recovery) →
    s.test.subject = some u → s.cabinet u.cabinet = some k → s.test.timerDue ≤ s.now → s.test.phase.running = true →
    let hand := fun (cls : TxClass) (s : State) => s.onClc fun l =>
      { l with testSlot := some { requester := .test, cls := cls, cabinet := u.cabinet, attempts := 0, begun := false,
                                  address := k.defn.address, credited := true, counted := true } }
    (s.test.timer = .settle → exec .settleTimerExpiry s = .next (hand (.command (.testStep 1)) (s.onTest fun t =>
      { t with timer := .none, phase := .search, level := 1, inHand := some .testStep }))) ∧
    (s.test.timer = .step → exec .stepTimerExpiry s = .next (hand (.testRead u.slot) (s.onTest fun t =>
      { t with timer := .none, inHand := some .testRead }))) ∧
    (s.test.timer = .reread → exec .rereadTimerExpiry s = .next (hand (.testRead u.slot) (s.onTest fun t =>
      { t with timer := .none, inHand := some .testRead })))

/-- The wait deadline of a permit that is the only one of a NORMAL bus: PERMIT_EXPIRED with the seconds waited, then
PERMIT_ENDED with result EXPIRED, and the permit leaves the table (R134, R147). -/
def Obligations.WaitDeadlineExpiresThePermit : Prop :=
  ∀ (p : Permit) (due : Nat) (s : State), s.Quiet → s.permit p.id = some p → p.state = .waiting → p.deadline = some due →
    due ≤ s.now → p.holder = 0 → (∀ q ∈ s.par.permits, q.bus = p.bus → q.id = p.id) → (s.seqOf p.bus).state = .normal →
    (∀ e ∈ (s.queueOf p.bus).waiting, e.permit ≠ some p.id) →
    (∀ h, (s.queueOf p.bus).inHand = some h → h.entry.permit ≠ some p.id) →
    let subject : Subject := { bus := p.bus.val + 1, cabinet := p.cabinet.getD 0, slot := p.slot, permit := p.id }
    exec (.waitDeadlineExpiry p.id) s =
      .next ((((s.onPar fun x => { x with permits := x.permits.filter fun q => q.id != p.id }).raise .permitExpired
        subject (s.now - p.requestUptime) 0).raise .permitEnded subject p.kind.code 4).recompute p.bus)

/-- The spacing of a bus ends, with the link busy: the first entry of the priority lane, or else of the ordinary lane, is taken
in hand and handed to the link; with none waiting nothing is (R138). A WITHDRAW is marked as sent on its permit, a PREPARE as
handed in the prepared set, a CLOSE as handed on the sequencer (R139, R144). -/
def Obligations.SpacingEndsAndTheNextIsSent : Prop :=
  ∀ (b : Bus) (due : Nat) (s : State), s.Quiet → (s.clc.link = .own ∨ s.clc.link = .alertIn ∨ s.clc.link = .recovery) →
    (s.queueOf b).spacingDue = some due → due ≤ s.now → (s.queueOf b).inHand = none →
    ((s.queueOf b).waiting = [] →
      exec (.transferSpacingExpiry b) s = .next (s.onQueue b fun q => { q with spacingDue := none })) ∧
    (∀ e rest, (s.queueOf b).waiting = e :: rest → (e.command = .withdraw → e.permit ≠ none) →
      let marked : State := match e.command with
        | .withdraw => s.onPar fun x =>
            { x with permits := x.permits.map fun p => if some p.id = e.permit then { p with sent := true } else p }
        | .prepare => s.onSeq b fun q =>
            { q with prepared := q.prepared.map fun x => if x.cabinet = e.cabinet then { x with handed := true } else x }
        | .close => s.onSeq b fun q => { q with closeHanded := true }
        | .goOnline => s
        | .cancel => s
        | .openBypass => s
      exec (.transferSpacingExpiry b) s = .next
        ((marked.onQueue b fun q =>
          { priority := q.priority.tail, ordinary := if q.priority = [] then q.ordinary.tail else q.ordinary,
            inHand := some { entry := e, used := true }, spacingDue := none }).onClc fun l =>
          { l with slots := l.slots.set b (some
              { requester := .transfer b, cls := .command e.command.cabinetCommand, cabinet := e.cabinet, attempts := 0, begun := false,
                address := ((s.cabinet e.cabinet).map fun k => k.defn.address).getD 0,
                credited := (s.cabinet e.cabinet).isSome, counted := true }) }))

/-- The bypass sequencer on the bus of one bypass permit, a spacing running once a command has ended. A PREPARE answered OK is
marked accepted; with the last one the sync timer starts, and where the whole prepared set shows SYNC_OK the sequence goes on to
CLOSING or OPENING with the master's CLOSE or OPEN in the queue (R143 steps 2 and 3, R145 steps 3 and 4). A CLOSE or OPEN answered
OK starts the transfer timer; the master's word then ends the transfer with BYPASS_DONE, and the return also with PERMIT_ENDED
(R143 steps 4 and 5, R145 steps 5 and 6). A report of SYNC_OK or of BYPASS_CLOSED does the same as it arrives (R50). A refused
PREPARE, the sync timer and the transfer timer fail the transfer: its waiting commands go, each cabinet that may have acted is
sent one BYPASS_CANCEL, and BYPASS_FAILED and then PERMIT_ENDED with result FAILED are raised (R143, R144, R147; that the prepared
set is kept on ON_MAINT_BYPASS and emptied on NORMAL, and the mark of the CLOSE cleared on both, is log 17; that bit 7 of a state
word is not kept is log 24; that the link is IDLE, with the stuck-line timer running, where a line still reads low after an
alert's stop is log 48). -/
def Obligations.BypassTimersFailTheTransfer : Prop :=
  ∀ (b : Bus) (p : Permit) (u : BusUnit) (s : State), s.Quiet → s.bus b = some u →
    s.par.permits.filter (fun q => q.bus == b) = [p] → (∀ q ∈ s.par.permits, q.id = p.id → q = p) → p.kind = .busBypass →
    p.cabinet = none → p.holder = 0 → (s.queueOf b).priority = [] → ((s.seqOf b).prepared.map fun x => x.cabinet).Nodup →
    let subject : Subject := { bus := b.val + 1, permit := p.id }
    let handed := ((s.seqOf b).prepared.filter fun x => x.handed).map fun x => x.cabinet
    let cancels := fun (set : List Nat) => set.map fun c => ({ cabinet := c, command := .cancel, permit := none } : TransferEntry)
    let sent := fun (c : Nat) (command : TransferCommand) (t : State) => t.onQueue b fun q =>
      { q with ordinary := [{ cabinet := c, command := command, permit := none }] }
    let seq := fun (t : State) (state : SeqState) (prepared : List Prepared) (since : Option Nat) => t.onSeq b fun q =>
      { state := state, orphan := q.orphan, prepared := prepared, syncDue := none, transferDue := none, closeHanded := false,
        returnSince := since }
    let gone := fun (t : State) => t.onPar fun x => { x with permits := x.permits.filter fun q => q.id != p.id }
    let failed := fun (t : State) (set : List Nat) (result : Nat) =>
      ((((seq (gone t) .normal [] (s.seqOf b).returnSince).onQueue b fun q => { q with ordinary := cancels set }).raise
        .bypassFailed subject 0 result).raise .permitEnded subject (1 + p.state.code * 256) 6).recompute b
    let closed := fun (t : State) =>
      ((seq t .onMaintBypass (s.seqOf b).prepared (s.seqOf b).returnSince).raise .bypassDone subject
        (s.now - p.grantUptime.getD s.now) 1).recompute b
    let synced := fun (w : Nat → Option StateWord) (set : List Prepared) => ∀ x ∈ set, ∃ v, w x.cabinet = some v ∧ v.syncOk = true
    (∀ due spacing, p.state = .granted → (s.queueOf b).ordinary = [] → (s.queueOf b).inHand = none →
      (s.queueOf b).spacingDue = some spacing → due ≤ s.now →
      ((s.seqOf b).state = .preparing → (s.seqOf b).syncDue = some due → (s.seqOf b).closeHanded = false →
        exec (.syncTimerExpiry b) s = .next (failed s handed 1)) ∧
      (∀ m, (s.seqOf b).state = .closing → (s.seqOf b).transferDue = some due → (s.seqOf b).closeHanded = true →
        s.masterOf b = some m →
        exec (.transferTimerExpiry b) s = .next (failed s (if m ∈ handed then handed else handed ++ [m]) 4))) ∧
    (∀ (f : InFlight) (command : CabinetCommand) (entry : TransferCommand) (c : Nat) (k : Cabinet) (word result check : Byte)
       (v w : StateWord), s.clc.Empty → s.clc.link = .own → s.clc.inFlight = some f → f.request.requester = .transfer b →
      f.request.cls = .command command → f.request.cabinet = c → f.request.credited = true → s.cabinet c = some k →
      k.defn.bus = b → StateWord.ofByte word = some w → check = crc8 [f.request.header, word, result] →
      k.track.lastWord = some v → v.mode = w.mode → k.track.unreachable = false → k.track.overlay = none →
      k.track.firstReportPending = false → k.track.bypassCheckPending = false → s.test.subject = none →
      (s.queueOf b).inHand = some { entry := { cabinet := c, command := entry, permit := none }, used := true } →
      let ended := exec (.commandComplete (.reply { stateWord := word, result := result } check)) s
      let heard := ((s.onClc fun l => { l with inFlight := none, link := .idle, stretchWait := false,
                                                stuckTimer := false }).setCabinet c
        (some { k with track := { k.track with lastWord := some w, failures := 0, lastSuccess := some s.now } })).onQueue b
          fun q => { q with inHand := none, spacingDue := some (s.now + u.defn.spacing) }
      (command = .bypassPrepare → entry = .prepare → (∃ x ∈ (s.seqOf b).prepared, x.cabinet = c ∧ x.accepted = false) →
        let accepted := (s.seqOf b).prepared.map fun x => if x.cabinet = c then { x with accepted := true } else x
        let all := ∀ x ∈ accepted, x.accepted = true
        (result = 0#8 → ((s.seqOf b).state = .preparing ∨ (s.seqOf b).state = .rePreparing) →
          (¬all → ended = .next (heard.onSeq b fun q => { q with prepared := accepted })) ∧
          (all → ¬synced heard.wordOf accepted → ended = .next (heard.onSeq b fun q =>
            { q with prepared := accepted, syncDue := some (s.now + u.defn.syncTimeout) })) ∧
          (∀ m, all → synced heard.wordOf accepted → s.masterOf b = some m → (s.queueOf b).ordinary = [] →
            ended = .next (if (s.seqOf b).state = .preparing then
              (sent m .close (heard.onSeq b fun q =>
                { q with state := .closing, prepared := accepted, syncDue := none })).recompute b
            else (sent m .openBypass (heard.onSeq b fun q =>
                { q with state := .opening, prepared := accepted, syncDue := none })).recompute b))) ∧
        (result ≠ 0#8 → (s.seqOf b).state = .preparing → p.state = .granted → (s.seqOf b).closeHanded = false →
          (∀ e ∈ (s.queueOf b).ordinary, e.command = .prepare) → ended = .next (failed heard handed 2))) ∧
      (s.masterOf b = some c → (s.seqOf b).transferDue = none → result = 0#8 → (s.queueOf b).ordinary = [] →
        let moved := heard.onSeq b fun q => { q with transferDue := some (s.now + u.defn.transferTimeout) }
        (command = .bypassClose → entry = .close → (s.seqOf b).state = .closing → p.returnOrdered = false →
          p.state = .granted → (s.seqOf b).syncDue = none →
          (w.bypassClosed = false → ended = .next moved) ∧ (w.bypassClosed = true → ended = .next (closed heard))) ∧
        (command = .bypassOpen → entry = .openBypass → (s.seqOf b).state = .opening → p.state = .returning →
          (s.seqOf b).syncDue = none → (s.seqOf b).closeHanded = false →
          (w.bypassClosed = true → ended = .next moved) ∧
          (w.bypassClosed = false → ended = .next
            (((seq (gone heard) .normal [] none).raise .bypassDone subject
              (s.now - (s.seqOf b).returnSince.getD s.now) 2).raise .permitEnded subject 513 1 |>.recompute b))))) ∧
    (∀ (header word cause check : Byte) (after : LineLevels) (c : Nat) (k : Cabinet) (v w : StateWord), s.clc.link = .alertIn → s.clc.Empty →
      s.definedCabinets.filter (fun x => x.2.defn.address == header.toNat) = [(c, k)] → 1 ≤ header.toNat →
      header.toNat ≤ 31 → check = crc8 [header, word, cause] → StateWord.ofByte word = some w → k.defn.bus = b →
      k.track.lastWord = some v → v.mode = w.mode → k.track.unreachable = false → k.track.overlay = none →
      k.track.firstReportPending = false → k.track.bypassCheckPending = false → s.test.subject = none →
      p.state = .granted → (s.queueOf b).ordinary = [] → ∀ spacing, (s.queueOf b).spacingDue = some spacing →
      let ended := exec (.alertReceived header word cause { check := check, after := after }) s
      let given := if 1 ≤ cause.toNat ∧ cause.toNat ≤ 7 then cause.toNat else 7
      let told := ((s.onClc fun l =>
          { l with link := .idle, stretchWait := false, stuckTimer := after.lckLow || after.ldaLow }).setCabinet c
          (some { k with track := { k.track with lastWord := some w, failures := 0, lastSuccess := some s.now } })).raise
        .cabinetState { bus := b.val + 1, cabinet := c }
          (given * 65536 + k.track.state.code * 256 + k.track.state.code) 2
      (∀ m, (s.seqOf b).state = .preparing → v.syncOk = false → w.syncOk = true → s.masterOf b = some m →
        (∀ x ∈ (s.seqOf b).prepared, x.accepted = true) → synced told.wordOf (s.seqOf b).prepared →
        ended = .next ((sent m .close (told.onSeq b fun q => { q with state := .closing, syncDue := none })).recompute b)) ∧
      (∀ due, (s.seqOf b).state = .closing → v.bypassClosed = false → w.bypassClosed = true → s.masterOf b = some c →
        (s.seqOf b).transferDue = some due → (s.seqOf b).syncDue = none → p.returnOrdered = false →
        ended = .next (closed told)))

/-- The times of a visit: its start activates it, with its locks, or sets it waiting for them; its deadline makes it OVERDUE with
VISIT_OVERDUE; each reminder raises that again; its close deadline closes it, its last permit re-homed to the host; where that
releases a lock, the visits that wait are taken in booking order, and each whose whole scope is then unlocked is ACTIVE with its
locks and result 1 (R154, R155, R158, R162, R163; `lastOverdue` is the model's field, log 21, and the close sequence past its top
is a free value, log 22). -/
def Obligations.VisitTimesComeDue : Prop :=
  ∀ (v : Visit) (slot : Fin 8) (s : State), s.Quiet → s.vct.slots[slot] = some v →
    (∀ (i : Fin 8) w, s.vct.slots[i] = some w → w.id = v.id → i = slot) →
    let put := fun (v : Visit) => s.onVct fun x => { x with slots := x.slots.set slot (some v) }
    let reminder := if s.floor.reminderMin = 0 then none else some (s.now + 60 * s.floor.reminderMin)
    let late := fun (d : Nat) => s.now - d
    (v.state = .booked → v.waitingLock = false → s.clock.valid = true → v.bookedStart ≤ s.clock.floorTime →
      (v.level = .observe → exec (.visitStartArrival v.id) s = .next
        ((put { v with state := .active, activation := some s.now, deadline := some (s.now + 60 * v.duration) }).raise
          .visitActive { visit := v.id } v.credential 0)) ∧
      (v.level ≠ .observe → (∀ c ∈ v.scope, s.lockOf c = none) → exec (.visitStartArrival v.id) s = .next
        (((put { v with state := .active, activation := some s.now, deadline := some (s.now + 60 * v.duration) }).onVct fun x =>
          { x with locks := Vector.ofFn fun i : Fin 24 => if i.val + 1 ∈ v.scope then some v.id else x.locks[i] }).raise
            .visitActive { visit := v.id } v.credential 0)) ∧
      (v.level ≠ .observe → (∃ c ∈ v.scope, s.lockOf c ≠ none) → exec (.visitStartArrival v.id) s = .next
        (put { v with waitingLock := true }))) ∧
    (∀ due, v.state = .active → v.deadline = some due → due ≤ s.now → exec (.visitDeadlineExpiry v.id) s = .next
      ((put { v with state := .overdue, report := { v.report with overdue := true }, lastOverdue := some s.now,
                     nextReminder := reminder }).raise .visitOverdue { visit := v.id } (late due) 0)) ∧
    (∀ due d, v.state = .overdue → v.nextReminder = some due → due ≤ s.now → v.deadline = some d →
      exec (.overdueReminderExpiry v.id) s = .next
        ((put { v with lastOverdue := some s.now, nextReminder := reminder }).raise .visitOverdue { visit := v.id } (late d) 1)) ∧
    (∀ due p (waiting : List Visit), v.state = .closing → v.closeDeadline = some due → due ≤ s.now → v.closeSet = [p.id] →
      s.permit p.id = some p → v.replaced = [] → v.actions ≤ 65535 → v.report.ended ≤ 255 → v.report.rehomed ≤ 254 →
      waiting.Perm (s.visits.filter fun w => w.state = .booked ∧ w.waitingLock = true) →
      waiting.Pairwise (fun v w => v.sequence < w.sequence) →
      let mismatch := v.expected.any fun n => n != v.actions
      let sequence := if s.vct.closes < 2 ^ 32 - 1 then s.vct.closes + 1 else Config.closePastTop % 2 ^ 32
      let take := fun (x : State) (w : Visit) => if ∀ c ∈ w.scope, x.lockOf c = none then
          ((x.onVisit w.id fun y => { y with state := .active, activation := some s.now,
                                             deadline := some (s.now + 60 * y.duration), waitingLock := false }).onVct fun y =>
            { y with locks := if w.level = .observe then y.locks else Vector.ofFn fun i : Fin 24 =>
                if i.val + 1 ∈ w.scope then some w.id else y.locks[i] }).raise .visitActive { visit := w.id } w.credential 1
        else x
      let closed := ((s.onPermit p.id fun q => { q with holder := 0, policy := some .onRequest }).onVct fun x =>
          { x with
            slots := x.slots.set slot (some
              { v with state := .closed, closeDeadline := none, closeSet := [], closeSequence := some sequence,
                       report := { v.report with result := some .incomplete, mismatch := mismatch,
                                                 rehomed := v.report.rehomed + 1 } }),
            locks := x.locks.map fun l => if l = some v.id then none else l, closes := sequence }).raise .visitClosed
          { visit := v.id } (v.actions + v.report.ended * 65536 + (v.report.rehomed + 1) * 16777216)
          (2 + if mismatch then 2 else 0)
      exec (.closeDeadlineExpiry v.id) s = .next
        (if ∃ i : Fin 24, s.vct.locks[i] = some v.id then waiting.foldl take closed else closed))

/-! ### The image store -/

/-- The end of a write: a good read-back makes the image the snapshot and valid; a bad one leaves it corrupt with STORE_FAULT; a
further save that is pending then begins (its length a free value, log 6), of the ageing image with every string accrued first
and the saved time of R90; with no write in progress nothing happens (R74, R90, R186; that the saved time which an unset clock
gives is taken modulo 2^32 is the model's choice, log 26; that the pending configuration save is made also where no bus is
defined any more is log 42). Where several buses are recomputed, that they are met in their order, A to D, is log 10. -/
def Obligations.ImageWriteEnds : Prop :=
  ∀ s : State, s.Quiet →
    (s.ims.configSave = .idle → ∀ ok, exec (.imageWriteEnd .configuration ok) s = .next s) ∧
    (s.ims.ageingSave = .idle → ∀ ok, exec (.imageWriteEnd .ageing ok) s = .next s) ∧
    (∀ image, s.ims.configSave = .saving image false →
      exec (.imageWriteEnd .configuration true) s = .next
        (s.onIms fun i => { i with config := image, configStatus := .valid, configSave := .idle }) ∧
      exec (.imageWriteEnd .configuration false) s = .next
        ((s.onIms fun i => { i with
          config := { image with header := { image.header with crcMatches := false } }, configStatus := .corrupt,
          configSave := .idle }).raise .storeFault {} (image.header.length.octets 8192) 1)) ∧
    (∀ image, s.ims.configSave = .saving image true →
      let next := SaveState.saving
        { header := { length := .written s.freeCount, format := .current, savedTime := 0, crcMatches := true },
          body := s.configBody } false
      exec (.imageWriteEnd .configuration true) s = .next
        ((s.onIms fun i => { i with config := image, configStatus := .valid, configSave := next }).onFreeCount (· + 1)) ∧
      exec (.imageWriteEnd .configuration false) s = .next
        (((s.onIms fun i => { i with
          config := { image with header := { image.header with crcMatches := false } }, configStatus := .corrupt,
          configSave := next }).onFreeCount (· + 1)).raise .storeFault {} (image.header.length.octets 8192) 1)) ∧
    (∀ image ok, s.ims.ageingSave = .saving image true → s.NoTransfers →
      let written := if ok then s.onIms fun i => { i with ageing := image, ageingStatus := .valid }
        else (s.onIms fun i => { i with
          ageing := { image with header := { image.header with crcMatches := false } },
          ageingStatus := .corrupt }).raise .storeFault {} (image.header.length.octets 20480) 2
      let savedTime := if s.clock.valid then (s.clock.uptime + s.clock.offset) % 2 ^ 32
        else if s.loadedSaved ≠ 0 then (s.loadedSaved + s.clock.uptime) % 2 ^ 32 else 0
      exec (.imageWriteEnd .ageing ok) s = .next
        ((written.accrueAll.onIms fun i => { i with
          ageingSave := .saving
            { header := { length := .written s.freeCount, format := .current, savedTime := savedTime, crcMatches := true },
              body := written.accrueAll.ageingBody } false }).onFreeCount (· + 1)).met) ∧
    (∀ image, s.ims.ageingSave = .saving image false →
      exec (.imageWriteEnd .ageing true) s = .next
        (s.onIms fun i => { i with ageing := image, ageingStatus := .valid, ageingSave := .idle }) ∧
      exec (.imageWriteEnd .ageing false) s = .next
        ((s.onIms fun i => { i with
          ageing := { image with header := { image.header with crcMatches := false } }, ageingStatus := .corrupt,
          ageingSave := .idle }).raise .storeFault {} (image.header.length.octets 20480) 2))

/-! ### Figures -/

/-- The samples of a round are combined by each mode: the mean to the nearest whole number with a half upward, the greatest, the
least, the first; currents and temperatures are signed and every other point unsigned (R65). The reading record of an entry at a
round end is fresh with samples; held, and stale from the floor's stale rounds on, without; kept where it has never had a sample
or is not due; the last outcome stays (R66). The round end as a step, at the unanswered POLL that is the last of the round's last
pass: every reading record is so stored, the pending copy is applied with the records carried over by pair (R56), the round and its
counts move on (R67), every string has the round's ageing work with the values just stored (R89), and every bus, its first round
seen, has its strict figures and security anew (R113, R118, R121). -/
def Obligations.RoundEndStoresTheReadings : Prop :=
  ((∀ (v : Int) (rest : List Int) (a : ActiveEntry) (k total stale : Nat), a.entry.due k = true →
     a.samples = (v :: rest).foldl Samples.add .initial →
     let n : Int := (v :: rest).length
     (a.store k total stale).reading.value = match a.entry.combine with
       | .mean => Int.floor (((2 * (v :: rest).sum + n : Int) : ℚ) / ((2 * n : Int) : ℚ))
       | .max => rest.foldl max v
       | .min => rest.foldl min v
       | .first => v) ∧
   ∀ (p : Point) (x : BitVec 32), p.valueOf x = match p with
     | .stringCurrent _ => x.toInt
     | .stringTemp _ => x.toInt
     | .state => 0
     | .outputPower => x.toNat
     | .stringVoltage _ => x.toNat
     | .stringCharge _ => x.toNat) ∧
  (∀ (a : ActiveEntry) (k total stale : Nat),
     let r := a.reading
     let t := (a.store k total stale).reading
     t.lastOutcome = r.lastOutcome ∧ (a.store k total stale).entry = a.entry ∧
     (k % (a.entry.skip + 1) ≠ 0 → t = r) ∧
     (k % (a.entry.skip + 1) = 0 → 1 ≤ a.samples.count →
       t.round = total ∧ t.quality = .fresh ∧ t.held = 0 ∧ t.value = a.samples.combine a.entry.combine) ∧
     (k % (a.entry.skip + 1) = 0 → a.samples.count = 0 → r.quality = .none → t = r) ∧
     (k % (a.entry.skip + 1) = 0 → a.samples.count = 0 → r.quality ≠ .none →
       t.value = r.value ∧ t.round = r.round ∧ t.held = min (r.held + 1) 255 ∧
       t.quality = if r.quality = .stale ∨ stale ≤ min (r.held + 1) 255 then .stale else .held)) ∧
  (∀ (f : InFlight) (p : Point) (c : Nat) (k : Cabinet) (s : State), s.Quiet → s.clc.Empty → s.clc.link = .own →
     s.clc.inFlight = some f → f.request.requester = .scan → f.request.cls = .poll p → f.request.cabinet = c →
     f.request.counted = true → f.request.credited = true → s.cabinet c = some k → s.NoTransfers →
     (k.track.unreachable = true ∨ min (k.track.failures + 1) 15 < s.floor.unreachableThreshold) →
     s.scs.outstanding = 1 → s.scs.timing.average ≤ s.scs.passCount + 1 →
     let asked := fun (e : ScanEntry) => e.cabinet = c ∧ e.point = p
     let total := (s.scs.totalRounds + 1) % 2 ^ 32
     let stored := (s.scs.active.map fun e =>
       if asked e.entry then { e with reading := { e.reading with lastOutcome := .noAnswer } } else e).map fun e =>
         e.store s.scs.round total s.floor.staleRounds
     let old := fun (e : ScanEntry) => (stored.find? fun a => a.entry.cabinet == e.cabinet && a.entry.point == e.point).map
       fun a => a.reading
     let timing := s.scs.pendingTiming
     let scs : Scs := { s.scs with
       active := s.scs.pendingList.map fun e => { entry := e, reading := (old e).getD .initial, samples := .initial },
       timing := timing, round := (s.scs.round + 1) % 2 ^ 32, passCount := 0, totalRounds := total, outstanding := 0,
       overrunSeen := false,
       scanFailures := if s.scs.active.any (fun e => asked e.entry) then min (s.scs.scanFailures + 1) 65535
         else s.scs.scanFailures,
       nextTick := if timing.period = s.scs.timing.period then s.scs.nextTick
         else s.scs.lastTick.map fun t => max (t + timing.period) s.now }
     let fresh := fun (c : Nat) (p : Point) =>
       (scs.active.find? fun e => e.entry.cabinet == c && e.entry.point == p).bind fun e =>
         if e.reading.quality = .fresh ∧ e.reading.round = total then some e.reading.value else none
     ∃ t, exec (.pollComplete .notAcknowledged) s = .next t ∧ t.scs = scs ∧
       t.clc = { s.clc with inFlight := none, link := .idle, stretchWait := false, stuckTimer := false } ∧
       (∀ x, (t.cabinet x).map (fun y => (y.defn, y.track)) = (s.cabinet x).map fun y => (y.defn,
         if x = c then { y.track with failures := min (y.track.failures + 1) 15 } else y.track)) ∧
       (∀ x slot, t.string x slot = (s.string x slot).map fun u => { u with age :=
         (roundWork s.now (fresh x (.stringTemp slot)) (fresh x (.stringCharge slot)) (fresh x (.stringVoltage slot))
           (fresh x (.stringCurrent slot)) u.defn u.age).age }) ∧
       (∀ b, t.bus b = (s.bus b).map fun u =>
         let f := t.strict b u.defn
         { u with fig :=
           { load := f.load, uncertain := decide (0 < f.uncertainCount), uncertainCount := f.uncertainCount, online := f.online,
             capacity := f.capacity, required := f.required, spare := f.spare, margin := f.margin, energy := f.energy,
             autonomy := f.autonomy, roundSeen := true,
             security := if ∃ y ∈ t.cabinetsOf b, y.2.track.state = .unknown then .unknown
               else if f.margin < 0 ∨ (0 < u.defn.minAutonomy ∧ f.autonomy < u.defn.minAutonomy) then .deficit
               else .secure } }) ∧
       t.par = s.par ∧ t.vct = s.vct ∧ t.test = s.test ∧ t.ims = s.ims ∧ t.clock = s.clock ∧ t.outer = s.outer)

/-- The online set of a bus holds, each once, the defined cabinets of the bus whose tracked state is ONLINE or ON_BATTERY and
which no WITHDRAW permit past its wait names; its number and the sum of the ratings, in 0.1 kW, are the online count and the
capacity (R114). The load adds each of their OUTPUT_POWER readings in the active list, whatever its quality but NONE, a figure
without a sign; the ones that are not FRESH or have no entry are uncertain (R115). The required capacity is the load with its
headroom, rounded up; the spare count is the largest number of the largest ratings whose loss leaves it, and −1 where even none
leaves it; the margin is the spare count less the reserve (R116). The energy is that of every defined string of the online
cabinets; the autonomy is the minutes it lasts at the load, at most 65,535, which also stands for no load (R117). -/
def Obligations.StrictFiguresOfABus : Prop :=
  (∀ (s : State) (b : Bus) (d : BusRec),
     let f := s.strict b d
     let reading := fun (c : Nat) => (s.scs.active.find? fun e => e.entry.cabinet = c ∧ e.entry.point = .outputPower).map
       fun e => e.reading
     (∀ c k, (c, k) ∈ s.onlineSet b ↔ s.cabinet c = some k ∧ k.defn.bus = b ∧
       (k.track.state = .online ∨ k.track.state = .onBattery) ∧
       ∀ p ∈ s.par.permits, p.kind = .withdraw → p.cabinet = some c →
         p.state ≠ .granted ∧ p.state ≠ .returning ∧ p.state ≠ .returnBlocked) ∧
     ((s.onlineSet b).map fun x => x.1).Nodup ∧ f.online = (s.onlineSet b).length ∧
     f.load = ((s.onlineSet b).map fun x => match reading x.1 with
       | none => 0
       | some r => if r.quality = .none then 0 else r.value.toNat).sum ∧
     f.uncertainCount = ((s.onlineSet b).filter fun x => match reading x.1 with
       | none => true
       | some r => decide (r.quality ≠ .fresh)).length ∧
     f.uncertain = decide (0 < f.uncertainCount)) ∧
  (∀ (s : State) (b : Bus) (d : BusRec),
     let f := s.strict b d
     let ratings : List Nat := ((s.onlineSet b).map fun p => p.2.defn.rating * 10).insertionSort (· ≥ ·)
     let left := fun (k : Nat) => (ratings.sum : Int) - (ratings.take k).sum
     f.required = Nat.ceil (((f.load * (100 + d.headroom) : Nat) : ℚ) / 100) ∧ f.capacity = ratings.sum ∧
     (left 0 < f.required → f.spare = -1) ∧
     ((f.required : Int) ≤ left 0 →
       ∃ k, f.spare = (k : Nat) ∧ k ≤ ratings.length ∧ (f.required : Int) ≤ left k ∧
         ∀ j, j ≤ ratings.length → (f.required : Int) ≤ left j → j ≤ k) ∧
     f.margin = f.spare - d.reserve) ∧
  (∀ (s : State) (b : Bus) (d : BusRec),
     let f := s.strict b d
     f.energy = ((s.onlineSet b).flatMap fun p => [1, 2, 3, 4].map fun slot => match p.2.slot slot with
       | some u => u.age.energy
       | none => 0).sum ∧
     (0 < f.load → f.autonomy = min (Nat.floor (((60 * f.energy : Nat) : ℚ) / ((f.load * 100 : Nat) : ℚ))) 65535) ∧
     (f.load = 0 → f.autonomy = 65535))

/-- The withdrawal what-if: the candidate's rating and its strings' energy leave, its load stays; for a candidate outside the
online set it is the strict figures (R122). The test what-if: the string's energy alone leaves (R123). The pending-credit figures:
the cabinets of RETURNING withdrawals join with their ratings and energy, and the load stays (R124). The return-check figures: the
set is the ONLINE cabinets that no WITHDRAW permit past its wait names, with their readings, ratings and energy (R125). -/
def Obligations.WhatIfFigures : Prop :=
  ∀ (s : State) (b : Bus) (d : BusRec) (c : Nat),
    let f := s.strict b d
    let autonomy := fun (g : Figures) => if g.load = 0 then 65535 else min (60 * g.energy / (g.load * 100)) 65535
    let sameLoad := fun (g : Figures) => g.load = f.load ∧ g.uncertainCount = f.uncertainCount ∧ g.required = f.required ∧
      g.autonomy = autonomy g ∧ g.margin = g.spare - d.reserve
    let spareOf := fun (set : List (Nat × Cabinet)) (g : Figures) =>
      let ratings : List Nat := (set.map fun p => p.2.defn.rating * 10).insertionSort (· ≥ ·)
      let enough := fun (k : Nat) => (g.required : Int) ≤ (ratings.sum : Int) - (ratings.take k).sum
      (¬enough 0 → g.spare = -1) ∧
      (enough 0 → ∃ k, g.spare = (k : Nat) ∧ k ≤ ratings.length ∧ enough k ∧ ∀ j, j ≤ ratings.length → enough j → j ≤ k)
    (∀ k, (c, k) ∈ s.onlineSet b →
      let g := s.whatIfWithdrawn b d c
      sameLoad g ∧ g.online + 1 = f.online ∧ g.capacity + k.defn.rating * 10 = f.capacity ∧
        g.energy + k.energy = f.energy ∧ spareOf ((s.onlineSet b).filter fun p => p.1 != c) g) ∧
    ((∀ p ∈ s.onlineSet b, p.1 ≠ c) → s.whatIfWithdrawn b d c = f) ∧
    (∀ slot u k, (c, k) ∈ s.onlineSet b → k.slot slot = some u →
      let g := s.whatIfTested b d c slot
      sameLoad g ∧ g.online = f.online ∧ g.capacity = f.capacity ∧ g.spare = f.spare ∧ g.margin = f.margin ∧
        g.energy + u.age.energy = f.energy) ∧
    (∀ slot, (∀ p ∈ s.onlineSet b, p.1 ≠ c) → s.whatIfTested b d c slot = f) ∧
    (let g := s.pendingCredit b d
      let joined := (s.cabinetsOf b).filter fun p => (s.onlineSet b).all (fun q => q.1 != p.1) &&
        s.par.permits.any fun x => x.kind == .withdraw && x.cabinet == some p.1 && x.state == .returning
      sameLoad g ∧ g.online = f.online + joined.length ∧
        g.capacity = f.capacity + (joined.map fun p => p.2.defn.rating * 10).sum ∧
        g.energy = f.energy + (joined.map fun p => p.2.energy).sum ∧ spareOf (s.onlineSet b ++ joined) g) ∧
    (let g := s.returnFigures b d
      let set := (s.cabinetsOf b).filter fun p => p.2.track.state == .online &&
        s.par.permits.all fun x => !(x.kind == .withdraw && x.cabinet == some p.1 && x.state != .waiting)
      let readings := set.map fun p => s.readingOf p.1 .outputPower
      g.load = (readings.map fun o => match o with
        | none => 0
        | some r => if r.quality = .none then 0 else r.value.toNat).sum ∧
      g.uncertainCount = (readings.filter fun o => (o.map fun r => r.quality) != some .fresh).length ∧
      g.online = set.length ∧ g.capacity = (set.map fun p => p.2.defn.rating * 10).sum ∧
      g.required = (g.load * (100 + d.headroom) + 99) / 100 ∧ spareOf set g ∧ g.margin = g.spare - d.reserve ∧
      g.energy = (set.map fun p => p.2.energy).sum ∧ g.autonomy = autonomy g)

/-- The temperature factor of a reading, clamped to 0..700 and rounded to a whole degree, is 256 up to 25 °C, Table 5-3's over the
ten degrees from there, doubles with each 10 °C, never falls as the temperature rises and is at most 5792 (R73). A calendar
accrual adds the factor of the last temperature, or 256 and TEMP_UNKNOWN without one, for every second since the last (R74, R75).
A health recomputation computes the figures of Table 5-2 from the record, each held to its range (R77, R78, R81); more wear or
impedance never raises the health. The charge of a round is the count since the counter base, across the counter's wrap, and
nothing without a base or where the count went backward (R76). The round's work accrues at the round's temperature and stores it,
takes the charge, credits the newest discharge record while it is live, closes one that awaits it, and ends a recharge (R88, R89).
The day's work pushes the day's wear into the window of eight, moves the boundary, and computes the remaining days with
SERVICE_DUE (R82, R83, R84). A gap is accrued once, where the mark is set, and leaves the last accrual (R91). Work on every string
is done to each on its own record. -/
def Obligations.AgeingFiguresFollowTheRecord : Prop :=
  ((∀ r : Int, (degreesOf r : Int) = Int.floor (((max 0 (min r 700) + 5 : Int) : ℚ) / 10)) ∧
   (∀ d, d ≤ 25 → temperatureFactor d = 256) ∧
   ((List.range 10).map fun r => temperatureFactor (25 + r)) = [256, 274, 294, 315, 338, 362, 388, 416, 446, 478] ∧
   (∀ d, 25 ≤ d → temperatureFactor (d + 10) = 2 * temperatureFactor d) ∧
   (∀ r q : Int, r ≤ q → temperatureFactor (degreesOf r) ≤ temperatureFactor (degreesOf q)) ∧
   (∀ r : Int, temperatureFactor (degreesOf r) ≤ 5792)) ∧
  ((∀ (d : StringRec) (a : AgeRec),
     let t := (healthRecompute d a).age
     let wearAtEnd := d.designLife * 86400 * 256
     t.cycleWear = min (a.cycleCharge * 1000 / (d.capacity * 3600) * (wearAtEnd / d.cycles) / 1000) (2 ^ 40 - 1) ∧
       t.totalWear = min (a.calendarWear + t.cycleWear) (2 ^ 40 - 1) ∧
       t.wearHealth = (if wearAtEnd ≤ t.totalWear then 0
         else 100 - Nat.floor (((100 * t.totalWear : Nat) : ℚ) / (wearAtEnd : ℚ))) ∧
       (t.impHealth : Int) = (if a.baseline = 0 ∨ a.lastImpedance ≤ a.baseline then 100
         else max 0 (100 - Int.floor (((200 * ((a.lastImpedance : Int) - a.baseline) : Int) : ℚ) / (a.baseline : ℚ)))) ∧
       t.health = min t.wearHealth t.impHealth ∧ t.health ≤ 100 ∧
       t.energy = (match a.state with
         | .testing => 0
         | .recharging => d.energy * t.health / 100 / 2
         | .float => d.energy * t.health / 100
         | .discharging => d.energy * t.health / 100) ∧
       t.impFlagged = decide (t.impHealth ≤ d.alarmLevel) ∧
       (healthRecompute d a).raised = (if t.impHealth ≤ d.alarmLevel ∧ a.impFlagged = false then
         [{ kind := .impedanceHigh, value := a.lastImpedance, result := t.impHealth }] else []) ∧
       t.calendarWear = a.calendarWear ∧ t.cycleCharge = a.cycleCharge) ∧
   (∀ (d : StringRec) (w x : Nat), w ≤ x → wearHealthOf d x ≤ wearHealthOf d w) ∧
   (∀ (d : StringRec) (q r : Nat), q ≤ r → cycleWearOf d q ≤ cycleWearOf d r) ∧
   (∀ b l m : Nat, l ≤ m → impHealthOf b m ≤ impHealthOf b l)) ∧
  (∀ (a : AgeRec) (reading : BitVec 32),
     let t := a.takeCharge (some (reading.toNat : Int))
     t.2.counterBase = some reading.toNat ∧
     (a.counterBase = none → t.1 = 0) ∧
     (∀ base : BitVec 32, a.counterBase = some base.toNat →
       ((reading - base).toNat ≤ 2 ^ 31 → t.1 = (reading - base).toNat) ∧
       (2 ^ 31 < (reading - base).toNat → t.1 = 0)) ∧
     t.2.cycleCharge = min (a.cycleCharge + t.1) (2 ^ 48 - 1) ∧ t.2.calendarWear = a.calendarWear ∧
     t.2.history = a.history) ∧
  (∀ (now : Nat) (d : StringRec) (a : AgeRec),
     let factor := match a.lastTemperature with
       | none => 256
       | some degrees => temperatureFactor degrees
     let upToDate := fun (t : AgeRec) => (healthRecompute d t).age = t
     let accrued := fun (f : Nat) => min (a.calendarWear + f * (now - a.lastAccrual)) (2 ^ 40 - 1)
     (let t := (accrue now d a).age
      t.calendarWear = accrued factor ∧ t.lastAccrual = now ∧ t.lastTemperature = a.lastTemperature ∧
        t.tempUnknown = (a.tempUnknown || a.lastTemperature.isNone) ∧ t.cycleCharge = a.cycleCharge ∧
        t.history = a.history ∧ t.window = a.window ∧ t.state = a.state ∧ upToDate t) ∧
     (∀ temperature charge voltage current : Option Int,
       let t := (roundWork now temperature charge voltage current d a).age
       let taken := (a.takeCharge charge).1
       let floats := a.state = .recharging ∧ ∃ i, current = some i ∧ -(d.floatThreshold : Int) ≤ i
       t.lastAccrual = now ∧
       (∀ r, temperature = some r → t.calendarWear = accrued (temperatureFactor (degreesOf r)) ∧
         t.lastTemperature = some (degreesOf r) ∧ t.tempUnknown = false) ∧
       (temperature = none → t.calendarWear = accrued factor ∧ t.lastTemperature = a.lastTemperature ∧
         t.tempUnknown = (a.tempUnknown || a.lastTemperature.isNone)) ∧
       (∀ r, charge = some r → t.cycleCharge = min (a.cycleCharge + taken) (2 ^ 48 - 1) ∧ t.counterBase = some r.toNat) ∧
       (charge = none → taken = 0 ∧ t.cycleCharge = a.cycleCharge ∧ t.counterBase = a.counterBase) ∧
       (a.history = [] → t.history = []) ∧
       (∀ older newest, a.history = older ++ [newest] → t.history = older ++ [
         if newest.isOpen ∨ newest.awaitingClose then
           { newest with charge := min (newest.charge + taken) (2 ^ 32 - 1), awaitingClose := false,
                         minVoltage := match voltage, newest.minVoltage with
                           | none, low => low
                           | some v, none => some (min v.toNat 65534)
                           | some v, some low => some (min low (min v.toNat 65534)) }
         else newest]) ∧
       (floats → t.state = .float ∧ t.rechargeStart = none ∧ t.rechargeExpiry = none) ∧
       (¬floats → t.state = a.state ∧ t.rechargeStart = a.rechargeStart ∧ t.rechargeExpiry = a.rechargeExpiry) ∧
       t.window = a.window ∧ t.boundaryWear = a.boundaryWear ∧ t.remainingDays = a.remainingDays ∧ upToDate t) ∧
     (let b := (accrue now d a).age
      let t := (dayWork now d a).age
      let window := a.window ++ [b.totalWear - a.boundaryWear]
      let wearAtEnd := d.designLife * 86400 * 256
      t.calendarWear = b.calendarWear ∧ t.totalWear = b.totalWear ∧ t.window = window.drop (window.length - 8) ∧
        t.boundaryWear = b.totalWear ∧
        t.remainingDays = (if wearAtEnd ≤ t.totalWear then 0 else if t.window.sum = 0 then 65535
          else min (Nat.floor ((((wearAtEnd - t.totalWear) * t.window.length : Nat) : ℚ) / (t.window.sum : ℚ))) 65535) ∧
        t.dueFlagged = decide (t.remainingDays ≤ d.serviceLead) ∧
        (dayWork now d a).raised = (accrue now d a).raised ++ (if t.remainingDays ≤ d.serviceLead ∧ a.dueFlagged = false then
          [{ kind := .serviceDue, value := t.remainingDays, result := 0 }] else []) ∧ upToDate t) ∧
     (∀ gap : Nat,
       let t := (gapWork gap d a).age
       (a.gapPending = false → t = a ∧ (gapWork gap d a).raised = []) ∧
       (a.gapPending = true → t.calendarWear = min (a.calendarWear + factor * gap) (2 ^ 40 - 1) ∧ t.gapPending = false ∧
         t.lastAccrual = a.lastAccrual ∧ t.cycleCharge = a.cycleCharge ∧ upToDate t))) ∧
  (∀ (work : Nat → StringRec → AgeRec → AgeWork) (s : State) (c slot : Nat),
     (s.forStrings fun x c slot => x.ageString c slot (work x.now)).string c slot =
       (s.string c slot).map fun u => { u with age := (work s.now u.defn u.age).age })
end

