-- ==== Sys2Proof/Laws/State.lean ====
section
/-! SUPPORT. One lemma per part of State per update: what `State.on<Part>` changes, and that it changes nothing else. -/

namespace Sys2Proof.Machine

@[simp] theorem State.onPending_pending (s : State) (f : List Instr → List Instr) : (s.onPending f).pending = f s.pending := rfl
@[simp] theorem State.onPending_power (s : State) (f : List Instr → List Instr) : (s.onPending f).power = s.power := rfl
@[simp] theorem State.onPending_startCause (s : State) (f : List Instr → List Instr) : (s.onPending f).startCause = s.startCause := rfl
@[simp] theorem State.onPending_floor (s : State) (f : List Instr → List Instr) : (s.onPending f).floor = s.floor := rfl
@[simp] theorem State.onPending_buses (s : State) (f : List Instr → List Instr) : (s.onPending f).buses = s.buses := rfl
@[simp] theorem State.onPending_cabinets (s : State) (f : List Instr → List Instr) : (s.onPending f).cabinets = s.cabinets := rfl
@[simp] theorem State.onPending_loadedSaved (s : State) (f : List Instr → List Instr) : (s.onPending f).loadedSaved = s.loadedSaved := rfl
@[simp] theorem State.onPending_clc (s : State) (f : List Instr → List Instr) : (s.onPending f).clc = s.clc := rfl
@[simp] theorem State.onPending_scs (s : State) (f : List Instr → List Instr) : (s.onPending f).scs = s.scs := rfl
@[simp] theorem State.onPending_test (s : State) (f : List Instr → List Instr) : (s.onPending f).test = s.test := rfl
@[simp] theorem State.onPending_par (s : State) (f : List Instr → List Instr) : (s.onPending f).par = s.par := rfl
@[simp] theorem State.onPending_vct (s : State) (f : List Instr → List Instr) : (s.onPending f).vct = s.vct := rfl
@[simp] theorem State.onPending_ims (s : State) (f : List Instr → List Instr) : (s.onPending f).ims = s.ims := rfl
@[simp] theorem State.onPending_clock (s : State) (f : List Instr → List Instr) : (s.onPending f).clock = s.clock := rfl
@[simp] theorem State.onPending_host (s : State) (f : List Instr → List Instr) : (s.onPending f).host = s.host := rfl
@[simp] theorem State.onPending_notices (s : State) (f : List Instr → List Instr) : (s.onPending f).notices = s.notices := rfl
@[simp] theorem State.onPending_agenda (s : State) (f : List Instr → List Instr) : (s.onPending f).agenda = s.agenda := rfl
@[simp] theorem State.onPending_triggers (s : State) (f : List Instr → List Instr) : (s.onPending f).triggers = s.triggers := rfl
@[simp] theorem State.onPending_hold (s : State) (f : List Instr → List Instr) : (s.onPending f).hold = s.hold := rfl
@[simp] theorem State.onPending_freeCount (s : State) (f : List Instr → List Instr) : (s.onPending f).freeCount = s.freeCount := rfl

@[simp] theorem State.onPower_pending (s : State) (f : Power → Power) : (s.onPower f).pending = s.pending := rfl
@[simp] theorem State.onPower_power (s : State) (f : Power → Power) : (s.onPower f).power = f s.power := rfl
@[simp] theorem State.onPower_startCause (s : State) (f : Power → Power) : (s.onPower f).startCause = s.startCause := rfl
@[simp] theorem State.onPower_floor (s : State) (f : Power → Power) : (s.onPower f).floor = s.floor := rfl
@[simp] theorem State.onPower_buses (s : State) (f : Power → Power) : (s.onPower f).buses = s.buses := rfl
@[simp] theorem State.onPower_cabinets (s : State) (f : Power → Power) : (s.onPower f).cabinets = s.cabinets := rfl
@[simp] theorem State.onPower_loadedSaved (s : State) (f : Power → Power) : (s.onPower f).loadedSaved = s.loadedSaved := rfl
@[simp] theorem State.onPower_clc (s : State) (f : Power → Power) : (s.onPower f).clc = s.clc := rfl
@[simp] theorem State.onPower_scs (s : State) (f : Power → Power) : (s.onPower f).scs = s.scs := rfl
@[simp] theorem State.onPower_test (s : State) (f : Power → Power) : (s.onPower f).test = s.test := rfl
@[simp] theorem State.onPower_par (s : State) (f : Power → Power) : (s.onPower f).par = s.par := rfl
@[simp] theorem State.onPower_vct (s : State) (f : Power → Power) : (s.onPower f).vct = s.vct := rfl
@[simp] theorem State.onPower_ims (s : State) (f : Power → Power) : (s.onPower f).ims = s.ims := rfl
@[simp] theorem State.onPower_clock (s : State) (f : Power → Power) : (s.onPower f).clock = s.clock := rfl
@[simp] theorem State.onPower_host (s : State) (f : Power → Power) : (s.onPower f).host = s.host := rfl
@[simp] theorem State.onPower_notices (s : State) (f : Power → Power) : (s.onPower f).notices = s.notices := rfl
@[simp] theorem State.onPower_agenda (s : State) (f : Power → Power) : (s.onPower f).agenda = s.agenda := rfl
@[simp] theorem State.onPower_triggers (s : State) (f : Power → Power) : (s.onPower f).triggers = s.triggers := rfl
@[simp] theorem State.onPower_hold (s : State) (f : Power → Power) : (s.onPower f).hold = s.hold := rfl
@[simp] theorem State.onPower_freeCount (s : State) (f : Power → Power) : (s.onPower f).freeCount = s.freeCount := rfl

@[simp] theorem State.onStartCause_pending (s : State) (f : Nat → Nat) : (s.onStartCause f).pending = s.pending := rfl
@[simp] theorem State.onStartCause_power (s : State) (f : Nat → Nat) : (s.onStartCause f).power = s.power := rfl
@[simp] theorem State.onStartCause_startCause (s : State) (f : Nat → Nat) : (s.onStartCause f).startCause = f s.startCause := rfl
@[simp] theorem State.onStartCause_floor (s : State) (f : Nat → Nat) : (s.onStartCause f).floor = s.floor := rfl
@[simp] theorem State.onStartCause_buses (s : State) (f : Nat → Nat) : (s.onStartCause f).buses = s.buses := rfl
@[simp] theorem State.onStartCause_cabinets (s : State) (f : Nat → Nat) : (s.onStartCause f).cabinets = s.cabinets := rfl
@[simp] theorem State.onStartCause_loadedSaved (s : State) (f : Nat → Nat) : (s.onStartCause f).loadedSaved = s.loadedSaved := rfl
@[simp] theorem State.onStartCause_clc (s : State) (f : Nat → Nat) : (s.onStartCause f).clc = s.clc := rfl
@[simp] theorem State.onStartCause_scs (s : State) (f : Nat → Nat) : (s.onStartCause f).scs = s.scs := rfl
@[simp] theorem State.onStartCause_test (s : State) (f : Nat → Nat) : (s.onStartCause f).test = s.test := rfl
@[simp] theorem State.onStartCause_par (s : State) (f : Nat → Nat) : (s.onStartCause f).par = s.par := rfl
@[simp] theorem State.onStartCause_vct (s : State) (f : Nat → Nat) : (s.onStartCause f).vct = s.vct := rfl
@[simp] theorem State.onStartCause_ims (s : State) (f : Nat → Nat) : (s.onStartCause f).ims = s.ims := rfl
@[simp] theorem State.onStartCause_clock (s : State) (f : Nat → Nat) : (s.onStartCause f).clock = s.clock := rfl
@[simp] theorem State.onStartCause_host (s : State) (f : Nat → Nat) : (s.onStartCause f).host = s.host := rfl
@[simp] theorem State.onStartCause_notices (s : State) (f : Nat → Nat) : (s.onStartCause f).notices = s.notices := rfl
@[simp] theorem State.onStartCause_agenda (s : State) (f : Nat → Nat) : (s.onStartCause f).agenda = s.agenda := rfl
@[simp] theorem State.onStartCause_triggers (s : State) (f : Nat → Nat) : (s.onStartCause f).triggers = s.triggers := rfl
@[simp] theorem State.onStartCause_hold (s : State) (f : Nat → Nat) : (s.onStartCause f).hold = s.hold := rfl
@[simp] theorem State.onStartCause_freeCount (s : State) (f : Nat → Nat) : (s.onStartCause f).freeCount = s.freeCount := rfl

@[simp] theorem State.onFloor_pending (s : State) (f : FloorRec → FloorRec) : (s.onFloor f).pending = s.pending := rfl
@[simp] theorem State.onFloor_power (s : State) (f : FloorRec → FloorRec) : (s.onFloor f).power = s.power := rfl
@[simp] theorem State.onFloor_startCause (s : State) (f : FloorRec → FloorRec) : (s.onFloor f).startCause = s.startCause := rfl
@[simp] theorem State.onFloor_floor (s : State) (f : FloorRec → FloorRec) : (s.onFloor f).floor = f s.floor := rfl
@[simp] theorem State.onFloor_buses (s : State) (f : FloorRec → FloorRec) : (s.onFloor f).buses = s.buses := rfl
@[simp] theorem State.onFloor_cabinets (s : State) (f : FloorRec → FloorRec) : (s.onFloor f).cabinets = s.cabinets := rfl
@[simp] theorem State.onFloor_loadedSaved (s : State) (f : FloorRec → FloorRec) : (s.onFloor f).loadedSaved = s.loadedSaved := rfl
@[simp] theorem State.onFloor_clc (s : State) (f : FloorRec → FloorRec) : (s.onFloor f).clc = s.clc := rfl
@[simp] theorem State.onFloor_scs (s : State) (f : FloorRec → FloorRec) : (s.onFloor f).scs = s.scs := rfl
@[simp] theorem State.onFloor_test (s : State) (f : FloorRec → FloorRec) : (s.onFloor f).test = s.test := rfl
@[simp] theorem State.onFloor_par (s : State) (f : FloorRec → FloorRec) : (s.onFloor f).par = s.par := rfl
@[simp] theorem State.onFloor_vct (s : State) (f : FloorRec → FloorRec) : (s.onFloor f).vct = s.vct := rfl
@[simp] theorem State.onFloor_ims (s : State) (f : FloorRec → FloorRec) : (s.onFloor f).ims = s.ims := rfl
@[simp] theorem State.onFloor_clock (s : State) (f : FloorRec → FloorRec) : (s.onFloor f).clock = s.clock := rfl
@[simp] theorem State.onFloor_host (s : State) (f : FloorRec → FloorRec) : (s.onFloor f).host = s.host := rfl
@[simp] theorem State.onFloor_notices (s : State) (f : FloorRec → FloorRec) : (s.onFloor f).notices = s.notices := rfl
@[simp] theorem State.onFloor_agenda (s : State) (f : FloorRec → FloorRec) : (s.onFloor f).agenda = s.agenda := rfl
@[simp] theorem State.onFloor_triggers (s : State) (f : FloorRec → FloorRec) : (s.onFloor f).triggers = s.triggers := rfl
@[simp] theorem State.onFloor_hold (s : State) (f : FloorRec → FloorRec) : (s.onFloor f).hold = s.hold := rfl
@[simp] theorem State.onFloor_freeCount (s : State) (f : FloorRec → FloorRec) : (s.onFloor f).freeCount = s.freeCount := rfl

@[simp] theorem State.onBuses_pending (s : State) (f : Vector (Option BusUnit) 4 → Vector (Option BusUnit) 4) : (s.onBuses f).pending = s.pending := rfl
@[simp] theorem State.onBuses_power (s : State) (f : Vector (Option BusUnit) 4 → Vector (Option BusUnit) 4) : (s.onBuses f).power = s.power := rfl
@[simp] theorem State.onBuses_startCause (s : State) (f : Vector (Option BusUnit) 4 → Vector (Option BusUnit) 4) : (s.onBuses f).startCause = s.startCause := rfl
@[simp] theorem State.onBuses_floor (s : State) (f : Vector (Option BusUnit) 4 → Vector (Option BusUnit) 4) : (s.onBuses f).floor = s.floor := rfl
@[simp] theorem State.onBuses_buses (s : State) (f : Vector (Option BusUnit) 4 → Vector (Option BusUnit) 4) : (s.onBuses f).buses = f s.buses := rfl
@[simp] theorem State.onBuses_cabinets (s : State) (f : Vector (Option BusUnit) 4 → Vector (Option BusUnit) 4) : (s.onBuses f).cabinets = s.cabinets := rfl
@[simp] theorem State.onBuses_loadedSaved (s : State) (f : Vector (Option BusUnit) 4 → Vector (Option BusUnit) 4) : (s.onBuses f).loadedSaved = s.loadedSaved := rfl
@[simp] theorem State.onBuses_clc (s : State) (f : Vector (Option BusUnit) 4 → Vector (Option BusUnit) 4) : (s.onBuses f).clc = s.clc := rfl
@[simp] theorem State.onBuses_scs (s : State) (f : Vector (Option BusUnit) 4 → Vector (Option BusUnit) 4) : (s.onBuses f).scs = s.scs := rfl
@[simp] theorem State.onBuses_test (s : State) (f : Vector (Option BusUnit) 4 → Vector (Option BusUnit) 4) : (s.onBuses f).test = s.test := rfl
@[simp] theorem State.onBuses_par (s : State) (f : Vector (Option BusUnit) 4 → Vector (Option BusUnit) 4) : (s.onBuses f).par = s.par := rfl
@[simp] theorem State.onBuses_vct (s : State) (f : Vector (Option BusUnit) 4 → Vector (Option BusUnit) 4) : (s.onBuses f).vct = s.vct := rfl
@[simp] theorem State.onBuses_ims (s : State) (f : Vector (Option BusUnit) 4 → Vector (Option BusUnit) 4) : (s.onBuses f).ims = s.ims := rfl
@[simp] theorem State.onBuses_clock (s : State) (f : Vector (Option BusUnit) 4 → Vector (Option BusUnit) 4) : (s.onBuses f).clock = s.clock := rfl
@[simp] theorem State.onBuses_host (s : State) (f : Vector (Option BusUnit) 4 → Vector (Option BusUnit) 4) : (s.onBuses f).host = s.host := rfl
@[simp] theorem State.onBuses_notices (s : State) (f : Vector (Option BusUnit) 4 → Vector (Option BusUnit) 4) : (s.onBuses f).notices = s.notices := rfl
@[simp] theorem State.onBuses_agenda (s : State) (f : Vector (Option BusUnit) 4 → Vector (Option BusUnit) 4) : (s.onBuses f).agenda = s.agenda := rfl
@[simp] theorem State.onBuses_triggers (s : State) (f : Vector (Option BusUnit) 4 → Vector (Option BusUnit) 4) : (s.onBuses f).triggers = s.triggers := rfl
@[simp] theorem State.onBuses_hold (s : State) (f : Vector (Option BusUnit) 4 → Vector (Option BusUnit) 4) : (s.onBuses f).hold = s.hold := rfl
@[simp] theorem State.onBuses_freeCount (s : State) (f : Vector (Option BusUnit) 4 → Vector (Option BusUnit) 4) : (s.onBuses f).freeCount = s.freeCount := rfl

@[simp] theorem State.onCabinets_pending (s : State) (f : Vector (Option Cabinet) 24 → Vector (Option Cabinet) 24) : (s.onCabinets f).pending = s.pending := rfl
@[simp] theorem State.onCabinets_power (s : State) (f : Vector (Option Cabinet) 24 → Vector (Option Cabinet) 24) : (s.onCabinets f).power = s.power := rfl
@[simp] theorem State.onCabinets_startCause (s : State) (f : Vector (Option Cabinet) 24 → Vector (Option Cabinet) 24) : (s.onCabinets f).startCause = s.startCause := rfl
@[simp] theorem State.onCabinets_floor (s : State) (f : Vector (Option Cabinet) 24 → Vector (Option Cabinet) 24) : (s.onCabinets f).floor = s.floor := rfl
@[simp] theorem State.onCabinets_buses (s : State) (f : Vector (Option Cabinet) 24 → Vector (Option Cabinet) 24) : (s.onCabinets f).buses = s.buses := rfl
@[simp] theorem State.onCabinets_cabinets (s : State) (f : Vector (Option Cabinet) 24 → Vector (Option Cabinet) 24) : (s.onCabinets f).cabinets = f s.cabinets := rfl
@[simp] theorem State.onCabinets_loadedSaved (s : State) (f : Vector (Option Cabinet) 24 → Vector (Option Cabinet) 24) : (s.onCabinets f).loadedSaved = s.loadedSaved := rfl
@[simp] theorem State.onCabinets_clc (s : State) (f : Vector (Option Cabinet) 24 → Vector (Option Cabinet) 24) : (s.onCabinets f).clc = s.clc := rfl
@[simp] theorem State.onCabinets_scs (s : State) (f : Vector (Option Cabinet) 24 → Vector (Option Cabinet) 24) : (s.onCabinets f).scs = s.scs := rfl
@[simp] theorem State.onCabinets_test (s : State) (f : Vector (Option Cabinet) 24 → Vector (Option Cabinet) 24) : (s.onCabinets f).test = s.test := rfl
@[simp] theorem State.onCabinets_par (s : State) (f : Vector (Option Cabinet) 24 → Vector (Option Cabinet) 24) : (s.onCabinets f).par = s.par := rfl
@[simp] theorem State.onCabinets_vct (s : State) (f : Vector (Option Cabinet) 24 → Vector (Option Cabinet) 24) : (s.onCabinets f).vct = s.vct := rfl
@[simp] theorem State.onCabinets_ims (s : State) (f : Vector (Option Cabinet) 24 → Vector (Option Cabinet) 24) : (s.onCabinets f).ims = s.ims := rfl
@[simp] theorem State.onCabinets_clock (s : State) (f : Vector (Option Cabinet) 24 → Vector (Option Cabinet) 24) : (s.onCabinets f).clock = s.clock := rfl
@[simp] theorem State.onCabinets_host (s : State) (f : Vector (Option Cabinet) 24 → Vector (Option Cabinet) 24) : (s.onCabinets f).host = s.host := rfl
@[simp] theorem State.onCabinets_notices (s : State) (f : Vector (Option Cabinet) 24 → Vector (Option Cabinet) 24) : (s.onCabinets f).notices = s.notices := rfl
@[simp] theorem State.onCabinets_agenda (s : State) (f : Vector (Option Cabinet) 24 → Vector (Option Cabinet) 24) : (s.onCabinets f).agenda = s.agenda := rfl
@[simp] theorem State.onCabinets_triggers (s : State) (f : Vector (Option Cabinet) 24 → Vector (Option Cabinet) 24) : (s.onCabinets f).triggers = s.triggers := rfl
@[simp] theorem State.onCabinets_hold (s : State) (f : Vector (Option Cabinet) 24 → Vector (Option Cabinet) 24) : (s.onCabinets f).hold = s.hold := rfl
@[simp] theorem State.onCabinets_freeCount (s : State) (f : Vector (Option Cabinet) 24 → Vector (Option Cabinet) 24) : (s.onCabinets f).freeCount = s.freeCount := rfl

@[simp] theorem State.onLoadedSaved_pending (s : State) (f : Nat → Nat) : (s.onLoadedSaved f).pending = s.pending := rfl
@[simp] theorem State.onLoadedSaved_power (s : State) (f : Nat → Nat) : (s.onLoadedSaved f).power = s.power := rfl
@[simp] theorem State.onLoadedSaved_startCause (s : State) (f : Nat → Nat) : (s.onLoadedSaved f).startCause = s.startCause := rfl
@[simp] theorem State.onLoadedSaved_floor (s : State) (f : Nat → Nat) : (s.onLoadedSaved f).floor = s.floor := rfl
@[simp] theorem State.onLoadedSaved_buses (s : State) (f : Nat → Nat) : (s.onLoadedSaved f).buses = s.buses := rfl
@[simp] theorem State.onLoadedSaved_cabinets (s : State) (f : Nat → Nat) : (s.onLoadedSaved f).cabinets = s.cabinets := rfl
@[simp] theorem State.onLoadedSaved_loadedSaved (s : State) (f : Nat → Nat) : (s.onLoadedSaved f).loadedSaved = f s.loadedSaved := rfl
@[simp] theorem State.onLoadedSaved_clc (s : State) (f : Nat → Nat) : (s.onLoadedSaved f).clc = s.clc := rfl
@[simp] theorem State.onLoadedSaved_scs (s : State) (f : Nat → Nat) : (s.onLoadedSaved f).scs = s.scs := rfl
@[simp] theorem State.onLoadedSaved_test (s : State) (f : Nat → Nat) : (s.onLoadedSaved f).test = s.test := rfl
@[simp] theorem State.onLoadedSaved_par (s : State) (f : Nat → Nat) : (s.onLoadedSaved f).par = s.par := rfl
@[simp] theorem State.onLoadedSaved_vct (s : State) (f : Nat → Nat) : (s.onLoadedSaved f).vct = s.vct := rfl
@[simp] theorem State.onLoadedSaved_ims (s : State) (f : Nat → Nat) : (s.onLoadedSaved f).ims = s.ims := rfl
@[simp] theorem State.onLoadedSaved_clock (s : State) (f : Nat → Nat) : (s.onLoadedSaved f).clock = s.clock := rfl
@[simp] theorem State.onLoadedSaved_host (s : State) (f : Nat → Nat) : (s.onLoadedSaved f).host = s.host := rfl
@[simp] theorem State.onLoadedSaved_notices (s : State) (f : Nat → Nat) : (s.onLoadedSaved f).notices = s.notices := rfl
@[simp] theorem State.onLoadedSaved_agenda (s : State) (f : Nat → Nat) : (s.onLoadedSaved f).agenda = s.agenda := rfl
@[simp] theorem State.onLoadedSaved_triggers (s : State) (f : Nat → Nat) : (s.onLoadedSaved f).triggers = s.triggers := rfl
@[simp] theorem State.onLoadedSaved_hold (s : State) (f : Nat → Nat) : (s.onLoadedSaved f).hold = s.hold := rfl
@[simp] theorem State.onLoadedSaved_freeCount (s : State) (f : Nat → Nat) : (s.onLoadedSaved f).freeCount = s.freeCount := rfl

@[simp] theorem State.onClc_pending (s : State) (f : Clc → Clc) : (s.onClc f).pending = s.pending := rfl
@[simp] theorem State.onClc_power (s : State) (f : Clc → Clc) : (s.onClc f).power = s.power := rfl
@[simp] theorem State.onClc_startCause (s : State) (f : Clc → Clc) : (s.onClc f).startCause = s.startCause := rfl
@[simp] theorem State.onClc_floor (s : State) (f : Clc → Clc) : (s.onClc f).floor = s.floor := rfl
@[simp] theorem State.onClc_buses (s : State) (f : Clc → Clc) : (s.onClc f).buses = s.buses := rfl
@[simp] theorem State.onClc_cabinets (s : State) (f : Clc → Clc) : (s.onClc f).cabinets = s.cabinets := rfl
@[simp] theorem State.onClc_loadedSaved (s : State) (f : Clc → Clc) : (s.onClc f).loadedSaved = s.loadedSaved := rfl
@[simp] theorem State.onClc_clc (s : State) (f : Clc → Clc) : (s.onClc f).clc = f s.clc := rfl
@[simp] theorem State.onClc_scs (s : State) (f : Clc → Clc) : (s.onClc f).scs = s.scs := rfl
@[simp] theorem State.onClc_test (s : State) (f : Clc → Clc) : (s.onClc f).test = s.test := rfl
@[simp] theorem State.onClc_par (s : State) (f : Clc → Clc) : (s.onClc f).par = s.par := rfl
@[simp] theorem State.onClc_vct (s : State) (f : Clc → Clc) : (s.onClc f).vct = s.vct := rfl
@[simp] theorem State.onClc_ims (s : State) (f : Clc → Clc) : (s.onClc f).ims = s.ims := rfl
@[simp] theorem State.onClc_clock (s : State) (f : Clc → Clc) : (s.onClc f).clock = s.clock := rfl
@[simp] theorem State.onClc_host (s : State) (f : Clc → Clc) : (s.onClc f).host = s.host := rfl
@[simp] theorem State.onClc_notices (s : State) (f : Clc → Clc) : (s.onClc f).notices = s.notices := rfl
@[simp] theorem State.onClc_agenda (s : State) (f : Clc → Clc) : (s.onClc f).agenda = s.agenda := rfl
@[simp] theorem State.onClc_triggers (s : State) (f : Clc → Clc) : (s.onClc f).triggers = s.triggers := rfl
@[simp] theorem State.onClc_hold (s : State) (f : Clc → Clc) : (s.onClc f).hold = s.hold := rfl
@[simp] theorem State.onClc_freeCount (s : State) (f : Clc → Clc) : (s.onClc f).freeCount = s.freeCount := rfl

@[simp] theorem State.onScs_pending (s : State) (f : Scs → Scs) : (s.onScs f).pending = s.pending := rfl
@[simp] theorem State.onScs_power (s : State) (f : Scs → Scs) : (s.onScs f).power = s.power := rfl
@[simp] theorem State.onScs_startCause (s : State) (f : Scs → Scs) : (s.onScs f).startCause = s.startCause := rfl
@[simp] theorem State.onScs_floor (s : State) (f : Scs → Scs) : (s.onScs f).floor = s.floor := rfl
@[simp] theorem State.onScs_buses (s : State) (f : Scs → Scs) : (s.onScs f).buses = s.buses := rfl
@[simp] theorem State.onScs_cabinets (s : State) (f : Scs → Scs) : (s.onScs f).cabinets = s.cabinets := rfl
@[simp] theorem State.onScs_loadedSaved (s : State) (f : Scs → Scs) : (s.onScs f).loadedSaved = s.loadedSaved := rfl
@[simp] theorem State.onScs_clc (s : State) (f : Scs → Scs) : (s.onScs f).clc = s.clc := rfl
@[simp] theorem State.onScs_scs (s : State) (f : Scs → Scs) : (s.onScs f).scs = f s.scs := rfl
@[simp] theorem State.onScs_test (s : State) (f : Scs → Scs) : (s.onScs f).test = s.test := rfl
@[simp] theorem State.onScs_par (s : State) (f : Scs → Scs) : (s.onScs f).par = s.par := rfl
@[simp] theorem State.onScs_vct (s : State) (f : Scs → Scs) : (s.onScs f).vct = s.vct := rfl
@[simp] theorem State.onScs_ims (s : State) (f : Scs → Scs) : (s.onScs f).ims = s.ims := rfl
@[simp] theorem State.onScs_clock (s : State) (f : Scs → Scs) : (s.onScs f).clock = s.clock := rfl
@[simp] theorem State.onScs_host (s : State) (f : Scs → Scs) : (s.onScs f).host = s.host := rfl
@[simp] theorem State.onScs_notices (s : State) (f : Scs → Scs) : (s.onScs f).notices = s.notices := rfl
@[simp] theorem State.onScs_agenda (s : State) (f : Scs → Scs) : (s.onScs f).agenda = s.agenda := rfl
@[simp] theorem State.onScs_triggers (s : State) (f : Scs → Scs) : (s.onScs f).triggers = s.triggers := rfl
@[simp] theorem State.onScs_hold (s : State) (f : Scs → Scs) : (s.onScs f).hold = s.hold := rfl
@[simp] theorem State.onScs_freeCount (s : State) (f : Scs → Scs) : (s.onScs f).freeCount = s.freeCount := rfl

@[simp] theorem State.onTest_pending (s : State) (f : TestContext → TestContext) : (s.onTest f).pending = s.pending := rfl
@[simp] theorem State.onTest_power (s : State) (f : TestContext → TestContext) : (s.onTest f).power = s.power := rfl
@[simp] theorem State.onTest_startCause (s : State) (f : TestContext → TestContext) : (s.onTest f).startCause = s.startCause := rfl
@[simp] theorem State.onTest_floor (s : State) (f : TestContext → TestContext) : (s.onTest f).floor = s.floor := rfl
@[simp] theorem State.onTest_buses (s : State) (f : TestContext → TestContext) : (s.onTest f).buses = s.buses := rfl
@[simp] theorem State.onTest_cabinets (s : State) (f : TestContext → TestContext) : (s.onTest f).cabinets = s.cabinets := rfl
@[simp] theorem State.onTest_loadedSaved (s : State) (f : TestContext → TestContext) : (s.onTest f).loadedSaved = s.loadedSaved := rfl
@[simp] theorem State.onTest_clc (s : State) (f : TestContext → TestContext) : (s.onTest f).clc = s.clc := rfl
@[simp] theorem State.onTest_scs (s : State) (f : TestContext → TestContext) : (s.onTest f).scs = s.scs := rfl
@[simp] theorem State.onTest_test (s : State) (f : TestContext → TestContext) : (s.onTest f).test = f s.test := rfl
@[simp] theorem State.onTest_par (s : State) (f : TestContext → TestContext) : (s.onTest f).par = s.par := rfl
@[simp] theorem State.onTest_vct (s : State) (f : TestContext → TestContext) : (s.onTest f).vct = s.vct := rfl
@[simp] theorem State.onTest_ims (s : State) (f : TestContext → TestContext) : (s.onTest f).ims = s.ims := rfl
@[simp] theorem State.onTest_clock (s : State) (f : TestContext → TestContext) : (s.onTest f).clock = s.clock := rfl
@[simp] theorem State.onTest_host (s : State) (f : TestContext → TestContext) : (s.onTest f).host = s.host := rfl
@[simp] theorem State.onTest_notices (s : State) (f : TestContext → TestContext) : (s.onTest f).notices = s.notices := rfl
@[simp] theorem State.onTest_agenda (s : State) (f : TestContext → TestContext) : (s.onTest f).agenda = s.agenda := rfl
@[simp] theorem State.onTest_triggers (s : State) (f : TestContext → TestContext) : (s.onTest f).triggers = s.triggers := rfl
@[simp] theorem State.onTest_hold (s : State) (f : TestContext → TestContext) : (s.onTest f).hold = s.hold := rfl
@[simp] theorem State.onTest_freeCount (s : State) (f : TestContext → TestContext) : (s.onTest f).freeCount = s.freeCount := rfl

@[simp] theorem State.onPar_pending (s : State) (f : Par → Par) : (s.onPar f).pending = s.pending := rfl
@[simp] theorem State.onPar_power (s : State) (f : Par → Par) : (s.onPar f).power = s.power := rfl
@[simp] theorem State.onPar_startCause (s : State) (f : Par → Par) : (s.onPar f).startCause = s.startCause := rfl
@[simp] theorem State.onPar_floor (s : State) (f : Par → Par) : (s.onPar f).floor = s.floor := rfl
@[simp] theorem State.onPar_buses (s : State) (f : Par → Par) : (s.onPar f).buses = s.buses := rfl
@[simp] theorem State.onPar_cabinets (s : State) (f : Par → Par) : (s.onPar f).cabinets = s.cabinets := rfl
@[simp] theorem State.onPar_loadedSaved (s : State) (f : Par → Par) : (s.onPar f).loadedSaved = s.loadedSaved := rfl
@[simp] theorem State.onPar_clc (s : State) (f : Par → Par) : (s.onPar f).clc = s.clc := rfl
@[simp] theorem State.onPar_scs (s : State) (f : Par → Par) : (s.onPar f).scs = s.scs := rfl
@[simp] theorem State.onPar_test (s : State) (f : Par → Par) : (s.onPar f).test = s.test := rfl
@[simp] theorem State.onPar_par (s : State) (f : Par → Par) : (s.onPar f).par = f s.par := rfl
@[simp] theorem State.onPar_vct (s : State) (f : Par → Par) : (s.onPar f).vct = s.vct := rfl
@[simp] theorem State.onPar_ims (s : State) (f : Par → Par) : (s.onPar f).ims = s.ims := rfl
@[simp] theorem State.onPar_clock (s : State) (f : Par → Par) : (s.onPar f).clock = s.clock := rfl
@[simp] theorem State.onPar_host (s : State) (f : Par → Par) : (s.onPar f).host = s.host := rfl
@[simp] theorem State.onPar_notices (s : State) (f : Par → Par) : (s.onPar f).notices = s.notices := rfl
@[simp] theorem State.onPar_agenda (s : State) (f : Par → Par) : (s.onPar f).agenda = s.agenda := rfl
@[simp] theorem State.onPar_triggers (s : State) (f : Par → Par) : (s.onPar f).triggers = s.triggers := rfl
@[simp] theorem State.onPar_hold (s : State) (f : Par → Par) : (s.onPar f).hold = s.hold := rfl
@[simp] theorem State.onPar_freeCount (s : State) (f : Par → Par) : (s.onPar f).freeCount = s.freeCount := rfl

@[simp] theorem State.onVct_pending (s : State) (f : Vct → Vct) : (s.onVct f).pending = s.pending := rfl
@[simp] theorem State.onVct_power (s : State) (f : Vct → Vct) : (s.onVct f).power = s.power := rfl
@[simp] theorem State.onVct_startCause (s : State) (f : Vct → Vct) : (s.onVct f).startCause = s.startCause := rfl
@[simp] theorem State.onVct_floor (s : State) (f : Vct → Vct) : (s.onVct f).floor = s.floor := rfl
@[simp] theorem State.onVct_buses (s : State) (f : Vct → Vct) : (s.onVct f).buses = s.buses := rfl
@[simp] theorem State.onVct_cabinets (s : State) (f : Vct → Vct) : (s.onVct f).cabinets = s.cabinets := rfl
@[simp] theorem State.onVct_loadedSaved (s : State) (f : Vct → Vct) : (s.onVct f).loadedSaved = s.loadedSaved := rfl
@[simp] theorem State.onVct_clc (s : State) (f : Vct → Vct) : (s.onVct f).clc = s.clc := rfl
@[simp] theorem State.onVct_scs (s : State) (f : Vct → Vct) : (s.onVct f).scs = s.scs := rfl
@[simp] theorem State.onVct_test (s : State) (f : Vct → Vct) : (s.onVct f).test = s.test := rfl
@[simp] theorem State.onVct_par (s : State) (f : Vct → Vct) : (s.onVct f).par = s.par := rfl
@[simp] theorem State.onVct_vct (s : State) (f : Vct → Vct) : (s.onVct f).vct = f s.vct := rfl
@[simp] theorem State.onVct_ims (s : State) (f : Vct → Vct) : (s.onVct f).ims = s.ims := rfl
@[simp] theorem State.onVct_clock (s : State) (f : Vct → Vct) : (s.onVct f).clock = s.clock := rfl
@[simp] theorem State.onVct_host (s : State) (f : Vct → Vct) : (s.onVct f).host = s.host := rfl
@[simp] theorem State.onVct_notices (s : State) (f : Vct → Vct) : (s.onVct f).notices = s.notices := rfl
@[simp] theorem State.onVct_agenda (s : State) (f : Vct → Vct) : (s.onVct f).agenda = s.agenda := rfl
@[simp] theorem State.onVct_triggers (s : State) (f : Vct → Vct) : (s.onVct f).triggers = s.triggers := rfl
@[simp] theorem State.onVct_hold (s : State) (f : Vct → Vct) : (s.onVct f).hold = s.hold := rfl
@[simp] theorem State.onVct_freeCount (s : State) (f : Vct → Vct) : (s.onVct f).freeCount = s.freeCount := rfl

@[simp] theorem State.onIms_pending (s : State) (f : Ims → Ims) : (s.onIms f).pending = s.pending := rfl
@[simp] theorem State.onIms_power (s : State) (f : Ims → Ims) : (s.onIms f).power = s.power := rfl
@[simp] theorem State.onIms_startCause (s : State) (f : Ims → Ims) : (s.onIms f).startCause = s.startCause := rfl
@[simp] theorem State.onIms_floor (s : State) (f : Ims → Ims) : (s.onIms f).floor = s.floor := rfl
@[simp] theorem State.onIms_buses (s : State) (f : Ims → Ims) : (s.onIms f).buses = s.buses := rfl
@[simp] theorem State.onIms_cabinets (s : State) (f : Ims → Ims) : (s.onIms f).cabinets = s.cabinets := rfl
@[simp] theorem State.onIms_loadedSaved (s : State) (f : Ims → Ims) : (s.onIms f).loadedSaved = s.loadedSaved := rfl
@[simp] theorem State.onIms_clc (s : State) (f : Ims → Ims) : (s.onIms f).clc = s.clc := rfl
@[simp] theorem State.onIms_scs (s : State) (f : Ims → Ims) : (s.onIms f).scs = s.scs := rfl
@[simp] theorem State.onIms_test (s : State) (f : Ims → Ims) : (s.onIms f).test = s.test := rfl
@[simp] theorem State.onIms_par (s : State) (f : Ims → Ims) : (s.onIms f).par = s.par := rfl
@[simp] theorem State.onIms_vct (s : State) (f : Ims → Ims) : (s.onIms f).vct = s.vct := rfl
@[simp] theorem State.onIms_ims (s : State) (f : Ims → Ims) : (s.onIms f).ims = f s.ims := rfl
@[simp] theorem State.onIms_clock (s : State) (f : Ims → Ims) : (s.onIms f).clock = s.clock := rfl
@[simp] theorem State.onIms_host (s : State) (f : Ims → Ims) : (s.onIms f).host = s.host := rfl
@[simp] theorem State.onIms_notices (s : State) (f : Ims → Ims) : (s.onIms f).notices = s.notices := rfl
@[simp] theorem State.onIms_agenda (s : State) (f : Ims → Ims) : (s.onIms f).agenda = s.agenda := rfl
@[simp] theorem State.onIms_triggers (s : State) (f : Ims → Ims) : (s.onIms f).triggers = s.triggers := rfl
@[simp] theorem State.onIms_hold (s : State) (f : Ims → Ims) : (s.onIms f).hold = s.hold := rfl
@[simp] theorem State.onIms_freeCount (s : State) (f : Ims → Ims) : (s.onIms f).freeCount = s.freeCount := rfl

@[simp] theorem State.onClock_pending (s : State) (f : Clock → Clock) : (s.onClock f).pending = s.pending := rfl
@[simp] theorem State.onClock_power (s : State) (f : Clock → Clock) : (s.onClock f).power = s.power := rfl
@[simp] theorem State.onClock_startCause (s : State) (f : Clock → Clock) : (s.onClock f).startCause = s.startCause := rfl
@[simp] theorem State.onClock_floor (s : State) (f : Clock → Clock) : (s.onClock f).floor = s.floor := rfl
@[simp] theorem State.onClock_buses (s : State) (f : Clock → Clock) : (s.onClock f).buses = s.buses := rfl
@[simp] theorem State.onClock_cabinets (s : State) (f : Clock → Clock) : (s.onClock f).cabinets = s.cabinets := rfl
@[simp] theorem State.onClock_loadedSaved (s : State) (f : Clock → Clock) : (s.onClock f).loadedSaved = s.loadedSaved := rfl
@[simp] theorem State.onClock_clc (s : State) (f : Clock → Clock) : (s.onClock f).clc = s.clc := rfl
@[simp] theorem State.onClock_scs (s : State) (f : Clock → Clock) : (s.onClock f).scs = s.scs := rfl
@[simp] theorem State.onClock_test (s : State) (f : Clock → Clock) : (s.onClock f).test = s.test := rfl
@[simp] theorem State.onClock_par (s : State) (f : Clock → Clock) : (s.onClock f).par = s.par := rfl
@[simp] theorem State.onClock_vct (s : State) (f : Clock → Clock) : (s.onClock f).vct = s.vct := rfl
@[simp] theorem State.onClock_ims (s : State) (f : Clock → Clock) : (s.onClock f).ims = s.ims := rfl
@[simp] theorem State.onClock_clock (s : State) (f : Clock → Clock) : (s.onClock f).clock = f s.clock := rfl
@[simp] theorem State.onClock_host (s : State) (f : Clock → Clock) : (s.onClock f).host = s.host := rfl
@[simp] theorem State.onClock_notices (s : State) (f : Clock → Clock) : (s.onClock f).notices = s.notices := rfl
@[simp] theorem State.onClock_agenda (s : State) (f : Clock → Clock) : (s.onClock f).agenda = s.agenda := rfl
@[simp] theorem State.onClock_triggers (s : State) (f : Clock → Clock) : (s.onClock f).triggers = s.triggers := rfl
@[simp] theorem State.onClock_hold (s : State) (f : Clock → Clock) : (s.onClock f).hold = s.hold := rfl
@[simp] theorem State.onClock_freeCount (s : State) (f : Clock → Clock) : (s.onClock f).freeCount = s.freeCount := rfl

@[simp] theorem State.onHost_pending (s : State) (f : HostLine → HostLine) : (s.onHost f).pending = s.pending := rfl
@[simp] theorem State.onHost_power (s : State) (f : HostLine → HostLine) : (s.onHost f).power = s.power := rfl
@[simp] theorem State.onHost_startCause (s : State) (f : HostLine → HostLine) : (s.onHost f).startCause = s.startCause := rfl
@[simp] theorem State.onHost_floor (s : State) (f : HostLine → HostLine) : (s.onHost f).floor = s.floor := rfl
@[simp] theorem State.onHost_buses (s : State) (f : HostLine → HostLine) : (s.onHost f).buses = s.buses := rfl
@[simp] theorem State.onHost_cabinets (s : State) (f : HostLine → HostLine) : (s.onHost f).cabinets = s.cabinets := rfl
@[simp] theorem State.onHost_loadedSaved (s : State) (f : HostLine → HostLine) : (s.onHost f).loadedSaved = s.loadedSaved := rfl
@[simp] theorem State.onHost_clc (s : State) (f : HostLine → HostLine) : (s.onHost f).clc = s.clc := rfl
@[simp] theorem State.onHost_scs (s : State) (f : HostLine → HostLine) : (s.onHost f).scs = s.scs := rfl
@[simp] theorem State.onHost_test (s : State) (f : HostLine → HostLine) : (s.onHost f).test = s.test := rfl
@[simp] theorem State.onHost_par (s : State) (f : HostLine → HostLine) : (s.onHost f).par = s.par := rfl
@[simp] theorem State.onHost_vct (s : State) (f : HostLine → HostLine) : (s.onHost f).vct = s.vct := rfl
@[simp] theorem State.onHost_ims (s : State) (f : HostLine → HostLine) : (s.onHost f).ims = s.ims := rfl
@[simp] theorem State.onHost_clock (s : State) (f : HostLine → HostLine) : (s.onHost f).clock = s.clock := rfl
@[simp] theorem State.onHost_host (s : State) (f : HostLine → HostLine) : (s.onHost f).host = f s.host := rfl
@[simp] theorem State.onHost_notices (s : State) (f : HostLine → HostLine) : (s.onHost f).notices = s.notices := rfl
@[simp] theorem State.onHost_agenda (s : State) (f : HostLine → HostLine) : (s.onHost f).agenda = s.agenda := rfl
@[simp] theorem State.onHost_triggers (s : State) (f : HostLine → HostLine) : (s.onHost f).triggers = s.triggers := rfl
@[simp] theorem State.onHost_hold (s : State) (f : HostLine → HostLine) : (s.onHost f).hold = s.hold := rfl
@[simp] theorem State.onHost_freeCount (s : State) (f : HostLine → HostLine) : (s.onHost f).freeCount = s.freeCount := rfl

@[simp] theorem State.onNotices_pending (s : State) (f : Notices → Notices) : (s.onNotices f).pending = s.pending := rfl
@[simp] theorem State.onNotices_power (s : State) (f : Notices → Notices) : (s.onNotices f).power = s.power := rfl
@[simp] theorem State.onNotices_startCause (s : State) (f : Notices → Notices) : (s.onNotices f).startCause = s.startCause := rfl
@[simp] theorem State.onNotices_floor (s : State) (f : Notices → Notices) : (s.onNotices f).floor = s.floor := rfl
@[simp] theorem State.onNotices_buses (s : State) (f : Notices → Notices) : (s.onNotices f).buses = s.buses := rfl
@[simp] theorem State.onNotices_cabinets (s : State) (f : Notices → Notices) : (s.onNotices f).cabinets = s.cabinets := rfl
@[simp] theorem State.onNotices_loadedSaved (s : State) (f : Notices → Notices) : (s.onNotices f).loadedSaved = s.loadedSaved := rfl
@[simp] theorem State.onNotices_clc (s : State) (f : Notices → Notices) : (s.onNotices f).clc = s.clc := rfl
@[simp] theorem State.onNotices_scs (s : State) (f : Notices → Notices) : (s.onNotices f).scs = s.scs := rfl
@[simp] theorem State.onNotices_test (s : State) (f : Notices → Notices) : (s.onNotices f).test = s.test := rfl
@[simp] theorem State.onNotices_par (s : State) (f : Notices → Notices) : (s.onNotices f).par = s.par := rfl
@[simp] theorem State.onNotices_vct (s : State) (f : Notices → Notices) : (s.onNotices f).vct = s.vct := rfl
@[simp] theorem State.onNotices_ims (s : State) (f : Notices → Notices) : (s.onNotices f).ims = s.ims := rfl
@[simp] theorem State.onNotices_clock (s : State) (f : Notices → Notices) : (s.onNotices f).clock = s.clock := rfl
@[simp] theorem State.onNotices_host (s : State) (f : Notices → Notices) : (s.onNotices f).host = s.host := rfl
@[simp] theorem State.onNotices_notices (s : State) (f : Notices → Notices) : (s.onNotices f).notices = f s.notices := rfl
@[simp] theorem State.onNotices_agenda (s : State) (f : Notices → Notices) : (s.onNotices f).agenda = s.agenda := rfl
@[simp] theorem State.onNotices_triggers (s : State) (f : Notices → Notices) : (s.onNotices f).triggers = s.triggers := rfl
@[simp] theorem State.onNotices_hold (s : State) (f : Notices → Notices) : (s.onNotices f).hold = s.hold := rfl
@[simp] theorem State.onNotices_freeCount (s : State) (f : Notices → Notices) : (s.onNotices f).freeCount = s.freeCount := rfl

@[simp] theorem State.onAgenda_pending (s : State) (f : List Task → List Task) : (s.onAgenda f).pending = s.pending := rfl
@[simp] theorem State.onAgenda_power (s : State) (f : List Task → List Task) : (s.onAgenda f).power = s.power := rfl
@[simp] theorem State.onAgenda_startCause (s : State) (f : List Task → List Task) : (s.onAgenda f).startCause = s.startCause := rfl
@[simp] theorem State.onAgenda_floor (s : State) (f : List Task → List Task) : (s.onAgenda f).floor = s.floor := rfl
@[simp] theorem State.onAgenda_buses (s : State) (f : List Task → List Task) : (s.onAgenda f).buses = s.buses := rfl
@[simp] theorem State.onAgenda_cabinets (s : State) (f : List Task → List Task) : (s.onAgenda f).cabinets = s.cabinets := rfl
@[simp] theorem State.onAgenda_loadedSaved (s : State) (f : List Task → List Task) : (s.onAgenda f).loadedSaved = s.loadedSaved := rfl
@[simp] theorem State.onAgenda_clc (s : State) (f : List Task → List Task) : (s.onAgenda f).clc = s.clc := rfl
@[simp] theorem State.onAgenda_scs (s : State) (f : List Task → List Task) : (s.onAgenda f).scs = s.scs := rfl
@[simp] theorem State.onAgenda_test (s : State) (f : List Task → List Task) : (s.onAgenda f).test = s.test := rfl
@[simp] theorem State.onAgenda_par (s : State) (f : List Task → List Task) : (s.onAgenda f).par = s.par := rfl
@[simp] theorem State.onAgenda_vct (s : State) (f : List Task → List Task) : (s.onAgenda f).vct = s.vct := rfl
@[simp] theorem State.onAgenda_ims (s : State) (f : List Task → List Task) : (s.onAgenda f).ims = s.ims := rfl
@[simp] theorem State.onAgenda_clock (s : State) (f : List Task → List Task) : (s.onAgenda f).clock = s.clock := rfl
@[simp] theorem State.onAgenda_host (s : State) (f : List Task → List Task) : (s.onAgenda f).host = s.host := rfl
@[simp] theorem State.onAgenda_notices (s : State) (f : List Task → List Task) : (s.onAgenda f).notices = s.notices := rfl
@[simp] theorem State.onAgenda_agenda (s : State) (f : List Task → List Task) : (s.onAgenda f).agenda = f s.agenda := rfl
@[simp] theorem State.onAgenda_triggers (s : State) (f : List Task → List Task) : (s.onAgenda f).triggers = s.triggers := rfl
@[simp] theorem State.onAgenda_hold (s : State) (f : List Task → List Task) : (s.onAgenda f).hold = s.hold := rfl
@[simp] theorem State.onAgenda_freeCount (s : State) (f : List Task → List Task) : (s.onAgenda f).freeCount = s.freeCount := rfl

@[simp] theorem State.onTriggers_pending (s : State) (f : Vector Bool 4 → Vector Bool 4) : (s.onTriggers f).pending = s.pending := rfl
@[simp] theorem State.onTriggers_power (s : State) (f : Vector Bool 4 → Vector Bool 4) : (s.onTriggers f).power = s.power := rfl
@[simp] theorem State.onTriggers_startCause (s : State) (f : Vector Bool 4 → Vector Bool 4) : (s.onTriggers f).startCause = s.startCause := rfl
@[simp] theorem State.onTriggers_floor (s : State) (f : Vector Bool 4 → Vector Bool 4) : (s.onTriggers f).floor = s.floor := rfl
@[simp] theorem State.onTriggers_buses (s : State) (f : Vector Bool 4 → Vector Bool 4) : (s.onTriggers f).buses = s.buses := rfl
@[simp] theorem State.onTriggers_cabinets (s : State) (f : Vector Bool 4 → Vector Bool 4) : (s.onTriggers f).cabinets = s.cabinets := rfl
@[simp] theorem State.onTriggers_loadedSaved (s : State) (f : Vector Bool 4 → Vector Bool 4) : (s.onTriggers f).loadedSaved = s.loadedSaved := rfl
@[simp] theorem State.onTriggers_clc (s : State) (f : Vector Bool 4 → Vector Bool 4) : (s.onTriggers f).clc = s.clc := rfl
@[simp] theorem State.onTriggers_scs (s : State) (f : Vector Bool 4 → Vector Bool 4) : (s.onTriggers f).scs = s.scs := rfl
@[simp] theorem State.onTriggers_test (s : State) (f : Vector Bool 4 → Vector Bool 4) : (s.onTriggers f).test = s.test := rfl
@[simp] theorem State.onTriggers_par (s : State) (f : Vector Bool 4 → Vector Bool 4) : (s.onTriggers f).par = s.par := rfl
@[simp] theorem State.onTriggers_vct (s : State) (f : Vector Bool 4 → Vector Bool 4) : (s.onTriggers f).vct = s.vct := rfl
@[simp] theorem State.onTriggers_ims (s : State) (f : Vector Bool 4 → Vector Bool 4) : (s.onTriggers f).ims = s.ims := rfl
@[simp] theorem State.onTriggers_clock (s : State) (f : Vector Bool 4 → Vector Bool 4) : (s.onTriggers f).clock = s.clock := rfl
@[simp] theorem State.onTriggers_host (s : State) (f : Vector Bool 4 → Vector Bool 4) : (s.onTriggers f).host = s.host := rfl
@[simp] theorem State.onTriggers_notices (s : State) (f : Vector Bool 4 → Vector Bool 4) : (s.onTriggers f).notices = s.notices := rfl
@[simp] theorem State.onTriggers_agenda (s : State) (f : Vector Bool 4 → Vector Bool 4) : (s.onTriggers f).agenda = s.agenda := rfl
@[simp] theorem State.onTriggers_triggers (s : State) (f : Vector Bool 4 → Vector Bool 4) : (s.onTriggers f).triggers = f s.triggers := rfl
@[simp] theorem State.onTriggers_hold (s : State) (f : Vector Bool 4 → Vector Bool 4) : (s.onTriggers f).hold = s.hold := rfl
@[simp] theorem State.onTriggers_freeCount (s : State) (f : Vector Bool 4 → Vector Bool 4) : (s.onTriggers f).freeCount = s.freeCount := rfl

@[simp] theorem State.onHold_pending (s : State) (f : Nat → Nat) : (s.onHold f).pending = s.pending := rfl
@[simp] theorem State.onHold_power (s : State) (f : Nat → Nat) : (s.onHold f).power = s.power := rfl
@[simp] theorem State.onHold_startCause (s : State) (f : Nat → Nat) : (s.onHold f).startCause = s.startCause := rfl
@[simp] theorem State.onHold_floor (s : State) (f : Nat → Nat) : (s.onHold f).floor = s.floor := rfl
@[simp] theorem State.onHold_buses (s : State) (f : Nat → Nat) : (s.onHold f).buses = s.buses := rfl
@[simp] theorem State.onHold_cabinets (s : State) (f : Nat → Nat) : (s.onHold f).cabinets = s.cabinets := rfl
@[simp] theorem State.onHold_loadedSaved (s : State) (f : Nat → Nat) : (s.onHold f).loadedSaved = s.loadedSaved := rfl
@[simp] theorem State.onHold_clc (s : State) (f : Nat → Nat) : (s.onHold f).clc = s.clc := rfl
@[simp] theorem State.onHold_scs (s : State) (f : Nat → Nat) : (s.onHold f).scs = s.scs := rfl
@[simp] theorem State.onHold_test (s : State) (f : Nat → Nat) : (s.onHold f).test = s.test := rfl
@[simp] theorem State.onHold_par (s : State) (f : Nat → Nat) : (s.onHold f).par = s.par := rfl
@[simp] theorem State.onHold_vct (s : State) (f : Nat → Nat) : (s.onHold f).vct = s.vct := rfl
@[simp] theorem State.onHold_ims (s : State) (f : Nat → Nat) : (s.onHold f).ims = s.ims := rfl
@[simp] theorem State.onHold_clock (s : State) (f : Nat → Nat) : (s.onHold f).clock = s.clock := rfl
@[simp] theorem State.onHold_host (s : State) (f : Nat → Nat) : (s.onHold f).host = s.host := rfl
@[simp] theorem State.onHold_notices (s : State) (f : Nat → Nat) : (s.onHold f).notices = s.notices := rfl
@[simp] theorem State.onHold_agenda (s : State) (f : Nat → Nat) : (s.onHold f).agenda = s.agenda := rfl
@[simp] theorem State.onHold_triggers (s : State) (f : Nat → Nat) : (s.onHold f).triggers = s.triggers := rfl
@[simp] theorem State.onHold_hold (s : State) (f : Nat → Nat) : (s.onHold f).hold = f s.hold := rfl
@[simp] theorem State.onHold_freeCount (s : State) (f : Nat → Nat) : (s.onHold f).freeCount = s.freeCount := rfl

@[simp] theorem State.onFreeCount_pending (s : State) (f : Nat → Nat) : (s.onFreeCount f).pending = s.pending := rfl
@[simp] theorem State.onFreeCount_power (s : State) (f : Nat → Nat) : (s.onFreeCount f).power = s.power := rfl
@[simp] theorem State.onFreeCount_startCause (s : State) (f : Nat → Nat) : (s.onFreeCount f).startCause = s.startCause := rfl
@[simp] theorem State.onFreeCount_floor (s : State) (f : Nat → Nat) : (s.onFreeCount f).floor = s.floor := rfl
@[simp] theorem State.onFreeCount_buses (s : State) (f : Nat → Nat) : (s.onFreeCount f).buses = s.buses := rfl
@[simp] theorem State.onFreeCount_cabinets (s : State) (f : Nat → Nat) : (s.onFreeCount f).cabinets = s.cabinets := rfl
@[simp] theorem State.onFreeCount_loadedSaved (s : State) (f : Nat → Nat) : (s.onFreeCount f).loadedSaved = s.loadedSaved := rfl
@[simp] theorem State.onFreeCount_clc (s : State) (f : Nat → Nat) : (s.onFreeCount f).clc = s.clc := rfl
@[simp] theorem State.onFreeCount_scs (s : State) (f : Nat → Nat) : (s.onFreeCount f).scs = s.scs := rfl
@[simp] theorem State.onFreeCount_test (s : State) (f : Nat → Nat) : (s.onFreeCount f).test = s.test := rfl
@[simp] theorem State.onFreeCount_par (s : State) (f : Nat → Nat) : (s.onFreeCount f).par = s.par := rfl
@[simp] theorem State.onFreeCount_vct (s : State) (f : Nat → Nat) : (s.onFreeCount f).vct = s.vct := rfl
@[simp] theorem State.onFreeCount_ims (s : State) (f : Nat → Nat) : (s.onFreeCount f).ims = s.ims := rfl
@[simp] theorem State.onFreeCount_clock (s : State) (f : Nat → Nat) : (s.onFreeCount f).clock = s.clock := rfl
@[simp] theorem State.onFreeCount_host (s : State) (f : Nat → Nat) : (s.onFreeCount f).host = s.host := rfl
@[simp] theorem State.onFreeCount_notices (s : State) (f : Nat → Nat) : (s.onFreeCount f).notices = s.notices := rfl
@[simp] theorem State.onFreeCount_agenda (s : State) (f : Nat → Nat) : (s.onFreeCount f).agenda = s.agenda := rfl
@[simp] theorem State.onFreeCount_triggers (s : State) (f : Nat → Nat) : (s.onFreeCount f).triggers = s.triggers := rfl
@[simp] theorem State.onFreeCount_hold (s : State) (f : Nat → Nat) : (s.onFreeCount f).hold = s.hold := rfl
@[simp] theorem State.onFreeCount_freeCount (s : State) (f : Nat → Nat) : (s.onFreeCount f).freeCount = f s.freeCount := rfl

end Sys2Proof.Machine
end

