-- ==== Sys2Proof/Laws/Outer.lean ====
section
/-! SUPPORT. No signal inside a command changes `State.outer`: one lemma per operation, then for each signal, then for all. -/

namespace Sys2Proof.Machine

/-! ### Updates -/

@[simp] theorem outer_onAgenda (s : State) (f) : (s.onAgenda f).outer = s.outer := rfl
@[simp] theorem outer_onTriggers (s : State) (f) : (s.onTriggers f).outer = s.outer := rfl
@[simp] theorem outer_onHold (s : State) (f) : (s.onHold f).outer = s.outer := rfl
@[simp] theorem outer_onClc (s : State) (f) : (s.onClc f).outer = s.outer := rfl
@[simp] theorem outer_onTest (s : State) (f) : (s.onTest f).outer = s.outer := rfl
@[simp] theorem outer_onFreeCount (s : State) (f) : (s.onFreeCount f).outer = s.outer := rfl
@[simp] theorem outer_push (s : State) (l) : (s.push l).outer = s.outer := rfl
@[simp] theorem outer_trigger (s : State) (b) : (s.trigger b).outer = s.outer := rfl

@[simp] theorem Notices.join_mask (n : Notices) (x : Notice) : (n.join x).mask = n.mask := by
  unfold Notices.join; split <;> rfl

@[simp] theorem outer_raise (s : State) (k subj v r) : (s.raise k subj v r).outer = s.outer := by
  simp [State.outer, State.raise, State.onNotices]

theorem outer_onPar (s : State) (f : Par → Par) (h : (f s.par).nextId = s.par.nextId) : (s.onPar f).outer = s.outer := by
  simp [State.outer, h]

theorem outer_onVct (s : State) (f : Vct → Vct) (h : (f s.vct).nextId = s.vct.nextId)
    (g : (f s.vct).bookings = s.vct.bookings) : (s.onVct f).outer = s.outer := by
  simp [State.outer, h, g]

theorem outer_onScs (s : State) (f : Scs → Scs) (h : (f s.scs).pendingList = s.scs.pendingList)
    (g : (f s.scs).pendingTiming = s.scs.pendingTiming) : (s.onScs f).outer = s.outer := by
  simp [State.outer, h, g]

theorem outer_onClock (s : State) (f : Clock → Clock) (h : (f s.clock).uptime = s.clock.uptime)
    (g : (f s.clock).offset = s.clock.offset) (k : (f s.clock).valid = s.clock.valid) : (s.onClock f).outer = s.outer := by
  simp [State.outer, h, g, k]

@[simp] theorem outer_onPermit (s : State) (id f) : (s.onPermit id f).outer = s.outer := outer_onPar _ _ rfl
@[simp] theorem outer_onQueue (s : State) (b f) : (s.onQueue b f).outer = s.outer := outer_onPar _ _ rfl
@[simp] theorem outer_onSeq (s : State) (b f) : (s.onSeq b f).outer = s.outer := outer_onPar _ _ rfl
@[simp] theorem outer_seqTo (s : State) (b x) : (s.seqTo b x).outer = s.outer := by simp [State.seqTo]
@[simp] theorem outer_onVisit (s : State) (id f) : (s.onVisit id f).outer = s.outer := outer_onVct _ _ rfl rfl

/-! ### Folds -/

theorem outer_foldl {α : Type} (f : State → α → State) (h : ∀ s a, (f s a).outer = s.outer) (l : List α) (s : State) :
    (l.foldl f s).outer = s.outer := by
  induction l generalizing s with
  | nil => rfl
  | cons a l ih => rw [List.foldl_cons, ih, h]

/-! ### Cabinets and strings -/

theorem Vector.map_setIfInBounds_same {α β : Type} {n : Nat} (v : Vector α n) (i : Nat) (x : α) (f : α → β)
    (h : ∀ y, v[i]? = some y → f x = f y) : (v.setIfInBounds i x).map f = v.map f := by
  ext j hj
  by_cases e : i = j
  · subst e; simpa using h v[i] (by simp [hj])
  · simp [e]

theorem State.cabinet_eq_some {s : State} {c : Nat} {k : Cabinet} (h : s.cabinet c = some k) :
    c ≠ 0 ∧ s.cabinets[c - 1]? = some (some k) := by
  unfold State.cabinet at h
  split at h
  · cases h
  · exact ⟨‹_›, by simpa [Option.join_eq_some_iff] using h⟩

theorem outer_setCabinet (s : State) (c : Nat) (k k' : Cabinet) (h : s.cabinet c = some k) (g : k'.image = k.image) :
    (s.setCabinet c (some k')).outer = s.outer := by
  obtain ⟨hc, hk⟩ := State.cabinet_eq_some h
  have : (s.cabinets.setIfInBounds (c - 1) (some k')).map (fun o => o.map Cabinet.image) =
      s.cabinets.map (fun o => o.map Cabinet.image) := by
    apply Vector.map_setIfInBounds_same
    intro y hy
    rw [hk] at hy
    cases hy
    simp [g]
  simp [State.outer, State.setCabinet, hc, this]

theorem outer_onCabinet (s : State) (c : Nat) (f : Cabinet → Cabinet) (g : ∀ k, s.cabinet c = some k → (f k).image = k.image) :
    (s.onCabinet c f).outer = s.outer := by
  unfold State.onCabinet
  split
  · rfl
  · exact outer_setCabinet _ _ _ _ ‹_› (g _ ‹_›)

@[simp] theorem outer_onTrack (s : State) (c f) : (s.onTrack c f).outer = s.outer := outer_onCabinet _ _ _ fun _ _ => rfl

theorem Cabinet.slot_eq_some {k : Cabinet} {n : Nat} {u : StringUnit} (h : k.slot n = some u) :
    n ≠ 0 ∧ k.strings[n - 1]? = some (some u) := by
  unfold Cabinet.slot at h
  split at h
  · cases h
  · exact ⟨‹_›, by simpa [Option.join_eq_some_iff] using h⟩

theorem Cabinet.image_setSlot (k : Cabinet) (n : Nat) (u u' : StringUnit) (h : k.slot n = some u) (g : u'.defn = u.defn) :
    (k.setSlot n (some u')).image = k.image := by
  obtain ⟨hn, hu⟩ := Cabinet.slot_eq_some h
  have : (k.strings.setIfInBounds (n - 1) (some u')).map (fun o => o.map fun u => u.defn) =
      k.strings.map (fun o => o.map fun u => u.defn) := by
    apply Vector.map_setIfInBounds_same
    intro y hy
    rw [hu] at hy
    cases hy
    simp [g]
  simp [Cabinet.image, Cabinet.setSlot, hn, this]

@[simp] theorem outer_raiseAge (s : State) (b c n l) : (s.raiseAge b c n l).outer = s.outer := by
  unfold State.raiseAge
  exact outer_foldl _ (by simp) _ _

@[simp] theorem outer_ageString (s : State) (c n f) : (s.ageString c n f).outer = s.outer := by
  unfold State.ageString
  split
  next => rfl
  next k hk =>
    split
    next => rfl
    next u hu =>
      dsimp only
      split <;> simp <;> exact outer_setCabinet _ _ _ _ hk (Cabinet.image_setSlot _ _ _ _ hu rfl)

theorem outer_forSlots (s : State) (c f) (h : ∀ s c n, (f s c n).outer = s.outer) : (s.forSlots c f).outer = s.outer := by
  unfold State.forSlots
  exact outer_foldl _ (by simp [h]) _ _

theorem outer_forStrings (s : State) (f) (h : ∀ s c n, (f s c n).outer = s.outer) : (s.forStrings f).outer = s.outer := by
  unfold State.forStrings
  exact outer_foldl _ (fun s c => outer_forSlots s c f h) _ _

@[simp] theorem outer_accrueAll (s : State) : s.accrueAll.outer = s.outer := outer_forStrings _ _ (by simp)

/-! ### The cabinet link -/

@[simp] theorem outer_arbitrate (s : State) : s.arbitrate.outer = s.outer := by
  unfold State.arbitrate
  split
  · split <;> simp
  · rfl

@[simp] theorem outer_handIn (s : State) (r) : (s.handIn r).outer = s.outer := by
  unfold State.handIn
  split
  · simp
  · dsimp only; split <;> simp

@[simp] theorem outer_testHand (s : State) (w cls) : (s.testHand w cls).outer = s.outer := by
  unfold State.testHand; split <;> simp

@[simp] theorem outer_linkIdle (s : State) (low) : (s.linkIdle low).outer = s.outer := by
  unfold State.linkIdle; split <;> simp

@[simp] theorem outer_drainDown (s : State) : s.drainDown.outer = s.outer := by
  unfold State.drainDown; split <;> simp

@[simp] theorem outer_recoveryEnd (s : State) (a l) : (s.recoveryEnd a l).outer = s.outer := by
  unfold State.recoveryEnd; dsimp only; split <;> simp

/-! ### Tracking -/

@[simp] theorem outer_raiseTrack (s : State) (c b o n src w) : (s.raiseTrack c b o n src w).outer = s.outer := by
  unfold State.raiseTrack
  dsimp only
  repeat' split
  all_goals simp

theorem outer_completeTrack (s : State) (c k src w) (h : s.cabinet c = some k) : (s.completeTrack c k src w).outer = s.outer := by
  unfold State.completeTrack
  dsimp only
  split <;> simp <;> exact outer_setCabinet _ _ _ _ h rfl

@[simp] theorem State.raise_cabinets (s : State) (k subj v r) : (s.raise k subj v r).cabinets = s.cabinets := rfl
theorem State.raise_cabinet (s : State) (k subj v r c) : (s.raise k subj v r).cabinet c = s.cabinet c := rfl

@[simp] theorem outer_trackSuccess (s : State) (c w src) : (s.trackSuccess c w src).outer = s.outer := by
  unfold State.trackSuccess
  split
  next => rfl
  next k h => exact outer_completeTrack _ _ _ _ _ h

@[simp] theorem outer_trackFailure (s : State) (c o) : (s.trackFailure c o).outer = s.outer := by
  unfold State.trackFailure
  split
  next => rfl
  next k h =>
    dsimp only
    split
    · rw [outer_completeTrack, outer_raise]
      rw [State.raise_cabinet, h]
    · exact outer_setCabinet _ _ _ _ h rfl

@[simp] theorem outer_trackAttempt (s : State) (c o i w) : (s.trackAttempt c o i w).outer = s.outer := by
  unfold State.trackAttempt; split <;> simp

@[simp] theorem outer_setOverlay (s : State) (c o) : (s.setOverlay c o).outer = s.outer := by
  unfold State.setOverlay
  split
  next => rfl
  next k h => exact outer_completeTrack _ _ _ _ _ h

@[simp] theorem outer_ageingOnChange (s : State) (c o n) : (s.ageingOnChange c o n).outer = s.outer := by
  unfold State.ageingOnChange
  repeat' split
  all_goals first | rfl | exact outer_forSlots _ _ _ (by simp)

/-! ### The test engine -/

@[simp] theorem outer_testAgeing (s : State) (c r) : (s.testAgeing c r).outer = s.outer := by
  unfold State.testAgeing
  split
  · rfl
  · dsimp only
    repeat' split
    all_goals simp

@[simp] theorem outer_raiseTestEnd (s : State) (c o r) : (s.raiseTestEnd c o r).outer = s.outer := by
  unfold State.raiseTestEnd
  split
  · rfl
  · dsimp only; split <;> simp

@[simp] theorem outer_endTest (s : State) (c o r f) : (s.endTest c o r f).outer = s.outer := by simp [State.endTest]

@[simp] theorem outer_testAbort (s : State) (c) : (s.testAbort c).outer = s.outer := by
  unfold State.testAbort; split <;> simp

@[simp] theorem outer_testToIdle (s : State) : s.testToIdle.outer = s.outer := by
  unfold State.testToIdle; split <;> simp

@[simp] theorem outer_testEnding (s : State) : s.testEnding.outer = s.outer := by
  unfold State.testEnding
  repeat' split
  all_goals simp

@[simp] theorem outer_testFinalEnding (s : State) (w o) : (s.testFinalEnding w o).outer = s.outer := by
  unfold State.testFinalEnding
  dsimp only
  repeat' split
  all_goals simp

@[simp] theorem outer_handTestBegin (s : State) : s.handTestBegin.outer = s.outer := by
  unfold State.handTestBegin; split <;> simp

@[simp] theorem outer_handTestRead (s : State) : s.handTestRead.outer = s.outer := by
  unfold State.handTestRead; split <;> simp

@[simp] theorem outer_beginStep (s : State) (l) : (s.beginStep l).outer = s.outer := by simp [State.beginStep]

@[simp] theorem outer_enterSearch (s : State) : s.enterSearch.outer = s.outer := by simp [State.enterSearch]

@[simp] theorem outer_startTestTimer (s : State) (t n) : (s.startTestTimer t n).outer = s.outer := by
  simp [State.startTestTimer]

@[simp] theorem outer_testBegun (s : State) : s.testBegun.outer = s.outer := by
  unfold State.testBegun
  split
  · dsimp only; split <;> simp
  · rfl

@[simp] theorem outer_takeStep (s : State) (d r) : (s.takeStep d r).outer = s.outer := by
  unfold State.takeStep; dsimp only; split <;> simp

@[simp] theorem outer_judgeReading (s : State) (d r) : (s.judgeReading d r).outer = s.outer := by
  unfold State.judgeReading
  dsimp only
  repeat' split
  all_goals simp

@[simp] theorem outer_notReady (s : State) : s.notReady.outer = s.outer := by
  unfold State.notReady; split <;> simp

@[simp] theorem outer_testFinalRunning (s : State) (w o r) : (s.testFinalRunning w o r).outer = s.outer := by
  unfold State.testFinalRunning
  dsimp only
  repeat' split
  all_goals simp [State.testFailCabinet]

@[simp] theorem outer_testFinal (s : State) (o r) : (s.testFinal o r).outer = s.outer := by
  unfold State.testFinal
  repeat' split
  all_goals simp

@[simp] theorem outer_testGrant (s : State) (id) : (s.testGrant id).outer = s.outer := by
  unfold State.testGrant
  repeat' split
  all_goals first | rfl | (dsimp only; split <;> simp)

@[simp] theorem outer_testOnChange (s : State) (c b n) : (s.testOnChange c b n).outer = s.outer := by
  unfold State.testOnChange
  repeat' split
  all_goals simp

/-! ### The scanner -/

theorem outer_onBuses (s : State) (f) (h : (f s.buses).map (fun o => o.map BusUnit.defn) = s.buses.map (fun o => o.map BusUnit.defn)) :
    (s.onBuses f).outer = s.outer := by
  simp only [State.outer, State.onBuses] at *
  simp [h]

@[simp] theorem outer_triggerAll (s : State) : s.triggerAll.outer = s.outer := by
  unfold State.triggerAll
  exact outer_foldl _ (fun s b => by split <;> simp) _ _

@[simp] theorem outer_ageingRoundEnd (s : State) (i) : (s.ageingRoundEnd i).outer = s.outer := outer_forStrings _ _ (by simp)

theorem outer_roundSeen (s : State) :
    (s.onBuses fun v => v.map fun o => o.map fun u => { u with fig := { u.fig with roundSeen := true } }).outer = s.outer := by
  apply outer_onBuses
  simp only [Vector.map_map]
  congr 1
  funext o
  cases o <;> rfl

@[simp] theorem outer_roundEnd (s : State) : s.roundEnd.outer = s.outer := by
  unfold State.roundEnd
  exact (outer_push _ _).trans <| (outer_triggerAll _).trans <| (outer_roundSeen _).trans <|
    (outer_ageingRoundEnd _ _).trans <| (outer_onScs _ _ rfl rfl).trans <| (outer_onScs _ _ rfl rfl).trans <|
    outer_onScs _ _ rfl rfl

@[simp] theorem outer_passEnd (s : State) : s.passEnd.outer = s.outer := by
  have h (s : State) : (s.onScs fun c => { c with passCount := c.passCount + 1 }).outer = s.outer := outer_onScs _ _ rfl rfl
  unfold State.passEnd; dsimp only; split <;> simp [h]

theorem outer_judge (s : State) (c p o e v) : (s.onScs fun x => x.judge c p o e v).outer = s.outer := by
  apply outer_onScs <;> (unfold Scs.judge; dsimp only; split <;> rfl)

theorem outer_outstanding (s : State) : (s.onScs fun c => { c with outstanding := c.outstanding - 1 }).outer = s.outer :=
  outer_onScs _ _ rfl rfl

@[simp] theorem outer_scanFinal (s : State) (r o e v) : (s.scanFinal r o e v).outer = s.outer := by
  have last (s : State) : (if s.scs.outstanding = 0 then s.passEnd else s).outer = s.outer := by split <;> simp
  unfold State.scanFinal
  split
  · refine (last _).trans ((outer_outstanding _).trans ?_)
    split
    · exact outer_judge ..
    all_goals rfl
  · rfl

theorem outer_scanHand (l : List ScanEntry) (s : State) :
    (l.foldl (fun s e => s.handIn (s.newRequest .scan (.poll e.point) e.cabinet)) s).outer = s.outer :=
  outer_foldl _ (by simp) _ _

@[simp] theorem outer_startPass (s : State) : s.startPass.outer = s.outer := by
  unfold State.startPass
  dsimp only
  rw [outer_scanHand, outer_handIn]
  exact outer_onScs _ _ rfl rfl

@[simp] theorem outer_enterRunning (s : State) : s.enterRunning.outer = s.outer := by
  unfold State.enterRunning
  dsimp only
  rw [outer_startPass, outer_raise]
  exact outer_onScs _ _ rfl rfl

@[simp] theorem outer_orderScan (s : State) (d c) : (s.orderScan d c).outer = s.outer := by
  unfold State.orderScan
  dsimp only
  split
  · rw [outer_enterRunning]; exact outer_onScs _ _ rfl rfl
  · rw [outer_onScs _ _ rfl rfl]; exact outer_onScs _ _ rfl rfl

@[simp] theorem outer_autoScan (s : State) : s.autoScan.outer = s.outer := by
  unfold State.autoScan
  repeat' split
  all_goals simp

/-! ### The redundancy figures -/

@[simp] theorem outer_raiseBus (s : State) (b d o f x) : (s.raiseBus b d o f x).outer = s.outer := by
  unfold State.raiseBus
  dsimp only
  repeat' split
  all_goals simp

theorem outer_setBus (s : State) (b : Bus) (u u' : BusUnit) (h : s.bus b = some u) (g : u'.defn = u.defn) :
    (s.setBus b (some u')).outer = s.outer := by
  unfold State.setBus
  apply outer_onBuses
  ext j hj
  unfold State.bus at h
  by_cases e : b.val = j
  · subst e
    have : s.buses[b.val] = some u := h
    simp [this, g]
  · simp [e]

@[simp] theorem outer_recompute (s : State) (b) : (s.recompute b).outer = s.outer := by
  unfold State.recompute
  split
  next => rfl
  next u h => dsimp only; rw [outer_raiseBus]; exact outer_setBus _ _ _ _ h rfl

@[simp] theorem outer_meet (s : State) : s.meet.outer = s.outer := by
  unfold State.meet
  repeat' split
  all_goals simp

@[simp] theorem outer_recomputeBus (s : State) (b) : (s.recomputeBus b).outer = s.outer := by
  unfold State.recomputeBus; dsimp only; split <;> simp

@[simp] theorem outer_closeHold (s : State) : s.closeHold.outer = s.outer := by simp [State.closeHold]

/-! ### The permits -/

@[simp] theorem outer_noteSent (s : State) (b e) : (s.noteSent b e).outer = s.outer := by
  unfold State.noteSent; split <;> simp

@[simp] theorem outer_pump (s : State) (b) : (s.pump b).outer = s.outer := by
  unfold State.pump
  split
  · split <;> simp
  · rfl

@[simp] theorem outer_enqueue (s : State) (b p e) : (s.enqueue b p e).outer = s.outer := by simp [State.enqueue]
@[simp] theorem outer_dequeue (s : State) (b g) : (s.dequeue b g).outer = s.outer := by simp [State.dequeue]
@[simp] theorem outer_voidInHand (s : State) (b g) : (s.voidInHand b g).outer = s.outer := by simp [State.voidInHand]
@[simp] theorem outer_bypassCommand (s : State) (b c x) : (s.bypassCommand b c x).outer = s.outer := by simp [State.bypassCommand]

@[simp] theorem outer_endPermit (s : State) (id r) : (s.endPermit id r).outer = s.outer := by
  unfold State.endPermit
  split
  · rfl
  · dsimp only
    have h (s : State) : (s.onPar fun t => { t with permits := t.permits.filter fun q => q.id != id }).outer = s.outer :=
      outer_onPar _ _ rfl
    split <;> simp [h]

@[simp] theorem outer_startReturn (s : State) (p) : (s.startReturn p).outer = s.outer := by simp [State.startReturn]
@[simp] theorem outer_blockReturn (s : State) (p v r) : (s.blockReturn p v r).outer = s.outer := by simp [State.blockReturn]

@[simp] theorem outer_prepareAll (s : State) (b l) : (s.prepareAll b l).outer = s.outer := by
  unfold State.prepareAll
  dsimp only
  rw [outer_foldl _ (by simp)]
  simp

@[simp] theorem outer_syncCheck (s : State) (b) : (s.syncCheck b).outer = s.outer := by
  unfold State.syncCheck
  repeat' split
  all_goals simp

@[simp] theorem outer_enterReturnWait (s : State) (b id) : (s.enterReturnWait b id).outer = s.outer := by
  simp [State.enterReturnWait]

@[simp] theorem outer_returnCheck (s : State) (b) : (s.returnCheck b).outer = s.outer := by
  unfold State.returnCheck
  repeat' split
  all_goals simp

@[simp] theorem outer_masterCheck (s : State) (b) : (s.masterCheck b).outer = s.outer := by
  unfold State.masterCheck
  split
  · dsimp only; split <;> simp
  · simp
  · rfl

@[simp] theorem outer_undoSequence (s : State) (b) : (s.undoSequence b).outer = s.outer := by
  unfold State.undoSequence
  dsimp only
  rw [outer_foldl _ (by simp)]
  simp

@[simp] theorem outer_failTransfer (s : State) (b r) : (s.failTransfer b r).outer = s.outer := by
  unfold State.failTransfer; dsimp only; split <;> simp

@[simp] theorem outer_failReturn (s : State) (b k r) : (s.failReturn b k r).outer = s.outer := by
  unfold State.failReturn; dsimp only; split <;> simp

@[simp] theorem outer_prepareAccepted (s : State) (b c) : (s.prepareAccepted b c).outer = s.outer := by
  unfold State.prepareAccepted; dsimp only; split <;> simp

@[simp] theorem outer_moveAccepted (s : State) (b) : (s.moveAccepted b).outer = s.outer := by simp [State.moveAccepted]

@[simp] theorem outer_withdrawFinal (s : State) (e p o) : (s.withdrawFinal e p o).outer = s.outer := by
  unfold State.withdrawFinal
  repeat' split
  all_goals simp

@[simp] theorem outer_goOnlineFinal (s : State) (e p o) : (s.goOnlineFinal e p o).outer = s.outer := by
  unfold State.goOnlineFinal; split <;> simp

@[simp] theorem outer_bypassFinal (s : State) (b e o) : (s.bypassFinal b e o).outer = s.outer := by
  unfold State.bypassFinal
  repeat' split
  all_goals simp [State.failRePrepare]

@[simp] theorem outer_transferFinal (s : State) (b o) : (s.transferFinal b o).outer = s.outer := by
  unfold State.transferFinal
  split
  · rfl
  · dsimp only
    repeat' split
    all_goals simp

@[simp] theorem outer_permitOnOverlay (s : State) (c r) : (s.permitOnOverlay c r).outer = s.outer := by
  unfold State.permitOnOverlay; split <;> simp

@[simp] theorem outer_unblock (s : State) (c n) : (s.unblock c n).outer = s.outer := by
  unfold State.unblock
  repeat' split
  all_goals simp

@[simp] theorem outer_seqOnChange (s : State) (b c o n) : (s.seqOnChange b c o n).outer = s.outer := by
  unfold State.seqOnChange
  dsimp only
  repeat' split
  all_goals simp [State.failRePrepare]

@[simp] theorem outer_permitOnChange (s : State) (c o n) : (s.permitOnChange c o n).outer = s.outer := by
  unfold State.permitOnChange; split <;> simp

@[simp] theorem outer_bypassFoundClosed (s : State) (b) : (s.bypassFoundClosed b).outer = s.outer := by
  unfold State.bypassFoundClosed; split <;> simp

@[simp] theorem outer_seqOnFlags (s : State) (b c) : (s.seqOnFlags b c).outer = s.outer := by
  unfold State.seqOnFlags
  repeat' split
  all_goals simp

@[simp] theorem outer_permitOnFlags (s : State) (c) : (s.permitOnFlags c).outer = s.outer := by
  unfold State.permitOnFlags; split <;> simp

@[simp] theorem outer_grant (s : State) (p) : (s.grant p).outer = s.outer := by
  unfold State.grant
  dsimp only
  have h (s : State) (n : Nat) : (s.onPar fun t => { t with grants := n }).outer = s.outer := outer_onPar _ _ rfl
  repeat' split
  all_goals simp [h]

@[simp] theorem outer_grantAdoptions (s : State) (b) : (s.grantAdoptions b).outer = s.outer := by
  unfold State.grantAdoptions; split <;> simp

@[simp] theorem outer_grantHeads (s : State) (b) : (s.grantHeads b).outer = s.outer := by
  unfold State.grantHeads
  repeat' split
  all_goals simp

@[simp] theorem outer_testIdle (s : State) (b) : (s.testIdle b).outer = s.outer := by simp [State.testIdle]

@[simp] theorem outer_raiseYield (s : State) (p r) : (s.raiseYield p r).outer = s.outer := by
  unfold State.raiseYield; split <;> simp

@[simp] theorem outer_yieldTests (s : State) (b) : (s.yieldTests b).outer = s.outer := by
  unfold State.yieldTests
  split
  · exact outer_foldl _ (by simp) _ _
  · rfl

@[simp] theorem outer_yieldOne (s : State) (p) : (s.yieldOne p).outer = s.outer := by
  unfold State.yieldOne; dsimp only; split <;> simp

@[simp] theorem outer_yieldLoop (b d n) (s : State) : (yieldLoop b d n s).outer = s.outer := by
  induction n generalizing s with
  | zero => rfl
  | succ n ih =>
    unfold yieldLoop
    dsimp only
    repeat' split
    all_goals simp [ih]

@[simp] theorem outer_yieldWithdrawals (s : State) (b) : (s.yieldWithdrawals b).outer = s.outer := by
  unfold State.yieldWithdrawals
  repeat' split
  all_goals simp

theorem outer_returnPermit (s t : State) (p) (h : s.returnPermit p = some t) : t.outer = s.outer := by
  unfold State.returnPermit at h
  split at h
  · cases h; split <;> simp
  · cases h; simp
  · cases h; simp
  · split at h
    · cases h
    · split at h <;> cases h <;> simp
  · cases h

/-! ### The image store, the clock and the visits -/

@[simp] theorem outer_requestAgeingSave (s : State) : s.requestAgeingSave.outer = s.outer := by
  unfold State.requestAgeingSave
  repeat' split
  · rfl
  · unfold State.beginAgeingSave
    dsimp only
    rw [outer_onFreeCount]
    exact (show ∀ s : State, ∀ x, (s.onIms fun i => { i with ageingSave := x }).outer = s.outer from fun _ _ => rfl) _ _ |>.trans
      (outer_accrueAll s)
  · rfl

@[simp] theorem outer_dayRollover (s : State) : s.dayRollover.outer = s.outer := by
  unfold State.dayRollover
  rw [outer_requestAgeingSave]
  exact outer_forStrings _ _ (by simp)

theorem outer_lastDay (s : State) (d : Nat) : (s.onClock fun c => { c with lastDay := d }).outer = s.outer := outer_onClock _ _ rfl rfl rfl

@[simp] theorem outer_dayCheck (s : State) : s.dayCheck.outer = s.outer := by
  unfold State.dayCheck
  dsimp only
  have h (s : State) : (s.onClock fun c => { c with backwardMark := true }).outer = s.outer := outer_onClock _ _ rfl rfl rfl
  repeat' split
  all_goals simp [outer_lastDay, h]

@[simp] theorem outer_gapAccrual (s : State) (a) : (s.gapAccrual a).outer = s.outer := by
  unfold State.gapAccrual
  dsimp only
  rw [outer_forStrings _ _ (by simp)]
  split <;> simp

@[simp] theorem outer_activate (s : State) (v r) : (s.activate v r).outer = s.outer := by
  have h (s : State) (f : Vct → Vct) (g : (f s.vct).nextId = s.vct.nextId) (k : (f s.vct).bookings = s.vct.bookings) :
    (s.onVct f).outer = s.outer := outer_onVct _ _ g k
  have lock (l : List Nat) (t : Vct) (v : Nat) : (l.foldl (fun t c => t.lock v c) t).nextId = t.nextId ∧
      (l.foldl (fun t c => t.lock v c) t).bookings = t.bookings := by
    induction l generalizing t with
    | nil => exact ⟨rfl, rfl⟩
    | cons c l ih =>
      obtain ⟨a, b⟩ := ih (t.lock v c)
      constructor
      · rw [List.foldl_cons, a]; unfold Vct.lock; split <;> rfl
      · rw [List.foldl_cons, b]; unfold Vct.lock; split <;> rfl
  unfold State.activate
  dsimp only
  split
  · simp
  · rw [outer_raise, h]
    · simp
    · exact (lock _ _ _).1
    · exact (lock _ _ _).2

@[simp] theorem outer_arrive (s : State) (v) : (s.arrive v).outer = s.outer := by
  unfold State.arrive; split <;> simp

@[simp] theorem outer_arrivals (s : State) : s.arrivals.outer = s.outer := outer_foldl _ (by simp) _ _

@[simp] theorem outer_runLockArbiter (s : State) : s.runLockArbiter.outer = s.outer :=
  outer_foldl _ (fun s v => by split <;> simp) _ _

@[simp] theorem outer_closeVisitNow (s : State) (v) : (s.closeVisitNow v).outer = s.outer := by
  have h (l : List Nat) (s : State) (f : Permit → Permit) : (l.foldl (fun s id => s.onPermit id f) s).outer = s.outer :=
    outer_foldl _ (by simp) _ _
  have g (s : State) (n v : Nat) : (s.onVct fun t => { t.unlock v with closes := n }).outer = s.outer :=
    outer_onVct _ _ rfl rfl
  unfold State.closeVisitNow
  dsimp only
  repeat' split
  all_goals simp [h, g]

@[simp] theorem outer_visitCloseCheck (s : State) (id) : (s.visitCloseCheck id).outer = s.outer := by
  unfold State.visitCloseCheck
  repeat' split
  all_goals simp

@[simp] theorem outer_visitPermitEnd (s : State) (v p) : (s.visitPermitEnd v p).outer = s.outer := by
  unfold State.visitPermitEnd
  repeat' split
  all_goals simp

@[simp] theorem outer_visitOrder (s : State) (v p) : (s.visitOrder v p).outer = s.outer := by
  unfold State.visitOrder
  repeat' split
  all_goals first
    | simp
    | (cases h : s.returnPermit _ with
       | none => rfl
       | some t => exact outer_returnPermit _ _ _ h)

@[simp] theorem outer_visitOrdersDone (s : State) (v l) : (s.visitOrdersDone v l).outer = s.outer := by
  unfold State.visitOrdersDone
  dsimp only
  rw [outer_visitCloseCheck, outer_onVisit, outer_foldl _ (by simp)]

/-! ### Every signal -/

theorem outer_doTask (t : Task) (s : State) : (doTask t s).outer = s.outer := by
  cases t <;> simp [doTask, State.startupNotice]

theorem outer_handNext (t : Task) (rest : List Task) (s : State) : (handNext t rest s).outer = s.outer := by
  simp [handNext, outer_doTask]

/-- However many signals are handed on, `State.outer` stays. -/
theorem outer_settleWithin (n : Nat) (s : State) : (settleWithin n s).outer = s.outer := by
  induction n generalizing s with
  | zero => rfl
  | succ n ih =>
    unfold settleWithin
    split
    · rfl
    · rw [ih, outer_handNext]

@[simp] theorem outer_settle (s : State) : s.settle.outer = s.outer := outer_settleWithin _ _

end Sys2Proof.Machine
end

