-- ==== Sys2Proof/Laws/Settle.lean ====
section
/-! SUPPORT. How the signals inside a command are handed on: one at a time, and what the meeting of triggers comes to
where no permit is live and every sequencer is NORMAL. -/

namespace Sys2Proof.Machine

theorem settleWithin_nil (n : Nat) (s : State) (h : s.agenda = []) : settleWithin n s = s := by
  cases n with
  | zero => rfl
  | succ n => simp [settleWithin, h]

theorem settle_nil (s : State) (h : s.agenda = []) : s.settle = s := settleWithin_nil _ _ h

theorem settleWithin_cons (n : Nat) (s : State) (t : Task) (rest : List Task) (h : s.agenda = t :: rest) :
    settleWithin (n + 1) s = settleWithin n (handNext t rest s) := by
  simp [settleWithin, h]

/-- `k` signals handed on take `s` to `t`. -/
inductive Hands : Nat → State → State → Prop where
  | none (s) : Hands 0 s s
  | more {k s u} (t rest) (h : s.agenda = t :: rest) (r : Hands k (handNext t rest s) u) : Hands (k + 1) s u

theorem Hands.trans {j k : Nat} {s t u : State} (a : Hands j s t) (b : Hands k t u) : Hands (j + k) s u := by
  induction a with
  | none s => simpa using b
  | more t rest h r ih => rw [Nat.add_right_comm]; exact .more t rest h (ih b)

theorem Hands.settleWithin {k : Nat} {s t : State} (h : Hands k s t) (n : Nat) :
    Machine.settleWithin (k + n) s = Machine.settleWithin n t := by
  induction h with
  | none s => simp
  | more t rest h r ih => rw [Nat.add_right_comm, settleWithin_cons _ _ _ _ h, ih]

/-- Signals that come to their end within the bound give what `settle` gives. -/
theorem Hands.settle {k : Nat} {s t : State} (h : Hands k s t) (hk : k ≤ settleBound) (ht : t.agenda = []) : s.settle = t := by
  obtain ⟨n, hn⟩ := Nat.exists_eq_add_of_le hk
  rw [State.settle, hn, h.settleWithin, settleWithin_nil _ _ ht]

/-- One signal that gives rise to no other. -/
theorem Hands.one {s : State} {t : Task} {rest : List Task} (h : s.agenda = t :: rest) : Hands 1 s (handNext t rest s) :=
  .more t rest h (.none _)

/-! ### Passes that find nothing -/

theorem State.waitQueue_nil (s : State) (b : Bus) (h : s.par.permits = []) : s.waitQueue b = [] := by
  simp [State.waitQueue, h]

theorem yieldTests_nil (s : State) (b : Bus) (h : s.par.permits = []) : s.yieldTests b = s := by
  simp [State.yieldTests, h]

theorem yieldWithdrawals_nil (s : State) (b : Bus) (h : s.par.permits = []) : s.yieldWithdrawals b = s := by
  unfold State.yieldWithdrawals
  split
  · rfl
  · simp [h, yieldLoop]

theorem grantAdoptions_nil (s : State) (b : Bus) (h : s.par.permits = []) : s.grantAdoptions b = s := by
  simp [State.grantAdoptions, State.waitQueue_nil s b h]

theorem grantHeads_nil (s : State) (b : Bus) (h : s.par.permits = []) : s.grantHeads b = s := by
  simp [State.grantHeads, State.waitQueue_nil s b h]

theorem returnCheck_normal (s : State) (b : Bus) (h : (s.seqOf b).state = .normal) : s.returnCheck b = s := by
  simp [State.returnCheck, h]

/-! ### A recomputation changes figures and notices alone -/

theorem Notices.join_queue (n : Notices) (x : Notice) : n.queue <+: (n.join x).queue := by
  unfold Notices.join
  split <;> simp [Notices.examine]

/-- What a recomputation leaves as it was: everything but the bus figures and the notices. -/
def State.figuresOff (s : State) : State := { s with buses := Vector.replicate 4 none, notices := .initial }

theorem figuresOff_raise (s : State) (k subj v r) : (s.raise k subj v r).figuresOff = s.figuresOff := rfl

theorem figuresOff_recompute (s : State) (b : Bus) : (s.recompute b).figuresOff = s.figuresOff := by
  unfold State.recompute
  split
  · rfl
  · unfold State.raiseBus
    dsimp only
    repeat' split
    all_goals rfl

theorem raise_queue (s : State) (k subj v r) : s.notices.queue <+: (s.raise k subj v r).notices.queue :=
  Notices.join_queue _ _

theorem recompute_queue (s : State) (b : Bus) : s.notices.queue <+: (s.recompute b).notices.queue := by
  unfold State.recompute
  split
  · exact List.prefix_rfl
  · unfold State.raiseBus
    dsimp only
    repeat' split
    all_goals first
      | exact (raise_queue ..).trans (raise_queue ..)
      | exact raise_queue ..
      | exact List.prefix_rfl

/-! ### The meeting of triggers where the passes find nothing -/

/-- The number of buses with an unmet trigger. -/
def State.unmet (s : State) : Nat := (busList.filter fun b => s.triggers[b]).length

theorem State.recompute_par (s : State) (b : Bus) : (s.recompute b).par = s.par := by
  have := congrArg State.par (figuresOff_recompute s b); exact this
theorem State.recompute_agenda (s : State) (b : Bus) : (s.recompute b).agenda = s.agenda := by
  have := congrArg State.agenda (figuresOff_recompute s b); exact this
theorem State.recompute_hold (s : State) (b : Bus) : (s.recompute b).hold = s.hold := by
  have := congrArg State.hold (figuresOff_recompute s b); exact this
theorem State.recompute_triggers (s : State) (b : Bus) : (s.recompute b).triggers = s.triggers := by
  have := congrArg State.triggers (figuresOff_recompute s b); exact this

/-- A trigger met: cleared, and the bus recomputed where it is defined. -/
def State.metBus (s : State) (b : Bus) : State :=
  let s := s.onTriggers fun v => v.set b false
  if (s.bus b).isSome then s.recompute b else s

theorem State.metBus_off (s : State) (b : Bus) :
    (s.metBus b).figuresOff = (s.onTriggers fun v => v.set b false).figuresOff := by
  unfold State.metBus
  dsimp only
  split
  · exact figuresOff_recompute _ _
  · rfl

theorem State.metBus_par (s : State) (b : Bus) : (s.metBus b).par = s.par := by
  have := congrArg State.par (s.metBus_off b); exact this
theorem State.metBus_hold (s : State) (b : Bus) : (s.metBus b).hold = s.hold := by
  have := congrArg State.hold (s.metBus_off b); exact this
theorem State.metBus_agenda (s : State) (b : Bus) : (s.metBus b).agenda = s.agenda := by
  have := congrArg State.agenda (s.metBus_off b); exact this
theorem State.metBus_triggers (s : State) (b : Bus) : (s.metBus b).triggers = s.triggers.set b false := by
  have := congrArg State.triggers (s.metBus_off b); exact this

theorem State.firstTrigger_none {s : State} (h : s.firstTrigger = none) : s.triggers = Vector.replicate 4 false := by
  have all : ∀ b : Bus, s.triggers[b] = false := by
    intro b
    have := List.find?_eq_none.mp h b (by fin_cases b <;> decide)
    simpa using this
  ext i hi
  have := all ⟨i, hi⟩
  simpa using this

theorem State.firstTrigger_some {s : State} {b : Bus} (h : s.firstTrigger = some b) : s.triggers[b] = true := by
  simpa using List.find?_some h

theorem State.unmet_set {s t : State} {b : Bus} (h : s.triggers[b] = true) (ht : t.triggers = s.triggers.set b false) :
    t.unmet < s.unmet := by
  have g : ∀ v : Vector Bool 4, ∀ b : Bus, v[b] = true →
      (busList.filter fun x => (v.set b false)[x]).length < (busList.filter fun x => v[x]).length := by
    intro v b hb
    have e : v = #v[v[0], v[1], v[2], v[3]] := by ext i hi; interval_cases i <;> rfl
    revert hb
    rw [e]
    generalize v[0] = x0; generalize v[1] = x1; generalize v[2] = x2; generalize v[3] = x3
    revert x0 x1 x2 x3 b
    decide
  unfold State.unmet
  rw [ht]
  exact g _ _ h

theorem recompute_onAgenda (s : State) (b : Bus) (f) : (s.onAgenda f).recompute b = (s.recompute b).onAgenda f := by
  unfold State.recompute
  rw [show (s.onAgenda f).bus b = s.bus b from rfl]
  cases s.bus b with
  | none => rfl
  | some u =>
    unfold State.raiseBus
    dsimp only
    rw [show (s.onAgenda f).strict b u.defn = s.strict b u.defn from rfl,
      show (s.onAgenda f).securityOf b u.defn = s.securityOf b u.defn from rfl]
    split_ifs <;> rfl

theorem metBus_onAgenda (s : State) (b : Bus) (f) : (s.onAgenda f).metBus b = (s.metBus b).onAgenda f := by
  unfold State.metBus
  dsimp only
  rw [show ((s.onAgenda f).onTriggers fun v => v.set b false) = (s.onTriggers fun v => v.set b false).onAgenda f from rfl,
    recompute_onAgenda]
  split_ifs <;> first | rfl | contradiction

theorem handNext_idle {t : Task} {s : State} (l : List Task) (h : doTask t (s.onAgenda fun _ => []) = s.onAgenda fun _ => []) :
    handNext t l s = s.onAgenda fun _ => l := by
  unfold handNext
  rw [h]
  rfl

/-- A signal that finds nothing to do. -/
theorem Hands.idle {k : Nat} {t : Task} {s u : State} {l : List Task}
    (h : doTask t (s.onAgenda fun _ => []) = s.onAgenda fun _ => []) (r : Hands k (s.onAgenda fun _ => l) u) :
    Hands (k + 1) (s.onAgenda fun _ => t :: l) u := by
  refine .more t l rfl ?_
  have : handNext t l (s.onAgenda fun _ => t :: l) = s.onAgenda fun _ => l := by
    unfold handNext
    rw [show (s.onAgenda fun _ => t :: l).onAgenda (fun _ => []) = s.onAgenda fun _ => [] from rfl, h]
    rfl
  rw [this]
  exact r

/-- The passes of bus `b` find nothing to do in a state. -/
structure State.PassesRest (s : State) (b : Bus) : Prop where
  tests : s.yieldTests b = s
  withdrawals : s.yieldWithdrawals b = s
  adoptions : s.grantAdoptions b = s
  heads : s.grantHeads b = s
  returns : s.returnCheck b = s

theorem passesRest_of_none {s : State} {b : Bus} (hp : s.par.permits = []) (hn : (s.seqOf b).state = .normal) :
    s.PassesRest b :=
  ⟨yieldTests_nil s b hp, yieldWithdrawals_nil s b hp, grantAdoptions_nil s b hp, grantHeads_nil s b hp,
    returnCheck_normal s b hn⟩

/-- The bus recomputed inside its handing to the PAR, as the passes find it. -/
def State.handed (s : State) (b : Bus) : State := ((s.metBus b).onHold (· + 1)).onAgenda fun _ => []

/-- A trigger met where the passes of the bus find nothing: the bus is recomputed. -/
theorem hands_rest (s : State) (b : Bus) (rest : List Task) (ha : s.agenda = .recompute b :: rest) (hh : s.hold = 0)
    (hp : (s.handed b).PassesRest b) :
    ∃ k ≤ 8, ∃ l, Hands k s ((s.metBus b).onAgenda fun _ => l ++ rest) ∧ (l = [] ∨ l = [.meet]) := by
  by_cases hb : (s.bus b).isSome
  · refine ⟨8, le_rfl, [.meet], ?_, .inr rfl⟩
    have hhold : (s.metBus b).hold = 0 := (s.metBus_hold b).trans hh
    have first : handNext (.recompute b) rest s = (s.metBus b).onAgenda fun _ =>
        [.openHold, .yieldTests b, .yieldWithdrawals b, .grantAdoptions b, .grantHeads b, .returnCheck b, .closeHold] ++ rest := by
      have e : (s.onAgenda fun _ => []).recomputeBus b = ((s.onAgenda fun _ => []).metBus b).push
          [.openHold, .yieldTests b, .yieldWithdrawals b, .grantAdoptions b, .grantHeads b, .returnCheck b, .closeHold] := by
        unfold State.recomputeBus State.metBus
        have : (((s.onAgenda fun _ => []).onTriggers fun v => v.set b false).bus b).isSome := hb
        simp [this]
      simp only [handNext, doTask, e, metBus_onAgenda]
      rfl
    unfold State.handed at hp
    generalize s.metBus b = x at *
    refine .more _ _ ha ?_
    rw [first]
    refine .more .openHold _ rfl ?_
    change Hands 6 ((x.onHold (· + 1)).onAgenda fun _ =>
      .yieldTests b :: .yieldWithdrawals b :: .grantAdoptions b :: .grantHeads b :: .returnCheck b :: .closeHold :: rest) _
    refine .idle (s := x.onHold (· + 1)) hp.tests ?_
    refine .idle (s := x.onHold (· + 1)) hp.withdrawals ?_
    refine .idle (s := x.onHold (· + 1)) hp.adoptions ?_
    refine .idle (s := x.onHold (· + 1)) hp.heads ?_
    refine .idle (s := x.onHold (· + 1)) hp.returns ?_
    refine .more .closeHold rest rfl ?_
    have last : handNext .closeHold rest ((x.onHold (· + 1)).onAgenda fun _ => .closeHold :: rest) =
        x.onAgenda fun _ => [.meet] ++ rest := by
      simp only [handNext, doTask, State.closeHold, State.push, State.onAgenda, State.onHold, hhold, List.cons_append,
        List.nil_append, Nat.zero_add, Nat.sub_self]
    rw [last]
    exact .none _
  · refine ⟨1, by omega, [], ?_, .inl rfl⟩
    refine .more _ _ ha ?_
    have : handNext (.recompute b) rest s = (s.metBus b).onAgenda fun _ => [] ++ rest := by
      have hb' : ¬ (((s.onAgenda fun _ => []).onTriggers fun v => v.set b false).bus b).isSome := hb
      have hb'' : ¬ ((s.onTriggers fun v => v.set b false).bus b).isSome := hb
      simp only [handNext, doTask, State.recomputeBus, State.metBus, if_neg hb', if_neg hb'']
      rfl
    rw [this]
    exact .none _

/-- A trigger met where no permit is live and the sequencer is NORMAL: the bus is recomputed, and its passes find
nothing. -/
theorem hands_bus (s : State) (b : Bus) (rest : List Task) (ha : s.agenda = .recompute b :: rest) (hh : s.hold = 0)
    (hp : s.par.permits = []) (hn : (s.seqOf b).state = .normal) :
    ∃ k ≤ 8, ∃ l, Hands k s ((s.metBus b).onAgenda fun _ => l ++ rest) ∧ (l = [] ∨ l = [.meet]) := by
  have hpar : (s.metBus b).par = s.par := s.metBus_par b
  refine hands_rest s b rest ha hh (passesRest_of_none ?_ ?_)
  · change (s.metBus b).par.permits = []
    rw [hpar, hp]
  · change ((s.metBus b).seqOf b).state = .normal
    unfold State.seqOf at hn ⊢
    rw [hpar, hn]

theorem State.metAt_eq (s : State) (b : Bus) : s.metAt b = if s.triggers[b] then s.metBus b else s := by
  unfold State.metAt State.metBus
  by_cases h : (s.bus b).isSome
  · have : ((s.onTriggers fun v => v.set b false).bus b).isSome := h
    simp [this]
  · have e : s.bus b = none := by simpa using h
    have e : (s.onTriggers fun v => v.set b false).bus b = none := e
    simp [State.recompute, e]

theorem State.metAt_met {s : State} {b : Bus} (h : s.triggers[b] = true) : s.metAt b = s.metBus b := by
  rw [State.metAt_eq, if_pos h]

theorem State.metAt_rest {s : State} {b : Bus} (h : s.triggers[b] = false) : s.metAt b = s := by
  rw [State.metAt_eq, h]
  rfl

theorem State.met_none {s : State} (h : s.triggers = Vector.replicate 4 false) : s.met = s := by
  have rest : ∀ b : Bus, s.metAt b = s := fun b => State.metAt_rest (by rw [h]; fin_cases b <;> rfl)
  simp [State.met, busList, rest]

/-- The triggers are met one after another, from the first. -/
theorem State.met_first {s : State} {b : Bus} (h : s.firstTrigger = some b) : s.met = (s.metBus b).met := by
  have tb := State.firstTrigger_some h
  have trig : ∀ x : Bus, (s.metBus b).triggers[x] = if x = b then false else s.triggers[x] := by
    intro x
    rw [s.metBus_triggers]
    by_cases hx : x = b
    · subst hx; simp
    · have : ¬ b.val = x.val := fun e => hx (Fin.ext e.symm)
      simp [hx, this]
  have skip : ∀ x : Bus, (x = b ∨ s.triggers[x] = false) → (s.metBus b).metAt x = s.metBus b := by
    intro x hx
    refine State.metAt_rest ?_
    rw [trig]
    split
    · rfl
    · exact hx.resolve_left (by assumption)
  have key : b = 0 ∨ (s.triggers[(0 : Bus)] = false ∧ (b = 1 ∨ (s.triggers[(1 : Bus)] = false ∧
      (b = 2 ∨ (s.triggers[(2 : Bus)] = false ∧ b = 3))))) := by
    simp only [State.firstTrigger, busList, List.find?_cons, List.find?_nil] at h
    cases h0 : s.triggers[(0 : Bus)] <;> cases h1 : s.triggers[(1 : Bus)] <;> cases h2 : s.triggers[(2 : Bus)] <;>
      rw [h0] at h <;> try rw [h1] at h
    all_goals try rw [h2] at h
    all_goals cases h3 : s.triggers[(3 : Bus)] <;> try rw [h3] at h
    all_goals simp_all
  have first := State.metAt_met tb
  unfold State.met busList
  simp only [List.foldl_cons, List.foldl_nil]
  rcases key with rfl | ⟨h0, rfl | ⟨h1, rfl | ⟨h2, rfl⟩⟩⟩
  · rw [first, skip 0 (.inl rfl)]
  · rw [State.metAt_rest h0, first, skip 0 (.inr h0), skip 1 (.inl rfl)]
  · rw [State.metAt_rest h0, State.metAt_rest h1, first, skip 0 (.inr h0), skip 1 (.inr h1), skip 2 (.inl rfl)]
  · rw [State.metAt_rest h0, State.metAt_rest h1, State.metAt_rest h2, first, skip 0 (.inr h0), skip 1 (.inr h1),
      skip 2 (.inr h2), skip 3 (.inl rfl)]

theorem State.met_onAgenda (s : State) (f) : (s.onAgenda f).met = s.met.onAgenda f := by
  have one : ∀ (x : State) (b : Bus), (x.onAgenda f).metAt b = (x.metAt b).onAgenda f := by
    intro x b
    cases h : x.triggers[b] with
    | true => rw [State.metAt_met (s := x.onAgenda f) h, State.metAt_met h, metBus_onAgenda]
    | false => rw [State.metAt_rest (s := x.onAgenda f) h, State.metAt_rest h]
  simp [State.met, busList, one]

theorem State.met_agenda (s : State) : s.met.agenda = s.agenda := by
  have one : ∀ (x : State) (b : Bus), (x.metAt b).agenda = x.agenda := by
    intro x b
    rw [State.metAt_eq]
    split
    · exact x.metBus_agenda b
    · rfl
  simp [State.met, busList, one]

/-- The meeting of every trigger where no permit is live and every sequencer is NORMAL. -/
theorem hands_meet (n : Nat) : ∀ (s : State) (rest : List Task), s.unmet ≤ n → s.agenda = .meet :: rest → s.hold = 0 →
    s.NoTransfers → ∃ k ≤ 10 * n + 1, Hands k s (s.met.onAgenda fun _ => rest) ∧ s.met.hold = 0 ∧
      s.met.triggers = Vector.replicate 4 false := by
  have done : ∀ (s : State) (rest : List Task), s.firstTrigger = none → s.agenda = .meet :: rest → s.hold = 0 →
      Hands 1 s (s.met.onAgenda fun _ => rest) ∧ s.met.hold = 0 ∧ s.met.triggers = Vector.replicate 4 false := by
    intro s rest hf ha hh
    have ht := State.firstTrigger_none hf
    rw [State.met_none ht]
    refine ⟨.more .meet rest ha ?_, hh, ht⟩
    rw [handNext_idle]
    · exact .none _
    · have : (s.onAgenda fun _ => []).firstTrigger = none := hf
      simp [doTask, State.meet, hh, this]
  induction n with
  | zero =>
    intro s rest hu ha hh hp
    have hf : s.firstTrigger = none := by
      by_contra h
      obtain ⟨b, hb⟩ := Option.ne_none_iff_exists'.mp h
      have hu : s.unmet = 0 := Nat.le_zero.mp hu
      have := List.filter_eq_nil_iff.mp (List.length_eq_zero_iff.mp hu) b (by fin_cases b <;> decide)
      exact this (State.firstTrigger_some hb)
    exact ⟨1, by omega, done s rest hf ha hh⟩
  | succ n ih =>
    intro s rest hu ha hh hp
    cases hf : s.firstTrigger with
    | none => exact ⟨1, by omega, done s rest hf ha hh⟩
    | some b =>
      have first : handNext .meet rest s = s.onAgenda fun _ => .recompute b :: .meet :: rest := by
        have : (s.onAgenda fun _ => []).firstTrigger = some b := hf
        simp only [handNext, doTask, State.meet, State.onAgenda_hold, hh, if_pos, this]
        rfl
      obtain ⟨k, hk, l, hands, hl⟩ := hands_bus (s.onAgenda fun _ => .recompute b :: .meet :: rest) b (.meet :: rest) rfl hh
        hp.1 (hp.2 b)
      rw [metBus_onAgenda] at hands
      have hands := Hands.more .meet rest ha (first ▸ hands)
      have par : (s.metBus b).par = s.par := s.metBus_par b
      have nt : (s.metBus b).NoTransfers := by
        refine ⟨by rw [par, hp.1], fun x => ?_⟩
        have := hp.2 x
        unfold State.seqOf at this ⊢
        rw [par, this]
      have less : (s.metBus b).unmet ≤ n :=
        Nat.le_of_lt_succ (Nat.lt_of_lt_of_le (State.unmet_set (State.firstTrigger_some hf) (s.metBus_triggers b)) hu)
      have hold : (s.metBus b).hold = 0 := (s.metBus_hold b).trans hh
      rw [State.met_first hf]
      generalize s.metBus b = x at *
      rcases hl with rfl | rfl
      · obtain ⟨j, hj, h1, h2, h3⟩ := ih (x.onAgenda fun _ => .meet :: rest) rest less rfl hold nt
        rw [State.met_onAgenda] at h1 h2 h3
        generalize x.met = y at *
        exact ⟨k + 1 + j, by omega, hands.trans h1, h2, h3⟩
      · obtain ⟨j, hj, h1, h2, h3⟩ := ih (x.onAgenda fun _ => .meet :: .meet :: rest) (.meet :: rest) less rfl hold nt
        rw [State.met_onAgenda] at h1 h2 h3
        generalize x.met = y at *
        have hz : y.hold = 0 := h2
        have ht : y.triggers = Vector.replicate 4 false := h3
        have last : handNext .meet rest (y.onAgenda fun _ => .meet :: rest) = y.onAgenda fun _ => rest := by
          have hn : (y.onAgenda fun _ => []).firstTrigger = none := by
            unfold State.firstTrigger
            rw [State.onAgenda_triggers, ht]
            decide
          have : doTask .meet (y.onAgenda fun _ => []) = y.onAgenda fun _ => [] := by
            simp [doTask, State.meet, hz, hn]
          unfold handNext
          rw [show (y.onAgenda fun _ => Task.meet :: rest).onAgenda (fun _ => []) = y.onAgenda fun _ => [] from rfl, this]
          rfl
        have final : Hands 1 (y.onAgenda fun _ => .meet :: rest) (y.onAgenda fun _ => rest) := by
          have := Hands.one (s := y.onAgenda fun _ => .meet :: rest) (t := .meet) (rest := rest) rfl
          rwa [last] at this
        have all : Hands (k + 1 + j) s (y.onAgenda fun _ => .meet :: rest) := hands.trans h1
        exact ⟨k + 1 + j + 1, by omega, all.trans final, hz, ht⟩

/-- What `settle` comes to where only the meeting of triggers waits, no permit is live and every sequencer is NORMAL: every
trigger that stands is met. -/
theorem settle_meet {s : State} (ha : s.agenda = [.meet]) (hh : s.hold = 0) (hp : s.NoTransfers) :
    s.settle = s.met.onAgenda (fun _ => []) ∧ s.met.hold = 0 ∧ s.met.triggers = Vector.replicate 4 false := by
  have le : s.unmet ≤ 4 := (List.length_filter_le _ _).trans (by decide)
  obtain ⟨k, hk, hands, h1, h2⟩ := hands_meet 4 s [] le ha hh hp
  exact ⟨hands.settle (by unfold settleBound; omega) rfl, h1, h2⟩

/-- What `settle` comes to where the trigger of one bus alone is unmet and its passes find nothing: the bus is
recomputed. -/
theorem settle_one {s : State} {b : Bus} (ha : s.agenda = [.meet]) (hh : s.hold = 0)
    (ht : s.triggers = (Vector.replicate 4 false).set b true) (hp : (s.handed b).PassesRest b) :
    s.settle = (s.metBus b).onAgenda fun _ => [] := by
  have hf : s.firstTrigger = some b := by
    unfold State.firstTrigger
    rw [ht]
    fin_cases b <;> rfl
  have first : handNext .meet [] s = s.onAgenda fun _ => .recompute b :: [.meet] := by
    have : (s.onAgenda fun _ => []).firstTrigger = some b := hf
    simp only [handNext, doTask, State.meet, State.onAgenda_hold, hh, if_pos, this]
    rfl
  have hp' : ((s.onAgenda fun _ => .recompute b :: [.meet]).handed b).PassesRest b := by
    unfold State.handed at hp ⊢
    rw [metBus_onAgenda]
    exact hp
  obtain ⟨k, hk, l, hands, hl⟩ := hands_rest (s.onAgenda fun _ => .recompute b :: [.meet]) b [.meet] rfl hh hp'
  rw [metBus_onAgenda] at hands
  have hands := Hands.more .meet [] ha (first ▸ hands)
  have clear : (s.metBus b).triggers = Vector.replicate 4 false := by
    rw [s.metBus_triggers, ht]
    fin_cases b <;> rfl
  have last : ∀ rest : List Task, handNext .meet rest (((s.metBus b)).onAgenda fun _ => .meet :: rest) =
      (s.metBus b).onAgenda fun _ => rest := by
    intro rest
    have hn : ((s.metBus b).onAgenda fun _ => []).firstTrigger = none := by
      unfold State.firstTrigger
      rw [State.onAgenda_triggers, clear]
      decide
    have : doTask .meet ((s.metBus b).onAgenda fun _ => []) = (s.metBus b).onAgenda fun _ => [] := by
      simp [doTask, State.meet, hn]
    unfold handNext
    rw [show ((s.metBus b).onAgenda fun _ => Task.meet :: rest).onAgenda (fun _ => []) = (s.metBus b).onAgenda fun _ => []
      from rfl, this]
    rfl
  rcases hl with rfl | rfl
  · refine Hands.settle (k := k + 1 + 1) (hands.trans ?_) (by unfold settleBound; omega) rfl
    exact .more .meet [] rfl (last [] ▸ .none _)
  · refine Hands.settle (k := k + 1 + 2) (hands.trans ?_) (by unfold settleBound; omega) rfl
    exact .more .meet [.meet] rfl (last [.meet] ▸ .more .meet [] rfl (last [] ▸ .none _))

/-- The same where no trigger is unmet: nothing changes but the agenda. -/
theorem settle_meet_none {s : State} (ha : s.agenda = [.meet]) (ht : s.triggers = Vector.replicate 4 false) :
    s.settle = s.onAgenda fun _ => [] := by
  have hn : (s.onAgenda fun _ => []).firstTrigger = none := by
    unfold State.firstTrigger
    rw [State.onAgenda_triggers, ht]
    decide
  refine Hands.settle (k := 1) (.more .meet [] ha ?_) (by decide) rfl
  rw [handNext_idle]
  · exact .none _
  · simp [doTask, State.meet, hn]

end Sys2Proof.Machine
end

