-- ==== Sys2Proof/Laws/Line.lean ====
section
/-! SUPPORT. What running a command comes to while no signal waits, and what a request comes to while it is handled at
once. -/

namespace Sys2Proof.Machine

/-- A command on a part that runs and has no signal waiting. -/
theorem run_running {s : State} (h : s.Running) (work : State → State) : run work s = .next (work s).settle := by
  rw [run, if_pos h.1, settle_nil s h.2]

/-- A command whose own work leaves no signal. -/
theorem run_done {s : State} (h : s.Running) {work : State → State} (hw : (work s).agenda = []) :
    run work s = .next (work s) := by
  rw [run_running h, settle_nil _ hw]

/-- A receive queue that is empty and gains one frame loses it again as the frame is handled. -/
theorem State.queue_cycle {s : State} (h : s.host.queue = []) (f : Frame) :
    (s.onHost fun x => { x with queue := x.queue ++ [f] }).onHost (fun x => { x with queue := [] }) = s := by
  cases s with | mk pending power startCause floor buses cabinets loadedSaved clc scs test par vct ims clock host notices agenda triggers hold freeCount =>
  cases host
  simp only at h
  subst h
  rfl

/-- A frame that arrives on a free line is handled at once. -/
theorem acceptFrame_free {s : State} (h : s.LineFree) (f : Frame) : s.acceptFrame f = s.handleFrame f := by
  obtain ⟨hr, hq, hb, -, hw⟩ := h
  have hrec : (s.host.receive f) = { s.host with queue := s.host.queue ++ [f] } := by
    simp [HostLine.receive, hq, Config.frameCapacity]
  unfold State.acceptFrame
  rw [show (s.onHost fun x => x.receive f) = s.onHost fun x => { x with queue := x.queue ++ [f] } by
    simp only [State.onHost]; rw [hrec]]
  unfold State.transmit
  simp only [State.onHost_host, hr, hb, hq, List.nil_append, hw, Bool.false_eq_true, if_false]
  rw [State.queue_cycle hq]

/-- The reply in progress after a frame is handled. -/
theorem handleFrame_answered (s : State) (f : Frame) :
    s.handleFrame f =
      (s.answerFrame f).1.settle.answered f.kind f.tag (s.answerFrame f).2.status (s.answerFrame f).2.rest := rfl

theorem answered_agenda (s : State) (k t : Byte) (st : Status) (r : List Byte) : (s.answered k t st r).agenda = s.agenda := rfl

/-- A request of a frame of at most 120 body octets, on a ready part whose answer's signals come to an end. -/
theorem arrive_ready {s : State} (h : s.Ready) {f : Frame} (hb : f.body.length ≤ 120)
    (ha : (s.answerFrame f).1.settle.agenda = []) :
    run (State.arriveFrame f) s = .next
      ((s.answerFrame f).1.settle.answered f.kind f.tag (s.answerFrame f).2.status (s.answerFrame f).2.rest) := by
  have e : State.arriveFrame f s = s.handleFrame f := by
    rw [State.arriveFrame, if_pos hb, acceptFrame_free h.2]
  rw [run_running h.1.1, e, handleFrame_answered, settle_nil]
  rw [answered_agenda, ha]

/-- A request by kind, once its answer is known. -/
theorem request_answer {s t u : State} (h : s.Ready) {k : RequestKind} {tag : Byte} {body : List Byte} {r : Reply}
    (hb : body.length ≤ 120) (hk : handleKind k s body = (t, r)) (ht : t.settle = u) (hu : u.agenda = []) :
    request k tag body s = .next (u.answered (kindCode k) tag r.status r.rest) := by
  have e : s.answerFrame { kind := kindCode k, tag := tag, body := body } = (t, r) := by
    unfold State.answerFrame
    rw [show kindOfCode (kindCode k) = some k by cases k <;> rfl]
    exact hk
  unfold request
  rw [arrive_ready h hb (by rw [e]; simpa [ht] using hu), e, ht]

/-- A request whose answer leaves no signal. -/
theorem request_done {s t : State} (h : s.Ready) {k : RequestKind} {tag : Byte} {body : List Byte} {r : Reply}
    (hb : body.length ≤ 120) (hk : handleKind k s body = (t, r)) (ht : t.agenda = []) :
    request k tag body s = .next (t.answered (kindCode k) tag r.status r.rest) :=
  request_answer h hb hk (settle_nil t ht) ht

/-- A request whose answer leaves the meeting of triggers alone, with none unmet. -/
theorem request_met {s t : State} (h : s.Ready) {k : RequestKind} {tag : Byte} {body : List Byte} {r : Reply}
    (hb : body.length ≤ 120) (hk : handleKind k s body = (t.push [.meet], r)) (ha : t.agenda = [])
    (ht : t.triggers = Vector.replicate 4 false) :
    request k tag body s = .next (t.answered (kindCode k) tag r.status r.rest) := by
  refine request_answer h hb hk (u := t) ?_ ha
  rw [settle_meet_none (by simp [State.push, ha]) (by simpa [State.push] using ht)]
  unfold State.push State.onAgenda
  cases t
  simp_all

/-- A request whose answer leaves the meeting of triggers, on a part without live permits and with every sequencer
NORMAL: every trigger that stands is met. -/
theorem request_meets {s t : State} (h : s.Ready) {k : RequestKind} {tag : Byte} {body : List Byte} {r : Reply}
    (hb : body.length ≤ 120) (hk : handleKind k s body = (t.push [.meet], r)) (ha : t.agenda = []) (hh : t.hold = 0)
    (hp : t.NoTransfers) :
    request k tag body s = .next (t.met.answered (kindCode k) tag r.status r.rest) := by
  refine request_answer h hb hk (u := t.met) ?_ ?_
  · rw [(settle_meet (s := t.push [.meet]) (by simp [State.push, ha]) (by simpa [State.push] using hh)
      (by simpa [State.push, State.NoTransfers, State.seqOf] using hp)).1]
    have e : (t.push [.meet]).met = t.met.onAgenda fun a => a ++ [.meet] := State.met_onAgenda t _
    have c : t.met.agenda = [] := by rw [State.met_agenda, ha]
    rw [e]
    generalize t.met = y at *
    unfold State.onAgenda
    cases y
    simp_all
  · rw [State.met_agenda, ha]

end Sys2Proof.Machine
end

