-- ==== Sys2Proof/Laws/PerInstr.lean ====
section
/-! SUPPORT. Statements about every command as syntax, one lemma per constructor. -/

namespace Sys2Proof.Laws.FrameFits

/-- A well-formed request row stands for a frame of at most 120 body octets, whose KIND is in Table 10-3 unless the row
is UNKNOWN_KIND_REQUEST (R168, R172). -/
def Statement (i : Instr) : Prop :=
  i.wellFormed = true → ∀ f, Machine.requestFrame i = some f →
    f.body.length ≤ 120 ∧ ((Machine.kindOfCode f.kind).isNone = true ↔ ∃ k t b, i = .unknownKindRequest k t b)

/-- The KIND octets listed for well-formedness are those that name a kind. -/
theorem kindOctets_named (k : Byte) : kindOctets.contains k = (Machine.kindOfCode k).isSome := by
  revert k; decide +kernel

/-- A row of a kind whose body fits. -/
theorem of_body (k : RequestKind) (t : Byte) (b : List Byte) (i : Instr) (h : b.length ≤ 120)
    (hi : ∀ k t b, i ≠ .unknownKindRequest k t b) (f : Machine.Frame) (hf : Machine.ofKind k t b = some f) :
    f.body.length ≤ 120 ∧ ((Machine.kindOfCode f.kind).isNone = true ↔ ∃ k t b, i = .unknownKindRequest k t b) := by
  have named : (Machine.kindOfCode (Machine.kindCode k)).isNone = false := by cases k <;> decide +kernel
  cases hf
  refine ⟨h, ?_⟩
  simp [named, hi]

/-- A row that stands for no frame. -/
theorem of_none (i : Instr) (h : Machine.requestFrame i = none) : Statement i := by
  intro _ f hf
  rw [h] at hf
  cases hf

theorem powerOn (pins : StartPins) : Statement (.powerOn pins) := of_none _ rfl

theorem resetnRelease (pins : StartPins) : Statement (.resetnRelease pins) := of_none _ rfl

theorem warmStart (pins : StartPins) : Statement (.warmStart pins) := of_none _ rfl

theorem hostOctetReceived (octet : Byte) (stopBitLow : Bool) : Statement (.hostOctetReceived octet stopBitLow) := of_none _ rfl

theorem hostGapTimeout : Statement (.hostGapTimeout) := of_none _ rfl

theorem replySent : Statement (.replySent) := of_none _ rfl

theorem unknownKindRequest (kind tag : Byte) (body : List Byte) : Statement (.unknownKindRequest kind tag body) := by
  intro h f hf
  cases hf
  simp only [Instr.wellFormed, Bool.and_eq_true, Bool.not_eq_true', kindOctets_named] at h
  exact ⟨of_decide_eq_true h.2, by simpa using h.1⟩

theorem ident (tag : Byte) (body : List Byte) : Statement (.ident tag body) := by
  intro h f hf
  exact of_body _ _ _ _ (of_decide_eq_true h) (by intros; simp) f hf

theorem status (tag : Byte) (body : List Byte) : Statement (.status tag body) := by
  intro h f hf
  exact of_body _ _ _ _ (of_decide_eq_true h) (by intros; simp) f hf

theorem setTime (tag : Byte) (body : List Byte) : Statement (.setTime tag body) := by
  intro h f hf
  exact of_body _ _ _ _ (of_decide_eq_true h) (by intros; simp) f hf

theorem restart (tag : Byte) (body : List Byte) : Statement (.restart tag body) := by
  intro h f hf
  exact of_body _ _ _ _ (of_decide_eq_true h) (by intros; simp) f hf

theorem setNoticeMask (tag : Byte) (body : List Byte) : Statement (.setNoticeMask tag body) := by
  intro h f hf
  exact of_body _ _ _ _ (of_decide_eq_true h) (by intros; simp) f hf

theorem fetchNotices (tag : Byte) (body : List Byte) : Statement (.fetchNotices tag body) := by
  intro h f hf
  exact of_body _ _ _ _ (of_decide_eq_true h) (by intros; simp) f hf

theorem defineFloor (tag : Byte) (body : List Byte) : Statement (.defineFloor tag body) := by
  intro h f hf
  exact of_body _ _ _ _ (of_decide_eq_true h) (by intros; simp) f hf

theorem defineBus (tag : Byte) (body : List Byte) : Statement (.defineBus tag body) := by
  intro h f hf
  exact of_body _ _ _ _ (of_decide_eq_true h) (by intros; simp) f hf

theorem defineCabinet (tag : Byte) (body : List Byte) : Statement (.defineCabinet tag body) := by
  intro h f hf
  exact of_body _ _ _ _ (of_decide_eq_true h) (by intros; simp) f hf

theorem defineString (tag : Byte) (body : List Byte) : Statement (.defineString tag body) := by
  intro h f hf
  exact of_body _ _ _ _ (of_decide_eq_true h) (by intros; simp) f hf

theorem undefineString (tag visit : Byte) (rest : List Byte) : Statement (.undefineString tag visit rest) := by
  intro h f hf
  have := of_decide_eq_true h
  exact of_body _ _ _ _ (by simp; omega) (by intros; simp) f hf

theorem undefineCabinet (tag visit : Byte) (rest : List Byte) : Statement (.undefineCabinet tag visit rest) := by
  intro h f hf
  have := of_decide_eq_true h
  exact of_body _ _ _ _ (by simp; omega) (by intros; simp) f hf

theorem undefineBus (tag visit : Byte) (rest : List Byte) : Statement (.undefineBus tag visit rest) := by
  intro h f hf
  have := of_decide_eq_true h
  exact of_body _ _ _ _ (by simp; omega) (by intros; simp) f hf

theorem commitConfig (tag : Byte) (body : List Byte) : Statement (.commitConfig tag body) := by
  intro h f hf
  exact of_body _ _ _ _ (of_decide_eq_true h) (by intros; simp) f hf

theorem seedAgeing (tag : Byte) (body : List Byte) : Statement (.seedAgeing tag body) := by
  intro h f hf
  exact of_body _ _ _ _ (of_decide_eq_true h) (by intros; simp) f hf

theorem scanEditInsert (tag : Byte) (rest : List Byte) : Statement (.scanEditInsert tag rest) := by
  intro h f hf
  have := of_decide_eq_true h
  exact of_body _ _ _ _ (by simp; omega) (by intros; simp) f hf

theorem scanEditRemove (tag : Byte) (rest : List Byte) : Statement (.scanEditRemove tag rest) := by
  intro h f hf
  have := of_decide_eq_true h
  exact of_body _ _ _ _ (by simp; omega) (by intros; simp) f hf

theorem scanEditReplace (tag : Byte) (rest : List Byte) : Statement (.scanEditReplace tag rest) := by
  intro h f hf
  have := of_decide_eq_true h
  exact of_body _ _ _ _ (by simp; omega) (by intros; simp) f hf

theorem scanTiming (tag : Byte) (body : List Byte) : Statement (.scanTiming tag body) := by
  intro h f hf
  exact of_body _ _ _ _ (of_decide_eq_true h) (by intros; simp) f hf

theorem scanStart (tag : Byte) (body : List Byte) : Statement (.scanStart tag body) := by
  intro h f hf
  exact of_body _ _ _ _ (of_decide_eq_true h) (by intros; simp) f hf

theorem scanStop (tag : Byte) (body : List Byte) : Statement (.scanStop tag body) := by
  intro h f hf
  exact of_body _ _ _ _ (of_decide_eq_true h) (by intros; simp) f hf

theorem readBus (tag : Byte) (body : List Byte) : Statement (.readBus tag body) := by
  intro h f hf
  exact of_body _ _ _ _ (of_decide_eq_true h) (by intros; simp) f hf

theorem readCabinets (tag : Byte) (body : List Byte) : Statement (.readCabinets tag body) := by
  intro h f hf
  exact of_body _ _ _ _ (of_decide_eq_true h) (by intros; simp) f hf

theorem readStrings (tag : Byte) (body : List Byte) : Statement (.readStrings tag body) := by
  intro h f hf
  exact of_body _ _ _ _ (of_decide_eq_true h) (by intros; simp) f hf

theorem readReadings (tag : Byte) (body : List Byte) : Statement (.readReadings tag body) := by
  intro h f hf
  exact of_body _ _ _ _ (of_decide_eq_true h) (by intros; simp) f hf

theorem readPermits (tag : Byte) (body : List Byte) : Statement (.readPermits tag body) := by
  intro h f hf
  exact of_body _ _ _ _ (of_decide_eq_true h) (by intros; simp) f hf

theorem readVisit (tag : Byte) (body : List Byte) : Statement (.readVisit tag body) := by
  intro h f hf
  exact of_body _ _ _ _ (of_decide_eq_true h) (by intros; simp) f hf

theorem readHistory (tag : Byte) (body : List Byte) : Statement (.readHistory tag body) := by
  intro h f hf
  exact of_body _ _ _ _ (of_decide_eq_true h) (by intros; simp) f hf

theorem requestWithdraw (tag : Byte) (body : List Byte) : Statement (.requestWithdraw tag body) := by
  intro h f hf
  exact of_body _ _ _ _ (of_decide_eq_true h) (by intros; simp) f hf

theorem requestBusBypass (tag : Byte) (body : List Byte) : Statement (.requestBusBypass tag body) := by
  intro h f hf
  exact of_body _ _ _ _ (of_decide_eq_true h) (by intros; simp) f hf

theorem returnPermit (tag : Byte) (body : List Byte) : Statement (.returnPermit tag body) := by
  intro h f hf
  exact of_body _ _ _ _ (of_decide_eq_true h) (by intros; simp) f hf

theorem cancelRequest (tag : Byte) (body : List Byte) : Statement (.cancelRequest tag body) := by
  intro h f hf
  exact of_body _ _ _ _ (of_decide_eq_true h) (by intros; simp) f hf

theorem startStringTest (tag : Byte) (body : List Byte) : Statement (.startStringTest tag body) := by
  intro h f hf
  exact of_body _ _ _ _ (of_decide_eq_true h) (by intros; simp) f hf

theorem abortStringTest (tag : Byte) (body : List Byte) : Statement (.abortStringTest tag body) := by
  intro h f hf
  exact of_body _ _ _ _ (of_decide_eq_true h) (by intros; simp) f hf

theorem bookVisit (tag : Byte) (body : List Byte) : Statement (.bookVisit tag body) := by
  intro h f hf
  exact of_body _ _ _ _ (of_decide_eq_true h) (by intros; simp) f hf

theorem cancelVisit (tag : Byte) (body : List Byte) : Statement (.cancelVisit tag body) := by
  intro h f hf
  exact of_body _ _ _ _ (of_decide_eq_true h) (by intros; simp) f hf

theorem extendVisit (tag : Byte) (body : List Byte) : Statement (.extendVisit tag body) := by
  intro h f hf
  exact of_body _ _ _ _ (of_decide_eq_true h) (by intros; simp) f hf

theorem closeVisit (tag : Byte) (body : List Byte) : Statement (.closeVisit tag body) := by
  intro h f hf
  exact of_body _ _ _ _ (of_decide_eq_true h) (by intros; simp) f hf

theorem declareReplaced (tag : Byte) (body : List Byte) : Statement (.declareReplaced tag body) := by
  intro h f hf
  exact of_body _ _ _ _ (of_decide_eq_true h) (by intros; simp) f hf

theorem freezeComplete (ending : FreezeEnd) : Statement (.freezeComplete ending) := of_none _ rfl

theorem pollComplete (ending : AttemptEnd PollReply) : Statement (.pollComplete ending) := of_none _ rfl

theorem commandComplete (ending : AttemptEnd CommandReply) : Statement (.commandComplete ending) := of_none _ rfl

theorem testReadComplete (ending : AttemptEnd TestReadReply) : Statement (.testReadComplete ending) := of_none _ rfl

theorem arbitrationLost : Statement (.arbitrationLost) := of_none _ rfl

theorem alertStart : Statement (.alertStart) := of_none _ rfl

theorem alertReceived (header stateWord cause : Byte) (ending : AlertEnd) :
    Statement (.alertReceived header stateWord cause ending) := of_none _ rfl

theorem stretchTimeoutExpiry : Statement (.stretchTimeoutExpiry) := of_none _ rfl

theorem stuckLineTimerExpiry (atExpiry after : LineLevels) : Statement (.stuckLineTimerExpiry atExpiry after) := of_none _ rfl

theorem recoveryRetryExpiry (after : LineLevels) : Statement (.recoveryRetryExpiry after) := of_none _ rfl

theorem overlayDeadlineExpiry (cabinet : Nat) : Statement (.overlayDeadlineExpiry cabinet) := of_none _ rfl

theorem scanDelayExpiry : Statement (.scanDelayExpiry) := of_none _ rfl

theorem passTick : Statement (.passTick) := of_none _ rfl

theorem dayCheck : Statement (.dayCheck) := of_none _ rfl

theorem rechargeHoldExpiry (cabinet slot : Nat) : Statement (.rechargeHoldExpiry cabinet slot) := of_none _ rfl

theorem settleTimerExpiry : Statement (.settleTimerExpiry) := of_none _ rfl

theorem stepTimerExpiry : Statement (.stepTimerExpiry) := of_none _ rfl

theorem rereadTimerExpiry : Statement (.rereadTimerExpiry) := of_none _ rfl

theorem waitDeadlineExpiry (permit : Nat) : Statement (.waitDeadlineExpiry permit) := of_none _ rfl

theorem transferSpacingExpiry (bus : Bus) : Statement (.transferSpacingExpiry bus) := of_none _ rfl

theorem syncTimerExpiry (bus : Bus) : Statement (.syncTimerExpiry bus) := of_none _ rfl

theorem transferTimerExpiry (bus : Bus) : Statement (.transferTimerExpiry bus) := of_none _ rfl

theorem visitStartArrival (visit : Nat) : Statement (.visitStartArrival visit) := of_none _ rfl

theorem visitDeadlineExpiry (visit : Nat) : Statement (.visitDeadlineExpiry visit) := of_none _ rfl

theorem overdueReminderExpiry (visit : Nat) : Statement (.overdueReminderExpiry visit) := of_none _ rfl

theorem closeDeadlineExpiry (visit : Nat) : Statement (.closeDeadlineExpiry visit) := of_none _ rfl

theorem imageWriteEnd (image : ImageId) (readBackOk : Bool) : Statement (.imageWriteEnd image readBackOk) := of_none _ rfl

theorem lckRiseAfterStretch : Statement (.lckRiseAfterStretch) := of_none _ rfl

theorem resetnHeldLow : Statement (.resetnHeldLow) := of_none _ rfl

theorem powerDown : Statement (.powerDown) := of_none _ rfl

end Sys2Proof.Laws.FrameFits
end

