-- ==== Sys2Proof/Tests/Slice0.lean ====
section
/-! SUPPORT. Named tests: the WellFormed smoke, worked figures of the spec, and for every obligation with hypotheses a concrete
state that meets them. -/

namespace Sys2Proof.Tests

open Sys2Proof
open Sys2Proof.Machine

set_option Elab.async false

/-! ### A small floor to test on -/

/-- A state word without any flag. -/
def word (m : Mode) : StateWord :=
  { mode := m, syncOk := false, bypassSourceOk := false, bypassClosed := false, testActive := false }

/-- A cabinet that last reported a mode. -/
def track (m : Mode) : Track :=
  { lastWord := some (word m), failures := 0, unreachable := false, unreachableSince := none, lastSuccess := some 900,
    overlay := none, overlayDeadline := none, orphan := false, firstReportPending := false, bypassCheckPending := false }

/-- A string of 100 Ah, 20 kWh and ten years. -/
def stringRec : StringRec :=
  { capacity := 100, energy := 20000, designLife := 3650, cycles := 500, shunt := 1000, minSignal := 500, stepTime := 2,
    settleTime := 2, floatThreshold := 10, holdHours := 24, serviceLead := 30, alarmLevel := 60, combine := .mean }

/-- That string with a new ageing record. -/
def unit : StringUnit :=
  { defn := stringRec,
    age := { AgeRec.fresh 1000 false with wearHealth := 100, impHealth := 100, health := 100, energy := 20000 } }

/-- A cabinet of 100 kW on bus A, with its index as its link address and the string in slot 1. -/
def cabinet (c : Nat) (m : Mode) : Cabinet :=
  { defn := { address := c, bus := 0, rating := 100, stringCount := 2, master := false, tag := List.replicate 8 0x41#8 },
    track := track m, strings := #v[some unit, none, none, none] }

/-- Bus A, not yet seen through a round. -/
def busA : BusUnit := { defn := .defaults, fig := BusFigures.initial 1 }

/-- One bus, one cabinet (1) that reports a mode, at 1000 s of uptime. -/
def site (m : Mode) : State :=
  ({ State.reset with clock := { uptime := 1000, offset := 0, valid := false, lastDay := 0, backwardMark := false } }.setBus 0
    (some busA)).setCabinet 1 (some (cabinet 1 m))

/-- Cabinet 1 on line. -/
def floor : State := site .online

/-- Bus A with its first round seen, last SECURE. -/
def busSeen : BusUnit := { busA with fig := { busA.fig with roundSeen := true, security := .secure } }

/-- A state with that bus. -/
def seen (s : State) : State := s.setBus 0 (some busSeen)

/-- An outcome is the next state `t`. -/
def gives (o : Host.Outcome State Fault Refusal) (t : State) : Bool :=
  match o with
  | .next u => u == t
  | _ => false

theorem next_of_gives {o : Host.Outcome State Fault Refusal} {t : State} (h : gives o t = true) : o = .next t := by
  cases o <;> simp_all [gives]

/-- An image of a configuration, valid and current. -/
def image : StoredImage ConfigBody :=
  { header := { length := .stated 100, format := .current, savedTime := 0, crcMatches := true }, body := floor.configBody }

/-- A frame with one octet of body. -/
def frame (k : RequestKind) (tag : Byte) : Frame := { kind := kindCode k, tag := tag, body := [] }

/-! ### Witnesses: the machine, starts, the host line -/

theorem test_witness_IdleStepCountsASecond :
    (State.reset.pending = [] ∧ State.reset.power = .running ∧ State.reset.clock.uptime < 2 ^ 32 - 1 ∧
      State.reset.clc.stuckTimer = false) ∧
    (let s := { State.reset with power := .unpowered }; s.pending = [] ∧ s.power ≠ .running) ∧
    (let s := State.reset.onClock fun k => { k with uptime := 2 ^ 32 - 2 }
     s.pending = [] ∧ s.power = .running ∧ s.clock.uptime < 2 ^ 32 - 1) ∧
    (let s := floor.onClc fun l => { l with stuckTimer := true }
     s.pending = [] ∧ s.power = .running ∧ s.clock.uptime < 2 ^ 32 - 1 ∧ s.clc.link = .idle ∧ s.clc.stuckTimer = true ∧
      s.clc.Empty) ∧
    (let r : LinkRequest := { requester := .scan, cls := .freeze 1, cabinet := 0, attempts := 0, begun := false, address := 0,
                              credited := false, counted := true }
     let s := floor.onClc fun l => { l with stuckTimer := true, scanQueue := [r] }
     s.pending = [] ∧ s.power = .running ∧ s.clock.uptime < 2 ^ 32 - 1 ∧ s.clc.link = .idle ∧ s.clc.stuckTimer = true ∧
      s.clc.slots = Vector.replicate 4 none ∧ s.clc.testSlot = none ∧ s.clc.scanQueue = [r] ∧ r.cls = .freeze 1) := by
  decide +kernel

theorem test_witness_OctetsOfAFrameMakeItsRequest :
    requestFrame (.ident 7#8 []) = some (frame .ident 7#8) ∧ (frame .ident 7#8).body.length ≤ 120 ∧ floor.Running ∧
    floor.host.receiver = .hunting := by decide +kernel

/-- The longest body, 120 octets. -/
theorem test_witness_OctetsOfAFrameMakeItsRequest_long :
    let f : Frame := { kind := 0x7F#8, tag := 7#8, body := List.replicate 120 1#8 }
    requestFrame (.unknownKindRequest 0x7F#8 7#8 f.body) = some f ∧ f.body.length ≤ 120 := by decide +kernel

theorem test_witness_StartsWithoutImagesAndSupplyLoss :
    let s := floor.onHost fun h => { h with restartWaiting := true }
    (s.ims.cut.config.header.status Config.configImageMax = .absent ∧
      s.ims.cut.ageing.header.status Config.ageingImageMax = .absent ∧ s.power ≠ .unpowered ∧ s.Running ∧
      s.host.restartWaiting = true ∧ s.ims.configSave = .idle ∧ s.ims.ageingSave = .idle ∧ s.clock.valid = false) ∧
    floor.Running := by decide +kernel

/-- A part that awaits its warm start at floor time 865,000, on day 10, with its last processed day. -/
def warmed (lastDay : Nat) : State :=
  (floor.onHost fun h => { h with restartWaiting := true }).onClock fun k =>
    { k with valid := true, offset := 864000, lastDay := lastDay }

/-- A warm start with a valid clock: with no day yet, on the last one, after it and before it. -/
theorem test_witness_StartsWithoutImagesAndSupplyLoss_clock :
    ∀ last ∈ [0, 10, 3, 12], let s := warmed last
      s.ims.cut.config.header.status Config.configImageMax = .absent ∧
      s.ims.cut.ageing.header.status Config.ageingImageMax = .absent ∧ s.Running ∧ s.host.restartWaiting = true ∧
      s.ims.configSave = .idle ∧ s.ims.ageingSave = .idle ∧ s.clock.valid = true ∧ s.clock.lastDay = last ∧
      (s.clock.uptime + s.clock.offset) % 2 ^ 32 / 86400 = 10 := by decide +kernel

/-- The ageing record of the string of cabinet 1 as an image holds it. -/
def ageImage : AgeImage := { unit.age with calendarWear := 77 }.image 1 1 1000

/-- A part with both images in its store, the ageing image good or with a bad CRC. -/
def stored (good : Bool) (ages : List AgeImage) : State :=
  floor.onIms fun i => { i with
    config := image,
    ageing := { header := { length := .stated 100, format := .current, savedTime := 500, crcMatches := good }, body := ages } }

/-- A start that keeps the string's record, one that lacks it, and one with a corrupt image; each finds the string. -/
theorem test_witness_StartTakesTheStoredConfiguration :
    (stored true [ageImage]).ims.cut.config.header.status Config.configImageMax = .valid ∧
    (stored true [ageImage]).ims.cut.ageing.header.status Config.ageingImageMax = .valid ∧
    (stored true [ageImage]).ims.cut.ageing.body.find? (fun a => a.cabinet == 1 && a.slot == 1) = some ageImage ∧
    (stored true []).ims.cut.ageing.body.find? (fun a => a.cabinet == 1 && a.slot == 1) = none ∧
    (stored false [ageImage]).ims.cut.ageing.header.status Config.ageingImageMax = .corrupt ∧
    (stored true [ageImage]).power ≠ .unpowered ∧
    (match exec (.powerOn { baud := 0#2, lines := { lckLow := false, ldaLow := false } }) (stored true [ageImage]) with
      | .next t => (t.string 1 1).map fun u => u.age.calendarWear
      | _ => none) = some 77 := by decide +kernel

/-- A warm start at floor time 865,000 on the last processed day, with saved times behind it and ahead of it: the record of the
string is found, and R92's gap is accrued at the factor 1. -/
theorem test_witness_StartTakesTheStoredConfiguration_gap :
    let at_ := fun (saved : Nat) => (warmed 10).onIms fun i => { i with
      config := image,
      ageing := { header := { length := .stated 100, format := .current, savedTime := saved, crcMatches := true },
                  body := [ageImage] } }
    (∀ saved ∈ [500, 900000], let s := at_ saved
      s.Running ∧ s.host.restartWaiting = true ∧ s.ims.configSave = .idle ∧ s.ims.ageingSave = .idle ∧ s.clock.valid = true ∧
      s.ims.ageing.header.status Config.ageingImageMax = .valid ∧
      s.clock.lastDay = (s.clock.uptime + s.clock.offset) % 2 ^ 32 / 86400 ∧
      s.ims.ageing.body.find? (fun a => a.cabinet == 1 && a.slot == 1) = some ageImage) ∧
    [500, 900000].map (fun saved => match exec (.warmStart { baud := 0#2, lines := { lckLow := false, ldaLow := false } })
        (at_ saved) with
      | .next t => (t.string 1 1).map fun u => u.age.calendarWear
      | _ => none) = [some (77 + 256 * (865000 - 500)), some 77] := by decide +kernel

theorem test_witness_ReceiverTakesAnOctet :
    let at_ := fun r => floor.onHost fun h => { h with receiver := r }
    ((at_ .hunting).Running ∧ (at_ .hunting).host.receiver = .hunting) ∧
    ((at_ .awaitingLength).Running ∧ (at_ .awaitingLength).host.receiver = .awaitingLength ∧ (120#8).toNat ≤ 120 ∧
      120 < (121#8).toNat) ∧
    ((at_ (.inFrame [0#8] 2)).Running ∧ (at_ (.inFrame [0#8] 2)).host.receiver ≠ .hunting) ∧
    (let body : List Byte := []
     (at_ (.inFrame (BitVec.ofNat 8 body.length :: 1#8 :: 7#8 :: (body ++ [0#8])) 1)).Running ∧ body.length ≤ 120 ∧
      [0#8, 0#8] ≠ octets 2 (crc16 (BitVec.ofNat 8 body.length :: 1#8 :: 7#8 :: body)).toNat) := by decide +kernel

/-- A part with a reply in progress, with frames and BUSY replies waiting. -/
def replying (frames : List Frame) (busy : List (Byte × Byte)) (followedBy : AfterReply) : State :=
  floor.onHost fun h => { h with reply := some [0xB7#8], queue := frames, busy := busy, afterReply := followedBy }

theorem test_witness_FrameWaitsBehindAReply :
    let four := List.replicate 4 (frame .ident 1#8)
    let busy := List.replicate 4 (1#8, 1#8)
    requestFrame (.ident 7#8 []) = some (frame .ident 7#8) ∧ (frame .ident 7#8).body.length ≤ 120 ∧
    (let s := replying (four.take 3) [] .nothing; s.Running ∧ s.host.reply ≠ none ∧ s.host.queue.length < 4) ∧
    (let s := replying four (busy.take 3) .nothing
     s.Running ∧ s.host.reply ≠ none ∧ 4 ≤ s.host.queue.length ∧ s.host.busy.length < 4) ∧
    (let s := replying four busy .nothing
     s.Running ∧ s.host.reply ≠ none ∧ 4 ≤ s.host.queue.length ∧ 4 ≤ s.host.busy.length) := by decide +kernel

/-- A visit of one cabinet by the host's choice of level and state. -/
def visit (id : Nat) (level : Level) (state : VisitState) : Visit :=
  { id := id, credential := 77, level := level, scope := [1], bookedStart := 0, duration := 60, sequence := 1, state := state,
    waitingLock := false, activation := some 900, deadline := some 950, nextReminder := some 960, lastOverdue := some 950,
    actions := 0, expected := none, replaced := [], closeDeadline := none, closeSet := [], closeSequence := none,
    report := { result := none, mismatch := false, overdue := false, ended := 0, rehomed := 0 } }

/-- A part with that visit in slot 0, and its lock. -/
def visited (s : State) (v : Visit) : State :=
  s.onVct fun x => { x with slots := x.slots.set 0 (some v), locks := x.locks.set 0 (some v.id) }

theorem test_witness_ReplySentServesTheNext :
    (let s := replying [] [] .nothing
     s.Running ∧ s.host.reply = some [0xB7#8] ∧ s.host.afterReply = .nothing ∧ s.host.busy = [] ∧ s.host.queue = []) ∧
    (let s := replying [frame .ident 7#8] [(1#8, 2#8)] .nothing
     s.Running ∧ s.host.reply = some [0xB7#8] ∧ s.host.afterReply = .nothing ∧ s.host.busy = [(1#8, 2#8)]) ∧
    (∀ rest ∈ [[], [frame .status 8#8]],
      let s := replying (frame .ident 7#8 :: rest) [] .nothing
      requestFrame (.ident 7#8 []) = some (frame .ident 7#8) ∧ (frame .ident 7#8).body.length ≤ 120 ∧ s.Running ∧
      s.host.reply = some [0xB7#8] ∧ s.host.afterReply = .nothing ∧ s.host.restartWaiting = false ∧ s.host.busy = [] ∧
      s.host.queue = frame .ident 7#8 :: rest) ∧
    (let s := replying [frame .ident 7#8] [] .restart
     s.Running ∧ s.host.reply = some [0xB7#8] ∧ s.host.afterReply = .restart ∧ s.host.busy = []) ∧
    (∀ state ∈ [VisitState.closed, .active],
      let v := visit 5 .operate state
      let s := visited (replying [] [] (.dropVisit 0 5)) v
      s.Running ∧ s.host.reply = some [0xB7#8] ∧ s.host.afterReply = .dropVisit 0 v.id ∧ s.vct.slots[(0 : Fin 8)] = some v ∧
      s.host.busy = [] ∧ s.host.queue = [] ∧ v.state = state) := by decide +kernel

/-! ### Witnesses: what requests are answered -/

theorem test_witness_UnknownKindAndBadLengthAreAnswered :
    floor.Ready ∧ (0x07#8 : Byte) ∉ kindOctets ∧ (0x80#8 : Byte) ∉ kindOctets ∧ (List.replicate 120 (0#8 : Byte)).length ≤ 120 ∧
    requestFrame (.closeVisit 3#8 [1#8, 0#8]) =
      some { kind := kindCode .closeVisit, tag := 3#8, body := [1#8, 0#8] } ∧ [1#8, 0#8].length ∉ [1, 3] ∧
    requestFrame (.bookVisit 3#8 (List.replicate 37 0#8)) =
      some { kind := kindCode .bookVisit, tag := 3#8, body := List.replicate 37 0#8 } := by decide +kernel

theorem test_witness_UnconfiguredPartRefuses :
    let scope := fun (n : Nat) => List.replicate 11 0#8 ++ [BitVec.ofNat 8 n] ++ List.replicate n (0#8 : Byte)
    State.reset.Ready ∧ State.reset.configured = false ∧
    requestFrame (.scanStop 3#8 []) = some { kind := kindCode .scanStop, tag := 3#8, body := [] } ∧
    (∀ n ∈ [1, 24], 1 ≤ field (scope n) 11 1 ∧ field (scope n) 11 1 ≤ 24 ∧
      (scope n).length = 12 + field (scope n) 11 1) := by decide +kernel

theorem test_witness_AuthorityIsChecked :
    let v := visit 5 .operate .active
    v.id ≠ 0 ∧ (visited floor v).visit v.id = some v := by decide +kernel

theorem test_witness_IdentAndRestartAnswer : floor.Ready := by decide +kernel

theorem test_witness_StatusReports : floor.Ready ∧ 1 ≤ 1 ∧ 24 ≤ 24 := by decide +kernel

/-- A part with a visit and its lock, a live permit, a scan list and both images being written. -/
def lived : State :=
  let list := [({ cabinet := 1, point := .state, skip := 0, combine := .mean } : ScanEntry)]
  let s := visited floor (visit 5 .operate .active)
  let s := s.onScs fun x => { x with pendingList := list, active := list.map ActiveEntry.new }
  let s := s.onIms fun i => { i with configSave := .saving image true, ageingSave := .saving { header := image.header, body := floor.ageingBody } false }
  s.onPar fun x => { x with permits := [
    { id := 7, kind := .withdraw, bus := 0, cabinet := some 1, holder := 5, policy := some .yield, state := .waiting,
      requestUptime := 500, deadline := none, grantUptime := none, grantSequence := none, returnOrdered := false,
      yielded := false, yieldSequence := none, adopted := false, sent := false }] }

theorem test_witness_EveryStepKeepsTheInvariant :
    lived.Inv ∧ ∃ t, step { lived with pending := [.dayCheck] } = .next t :=
  ⟨by constructor <;> constructor <;> decide +kernel, lived, next_of_gives (by decide +kernel)⟩

theorem test_witness_NoticeMaskAndFetch : floor.Ready := by decide +kernel

/-- A full notice queue. -/
def manyNotices (n : Nat) (s : State) : State :=
  s.onNotices fun x => { x with queue := List.replicate n Notice.firstStartup, attention := decide (0 < n) }

theorem test_witness_NoticeJoinsTheQueue :
    (manyNotices 31 floor).notices.queue.length < 32 ∧ 32 ≤ (manyNotices 32 floor).notices.queue.length ∧
    2 ^ 32 - 1 < 2 ^ 32 := by decide +kernel

theorem test_witness_SetTimeSetsTheFloorTime :
    let due := fun (s : State) => s.visits.filter fun v => v.state = .booked ∧ v.waitingLock = false ∧ v.bookedStart ≤ 65536
    (floor.Ready ∧ floor.clock.lastDay = 0 ∧ floor.loadedSaved = 0 ∧ [].Perm (due floor)) ∧
    (let s := floor.onClock fun k => { k with valid := true, offset := 5 }
     s.Ready ∧ s.clock.lastDay = 0 ∧ s.clock.valid = true ∧ [].Perm (due s)) ∧
    (∀ saved ∈ [100, 65000],
      let s := { floor.setCabinet 1 (some ((cabinet 1 .online).setSlot 1 (some { unit with age := { unit.age with gapPending := true } })))
                 with loadedSaved := saved }
      s.Ready ∧ [].Perm (due s) ∧ s.clock.lastDay = 65536 / 86400 ∧ s.clock.valid = false ∧
      s.loadedSaved ≠ 0 ∧ s.NoTransfers) := by decide +kernel

/-- Two booked visits of one cabinet whose starts the new floor time 65,536 reaches, the later slot booked first, and one whose
start it does not reach. -/
theorem test_witness_SetTimeSetsTheFloorTime_arriving :
    let v := fun (id sequence start : Nat) =>
      { visit id .operate .booked with activation := none, deadline := none, nextReminder := none, sequence := sequence,
                                       bookedStart := start }
    let s := floor.onVct fun x => { x with
      slots := ((x.slots.set 0 (some (v 5 2 65536))).set 1 (some (v 6 3 65537))).set 4 (some (v 7 1 10)) }
    s.Ready ∧ s.clock.lastDay = 0 ∧ s.loadedSaved = 0 ∧
    [v 7 1 10, v 5 2 65536].Perm (s.visits.filter fun v => v.state = .booked ∧ v.waitingLock = false ∧ v.bookedStart ≤ 65536) ∧
    [v 7 1 10, v 5 2 65536].Pairwise (fun v w => v.sequence < w.sequence) ∧
    (match exec (.setTime 3#8 [0#8, 1#8, 0#8, 0#8]) s with
      | .next t => t.visits.map fun w => (w.id, w.state == .active, w.waitingLock)
      | _ => []) = [(5, false, true), (6, false, false), (7, true, false)] := by decide +kernel

/-- R91: the gap from the saved time to the start is accrued; one below zero raises CLOCK_BACKWARD. -/
theorem test_setTime_gap :
    let s := fun saved => { floor.setCabinet 1 (some ((cabinet 1 .online).setSlot 1 (some { unit with age := { unit.age with gapPending := true } })))
                            with loadedSaved := saved }
    let after := fun saved => match exec (.setTime 3#8 [0#8, 1#8, 0#8, 0#8]) (s saved) with
      | .next t => ((t.string 1 1).map fun u => (u.age.calendarWear, u.age.gapPending),
          t.notices.queue.any fun x => x.kind == .clockBackward)
      | _ => (none, false)
    after 100 = (some (256 * (65536 - 1000 - 100), false), false) ∧ after 65000 = (some (0, false), true) := by decide +kernel

/-! ### Witnesses: definitions, images, ageing on request -/

theorem test_witness_DefineFloorStoresTheRecord :
    floor.Ready ∧ ∀ v ∈ floor.visits, v.state = .overdue → v.lastOverdue.isSome ∧ v.deadline.isSome := by decide +kernel

/-- An OVERDUE visit, its last VISIT_OVERDUE at 950, under a new interval of 10 minutes (R8: the next reminder at 1,550), of none,
and one whose last was long ago, raised at once. -/
theorem test_witness_DefineFloorStoresTheRecord_reminders :
    let v := visit 5 .operate .overdue
    let at_ := fun (last : Nat) => visited floor { v with lastOverdue := some last }
    let after := fun (minutes : Byte) (last : Nat) =>
      match exec (.defineFloor 3#8 [0#8, 0#8, 100#8, 25#8, 3#8, 3#8, 15#8, minutes, 255#8, 255#8]) (at_ last) with
        | .next t => t.visits.map fun w => (w.nextReminder, w.lastOverdue)
        | _ => []
    (∀ last ∈ [950, 300], (at_ last).Ready ∧ (at_ last).visits = [{ v with lastOverdue := some last }] ∧ v.deadline = some 950) ∧
    after 10#8 950 = [(some 1550, some 950)] ∧ after 0#8 950 = [(none, some 950)] ∧
    after 10#8 300 = [(some 1600, some 1000)] := by decide +kernel

theorem test_witness_DefineBusCreatesOrReplaces :
    floor.Ready ∧ floor.bus 3 = none ∧ floor.bus 0 = some busA ∧ floor.NoTransfers ∧
    (let s := (seen floor).setBus 0 (some { busSeen with defn := { busSeen.defn with reserve := 3 } })
     (s.strict 0 { busSeen.defn with reserve := 3 }).margin < 0 ∧
      ((s.recompute 0).bus 0).map (fun u => u.fig.security) = some .deficit) := by decide +kernel

theorem test_witness_DefineCabinetCreates :
    floor.Ready ∧ floor.NoTransfers ∧ 1 ≤ 24 ∧ 24 ≤ 24 ∧ 1 ≤ (31#8).toNat ∧ (31#8).toNat ≤ 31 ∧
    (List.replicate 8 (0x42#8 : Byte)).length = 8 ∧ (floor.bus 0).isSome ∧ floor.cabinet 24 = none ∧
    floor.lockOf 24 = none ∧ (∀ p ∈ floor.definedCabinets, p.2.defn.address ≠ (31#8).toNat) ∧
    floor.masterOf 0 = none := by decide +kernel

/-- A second bus and a master in cabinet 2, for redefinitions of cabinet 1. -/
def remade : State :=
  ((seen floor).setBus 2 (some busSeen)).setCabinet 2 (some
    { cabinet 2 .online with defn := { (cabinet 2 .online).defn with master := true } })

/-- A redefinition that keeps the bus and the address, one that takes the master flag from cabinet 2, one that changes the
address, and one that changes the bus. -/
theorem test_witness_DefineCabinetCreates_redefined :
    let k := cabinet 1 .online
    let j := { cabinet 2 .online with defn := { (cabinet 2 .online).defn with master := true } }
    (∀ address ∈ [1#8, 9#8],
      remade.Ready ∧ remade.NoTransfers ∧ remade.test.phase = .idle ∧ remade.test.subject = none ∧ 1 ≤ address.toNat ∧
      address.toNat ≤ 31 ∧ (List.replicate 8 (0x42#8 : Byte)).length = 8 ∧ (remade.bus 0).isSome ∧ (remade.bus 2).isSome ∧
      remade.cabinet 1 = some k ∧ remade.lockOf 1 = none ∧
      ∀ p ∈ remade.definedCabinets, p.1 ≠ 1 → p.2.defn.address ≠ address.toNat) ∧
    k.defn.bus = 0 ∧ k.defn.address = (1#8).toNat ∧ k.defn.address ≠ (9#8).toNat ∧ k.defn.master = false ∧
    k.defn.stringCount ≤ min (2#8).toNat 4 ∧ floor.masterOf 0 = none ∧ remade.masterOf 0 = some 2 ∧ 2 ≠ 1 ∧
    remade.cabinet 2 = some j ∧ remade.lockOf 2 = none ∧ k.track.state ≠ .unknown ∧ k.track.state ≠ .onBattery ∧
    (0 : Bus) ≠ 2 := by decide +kernel

/-- A count below the old one that keeps every defined slot, and one that does not. -/
theorem test_witness_DefineCabinetCreates_slots :
    (∀ i : Fin 4, 1 < i.val + 1 → (cabinet 1 .online).strings[i] = none) ∧
    ¬(∀ i : Fin 4, 0 < i.val + 1 → (cabinet 1 .online).strings[i] = none) := by decide +kernel

theorem test_witness_DefineStringCreates :
    let settings := List.replicate 23 (1#8 : Byte) ++ [99#8]
    floor.Ready ∧ floor.NoTransfers ∧ floor.test.phase = .idle ∧ floor.cabinet 1 = some (cabinet 1 .online) ∧
    2 ≤ (cabinet 1 .online).defn.stringCount ∧ (cabinet 1 .online).slot 2 = none ∧ floor.lockOf 1 = none ∧
    (cabinet 1 .online).track.state ≠ .onBattery ∧ settings.length = 24 ∧ field settings 23 1 < 100 := by decide +kernel

theorem test_witness_DefineStringCreates_redefined :
    let settings := List.replicate 24 (1#8 : Byte)
    floor.Ready ∧ floor.NoTransfers ∧ floor.test.phase = .idle ∧ floor.cabinet 1 = some (cabinet 1 .online) ∧
    1 ≤ (cabinet 1 .online).defn.stringCount ∧ (cabinet 1 .online).slot 1 = some unit ∧ floor.lockOf 1 = none ∧
    floor.bus (cabinet 1 .online).defn.bus = some busA ∧ settings.length = 24 := by decide +kernel

/-- Two buses, the second without cabinets. -/
def twoBuses : State := floor.setBus 1 (some busA)

/-- One bus and nothing else. -/
def bareBus : State := State.reset.setBus 0 (some busA)

theorem test_witness_UndefineRemovesStringCabinetAndBus :
    floor.Ready ∧ floor.NoTransfers ∧ floor.test.phase = .idle ∧ floor.cabinet 1 = some (cabinet 1 .online) ∧
    ((cabinet 1 .online).slot 1).isSome ∧ floor.lockOf 1 = none ∧
    ∀ v ∈ floor.visits, v.state ≠ .closed → 1 ∉ v.scope := by decide +kernel

theorem test_witness_UndefineRemovesStringCabinetAndBus_bus :
    twoBuses.Ready ∧ (twoBuses.bus 1).isSome ∧ (∀ p ∈ twoBuses.definedCabinets, p.2.defn.bus ≠ 1) ∧
    (∀ p ∈ twoBuses.par.permits, p.kind = .busBypass → p.bus ≠ 1) ∧ (twoBuses.seqOf 1).state = .normal ∧
    ∃ other : Bus, other ≠ 1 ∧ (twoBuses.bus other).isSome := by decide +kernel

theorem test_witness_UndefineRemovesStringCabinetAndBus_last :
    ∀ scanner ∈ [ScannerState.running, .stopped],
      let s := bareBus.onScs fun x => { x with scanner := scanner }
      s.Ready ∧ (s.bus 0).isSome ∧ s.definedCabinets = [] ∧ s.par.permits = [] ∧ (s.seqOf 0).state = .normal ∧
      (∀ other : Bus, other ≠ 0 → s.bus other = none) ∧ s.scs.scanner = scanner := by decide +kernel

/-- Both images being written. -/
def saving (again : Bool) : State :=
  floor.onIms fun i => { i with
    configSave := .saving image again,
    ageingSave := .saving { header := image.header, body := floor.ageingBody } again }

theorem test_witness_CommitTakesOrCoalescesBothSaves :
    (floor.Ready ∧ floor.configured = true ∧ floor.ims.configSave = .idle ∧ floor.ims.ageingSave = .idle ∧
      floor.NoTransfers) ∧
    (let s := saving true
     s.Ready ∧ s.configured = true ∧ s.ims.configSave = .saving image true ∧
      s.ims.ageingSave = .saving { header := image.header, body := floor.ageingBody } true) := by decide +kernel

/-- The string with its ageing record lost at a start. -/
def lostUnit : StringUnit := { unit with age := { unit.age with ageingLost := true } }

/-- The floor with that string in its slot. -/
def lostFloor : State := floor.setCabinet 1 (some ((cabinet 1 .online).setSlot 1 (some lostUnit)))

theorem test_witness_SeedSetsWearChargeAndBaseline :
    let k := (cabinet 1 .online).setSlot 1 (some lostUnit)
    lostFloor.Ready ∧ lostFloor.NoTransfers ∧ lostFloor.cabinet 1 = some k ∧ k.slot 1 = some lostUnit ∧
    lostFloor.lockOf 1 = none ∧ lostUnit.age.ageingLost = true ∧ (List.replicate 15 (255#8 : Byte)).length = 15 ∧
    lostFloor.bus k.defn.bus = some busA := by
  decide +kernel

/-! ### Witnesses: the scanner's requests and the reads -/

/-- An entry of the scan list. -/
def entry (p : Point) : ScanEntry := { cabinet := 1, point := p, skip := 0, combine := .mean }

/-- The floor with two entries in both copies. -/
def listed (s : State) : State :=
  let list := [entry .state, entry (.stringVoltage 1)]
  s.onScs fun x => { x with pendingList := list, active := list.map ActiveEntry.new }

theorem test_witness_ScanEditAndTimingChangeTheLists :
    let s := listed floor
    let names := (s.cabinet 1).isSome ∧ ∀ slot, (Point.outputPower).slot = some slot → (s.string 1 slot).isSome
    s.Ready ∧ s.configured = true ∧ names ∧ (2#8).toNat ≤ s.scs.pendingList.length ∧ s.scs.pendingList.length < 128 ∧
    (∀ f ∈ s.scs.pendingList, ¬(f.cabinet = 1 ∧ f.point = .outputPower)) ∧ (1#8).toNat < s.scs.pendingList.length ∧
    (∀ f ∈ s.scs.pendingList.eraseIdx 1, ¬(f.cabinet = 1 ∧ f.point = .outputPower)) := by
  refine ⟨by decide +kernel, by decide +kernel, ⟨by decide +kernel, ?_⟩, by decide +kernel⟩
  intro slot h
  cases h

/-- The floor with a list and a transaction on the link. -/
def busyLink : State := (listed floor).onClc fun l => { l with link := .own }

theorem test_witness_ScanStartAndStop :
    (busyLink.Ready ∧ busyLink.configured = true ∧ busyLink.scs.scanner = .stopped ∧ busyLink.clc.link = .own) ∧
    1 ≤ (0#8).toNat * 256 + (1#8).toNat ∧
    (∀ state ∈ [ScannerState.running, .delayed, .stopped],
      let s := (listed floor).onScs fun x => { x with scanner := state }
      s.Ready ∧ s.configured = true ∧ s.NoTransfers ∧ s.scs.scanner = state) := by decide +kernel

theorem test_witness_ReadsAnswerWholeRecords : floor.Ready ∧ floor.string 1 1 = some unit ∧ 7 ≤ 7 ∧ 127 ≤ 127 := by
  decide +kernel

theorem test_witness_RecordsHaveTheirLengths :
    (1 < 256 ∧ floor.cabinet 1 = some (cabinet 1 .online) ∧ (cabinet 1 .online).defn.tag.length = 8) ∧
    (∃ u, floor.bus 0 = some u) ∧ floor.bus 1 = none ∧ floor.cabinet 24 = none ∧ floor.string 24 1 = none ∧
    floor.string 1 1 = some unit ∧ (1 < 256 ∧ floor.visitIn 1 = none) ∧
    (let v := visit 5 .operate .active
     (visited floor v).visitIn 0 = some v ∧ v.scope.length ≤ 24 ∧ v.replaced.length ≤ 8) ∧
    (Notice.firstStartup.bus ≤ 4 ∧ Notice.firstStartup.slot ≤ 4) := by
  refine ⟨by decide +kernel, ⟨_, rfl⟩, ?_⟩
  decide +kernel

/-! ### Witnesses: permits, tests and visits on request -/

/-- A withdrawal permit of cabinet 1, held by the host. -/
def permit (id : Nat) (state : PermitState) : Permit :=
  { id := id, kind := .withdraw, bus := 0, cabinet := some 1, holder := 0, policy := some .onRequest, state := state,
    requestUptime := 500, deadline := none, grantUptime := none, grantSequence := none, returnOrdered := false,
    yielded := false, yieldSequence := none, adopted := false, sent := false }

/-- A state with one live permit. -/
def permitted (s : State) (p : Permit) : State := s.onPar fun x => { x with permits := [p] }

theorem test_witness_PermitRequestsWait :
    floor.Ready ∧ (floor.bus 0).isSome ∧ (floor.seqOf 0).state = .normal ∧ floor.par.permits.length < 32 ∧
    (∀ p ∈ floor.par.permits, p.bus ≠ 0 ∧ p.cabinet ≠ some 1) ∧ floor.cabinet 1 = some (cabinet 1 .online) ∧
    (cabinet 1 .online).defn.bus = 0 ∧ floor.lockOf 1 = none ∧ floor.known 0 = false ∧
    (cabinet 1 .online).track.state ≠ .standby ∧ (cabinet 1 .online).track.state ≠ .isolated ∧
    Policy.hold ≠ .yield ∧ floor.masterOf 0 = none ∧ (∀ x ∈ floor.cabinetsOf 0, floor.lockOf x.1 = none) ∧
    ((cabinet 1 .online).slot 1).isSome := by decide +kernel

/-- A bus found closed on its bypass without a permit. -/
def orphanBypass : State := floor.onSeq 0 fun q => { q with state := .onMaintBypass, orphan := true }

theorem test_witness_AdoptionsAreGrantedAtOnce :
    (∀ m ∈ [Mode.standby, .isolated],
      (site m).Ready ∧ ((site m).bus 0).isSome ∧ (site m).par.permits = [] ∧ (site m).cabinet 1 = some (cabinet 1 m) ∧
      (site m).lockOf 1 = none ∧ ((site m).seqOf 0).state = .normal ∧
      ((cabinet 1 m).track.state = .standby ∨ (cabinet 1 m).track.state = .isolated)) ∧
    (orphanBypass.Ready ∧ (orphanBypass.bus 0).isSome ∧ orphanBypass.par.permits = [] ∧
      (orphanBypass.seqOf 0).state = .onMaintBypass ∧ (orphanBypass.seqOf 0).orphan = true ∧
      ∀ x ∈ orphanBypass.cabinetsOf 0, orphanBypass.lockOf x.1 = none) := by decide +kernel

/-- Cabinet 1 as the master of bus A, on line with its bypass source, in a test or not. -/
def masterCabinet (testActive : Bool) : Cabinet :=
  let k := cabinet 1 .online
  { k with defn := { k.defn with master := true },
           track := { k.track with lastWord := some { word .online with testActive := testActive, bypassSourceOk := true } } }

/-- Cabinets 1 to 3 on line with fresh readings, the link busy. -/
def grantable (testActive : Bool) : State :=
  let k := fun (c : Nat) =>
    { cabinet c .online with track := { track .online with lastWord := some { word .online with bypassSourceOk := true } } }
  let power := fun (c : Nat) => ({ ActiveEntry.new { entry .outputPower with cabinet := c } with
    reading := { Reading.initial with value := 300, quality := .fresh } } : ActiveEntry)
  (((seen (busyLink.setCabinet 1 (some (masterCabinet testActive)))).setCabinet 2 (some (k 2))).setCabinet 3
    (some (k 3))).onScs fun x => { x with active := [power 1, power 2, power 3] }

theorem test_witness_AdoptionsAreGrantedAtOnce_granted :
    ∀ testActive ∈ [false, true],
      let s := grantable testActive
      let k := masterCabinet testActive
      let w := { word .online with testActive := testActive, bypassSourceOk := true }
      let d := busSeen.defn
      s.Ready ∧ s.par.permits = [] ∧ s.bus 0 = some busSeen ∧ (s.seqOf 0).state = .normal ∧ s.clc.link = .own ∧
      s.queueOf 0 = TransferQueue.initial ∧ (∀ x ∈ s.cabinetsOf 0, x.2.track.state ≠ .onBattery) ∧
      s.cabinet 1 = some k ∧ k.defn.bus = 0 ∧ (∀ x ∈ s.cabinetsOf 0, s.lockOf x.1 = none) ∧ k.track.state = .online ∧
      s.known 0 = true ∧ (s.strict 0 d).uncertainCount = 0 ∧ 0 ≤ (s.whatIfWithdrawn 0 d 1).margin ∧
      d.minAutonomy ≤ (s.whatIfWithdrawn 0 d 1).autonomy ∧ d.minAutonomy ≤ (s.whatIfTested 0 d 1 1).autonomy ∧
      (k.slot 1).isSome ∧ k.track.lastWord = some w ∧ s.test.phase = .idle ∧ 0 ≤ (s.strict 0 d).margin ∧
      (s.onlineSet 0).map (fun x => x.1) = 1 :: [2, 3] ∧
      (∀ x ∈ s.onlineSet 0, (x.2.track.lastWord.map fun w => w.bypassSourceOk) = some true) ∧ s.masterOf 0 = some 1 ∧
      s.tracked 1 = some .online := by decide +kernel

/-- A withdrawal that was sent, with another command of the bus in hand. -/
def withdrawn : State :=
  (permitted (site .standby) { permit 7 .granted with sent := true }).onQueue 0 fun q =>
    { q with inHand := some { entry := { cabinet := 1, command := .cancel, permit := none }, used := true } }

/-- A bypass permit with its transfer under way. -/
def bypassing (state : SeqState) : State :=
  (permitted floor { permit 7 .granted with kind := .busBypass, cabinet := none }).onSeq 0 fun q =>
    { q with state := state }

theorem test_witness_ReturnPermitReturns :
    (let s := permitted floor (permit 7 .granted)
     s.Ready ∧ s.configured = true ∧ s.permit 7 = some (permit 7 .granted) ∧
      (∀ q ∈ s.par.permits, q.bus = 0 → q.id = 7) ∧ s.lockOf 1 = none ∧ (s.seqOf 0).state = .normal) ∧
    (let p := { permit 7 .granted with sent := true }
     withdrawn.Ready ∧ withdrawn.configured = true ∧ withdrawn.permit 7 = some p ∧ p.sent = true ∧
      (∀ q ∈ withdrawn.par.permits, q.bus = 0 → q.id = 7) ∧ withdrawn.lockOf 1 = none ∧
      (withdrawn.seqOf 0).state = .normal ∧ (withdrawn.queueOf 0).inHand.isSome ∧ (withdrawn.queueOf 0).waiting = []) ∧
    (∀ state ∈ [SeqState.preparing, .closing],
      let s := bypassing state
      s.Ready ∧ s.configured = true ∧
      s.permit 7 = some { permit 7 .granted with kind := .busBypass, cabinet := none } ∧ (s.seqOf 0).state = state ∧
      ∀ x ∈ s.cabinetsOf 0, s.lockOf x.1 = none) := by decide +kernel

/-- Bus A with its first round seen and a reserve. -/
def reserving (reserve : Nat) : BusUnit := { busSeen with defn := { busSeen.defn with reserve := reserve } }

/-- A test permit of the string of cabinet 1. -/
def testPermit : Permit := { permit 7 .granted with kind := .stringTest 1 3, policy := none }

/-- The string under test. -/
def testUnit : TestUnit := { cabinet := 1, bus := 0, slot := 1 }

/-- A bypass on maintenance, the master and a second cabinet in given modes, the queue idle or in its spacing. -/
def bypassed (master other : Mode) (reserve : Nat) (free : Bool) : State :=
  (((((bypassing .onMaintBypass).setBus 0 (some (reserving reserve))).setCabinet 1 (some
      { cabinet 1 master with defn := { (cabinet 1 master).defn with master := true } })).setCabinet 2 (some
      (cabinet 2 other))).onQueue 0 fun q => { q with spacingDue := if free then none else some 1001 })

/-- A return that begins at once, one that waits for its figures, and one that waits for the master. -/
theorem test_witness_ReturnPermitReturns_bypass :
    let p := { permit 7 .granted with kind := .busBypass, cabinet := none }
    let set := fun (s : State) => (((s.cabinetsOf 0).filter fun x => x.2.track.state == .online &&
      s.par.permits.all fun q => !(q.kind == .withdraw && q.cabinet == some x.1 && q.state != .waiting)).map fun x => x.1)
    (∀ x ∈ [(Mode.online, Mode.online, 1, false), (.online, .standby, 3, true), (.standby, .online, 1, true)],
      let s := bypassed x.1 x.2.1 x.2.2.1 x.2.2.2
      s.Ready ∧ s.configured = true ∧ s.permit 7 = some p ∧ s.bus 0 = some (reserving x.2.2.1) ∧
      (s.seqOf 0).state = .onMaintBypass ∧ s.par.permits.filter (fun q => q.bus == 0) = [p] ∧
      (∀ q ∈ s.par.permits, q.id = p.id → q = p) ∧ (∀ x ∈ s.cabinetsOf 0, s.lockOf x.1 = none) ∧ s.masterOf 0 = some 1 ∧
      (s.queueOf 0).waiting = []) ∧
    (let s := bypassed .online .online 1 false
     1 ∈ set s ∧ 0 ≤ (s.returnFigures 0 (reserving 1).defn).margin ∧ (s.queueOf 0).spacingDue ≠ none) ∧
    (let s := bypassed .online .standby 3 true; 1 ∈ set s ∧ (s.returnFigures 0 (reserving 3).defn).margin < 0) ∧
    (let s := bypassed .standby .online 1 true; 1 ∉ set s) := by decide +kernel

/-- A YIELD withdrawal, granted as the n-th. -/
def yieldPermit (id c n : Nat) (sent : Bool) : Permit :=
  { permit id .granted with cabinet := some c, policy := some .yield, sent := sent, grantSequence := some n }

/-- Bus A with a reserve that brings a deficit, and three withdrawals, one of an ISOLATED cabinet. -/
def yielding : State :=
  ((((seen floor).setCabinet 2 (some (cabinet 2 .standby))).setCabinet 3 (some (cabinet 3 .isolated))).setBus 0
    (some (reserving 3))).onPar fun x =>
    { x with permits := [yieldPermit 3 2 5 true, yieldPermit 4 3 9 true, yieldPermit 5 2 7 false] }

/-- The most recent grant of a cabinet that is not ISOLATED is taken; the pass yields every such withdrawal here. -/
theorem test_witness_ReturnPermitReturns_yield :
    yielding.yieldCandidate 0 = some (yieldPermit 5 2 7 false) ∧ (seen floor).yieldCandidate 0 = none ∧
    (yielding.seqOf 0).state = .normal ∧ yielding.known 0 = true ∧
    (yielding.strict 0 (reserving 3).defn).margin < 0 ∧
    ¬((seen floor).strict 0 busSeen.defn).margin < 0 ∧
    (yielding.yieldWithdrawals 0).par.permits.map (fun p => (p.id, p.state)) = [(3, .returning), (4, .granted)] := by
  decide +kernel

theorem test_witness_ReturnPermitReturns_yieldTest :
    let s := seen (permitted (site .onBattery) testPermit)
    s.bus 0 = some busSeen ∧ s.par.permits.filter (fun q => q.bus == 0 && q.isTest && q.state == .granted) = [testPermit] ∧
    ∃ x ∈ s.cabinetsOf 0, x.2.track.state = .onBattery := by decide +kernel

/-- A DEFINE_BUS that asks for three cabinets of reserve while one is out on a YIELD permit. -/
theorem test_witness_ReturnPermitReturns_yieldStep :
    let p := yieldPermit 3 2 5 true
    let s := (permitted ((seen floor).setCabinet 2 (some (cabinet 2 .standby))) p).onQueue 0 fun q =>
      { q with spacingDue := some 1001 }
    let new : BusRec :=
      { reserve := (3#8).toNat, headroom := (10#8).toNat, minAutonomy := (10#8).toNat, spacing := (5#8).toNat,
        syncTimeout := (5#8).toNat, transferTimeout := (0#8).toNat * 256 + (60#8).toNat }
    let replaced := s.setBus 0 (some { busSeen with defn := new })
    s.Ready ∧ s.bus 0 = some busSeen ∧ s.par.permits.filter (fun q => q.bus == 0) = [p] ∧
    (∀ q ∈ s.par.permits, q.id = p.id → q = p) ∧ p.kind = .withdraw ∧ p.policy = some .yield ∧ p.state = .granted ∧
    p.cabinet = some 2 ∧ s.tracked 2 ≠ some .isolated ∧ p.holder = 0 ∧ p.sent = true ∧ (s.queueOf 0).priority = [] ∧
    (s.queueOf 0).ordinary = [] ∧ (s.queueOf 0).spacingDue ≠ none ∧ new.reserve ≤ 3 ∧ new.headroom ≤ 50 ∧
    new.minAutonomy ≤ 120 ∧ 1 ≤ new.spacing ∧ new.spacing ≤ 60 ∧ 1 ≤ new.syncTimeout ∧ new.syncTimeout ≤ 30 ∧
    5 ≤ new.transferTimeout ∧ new.transferTimeout ≤ 300 ∧ (replaced.seqOf 0).state = .normal ∧ replaced.known 0 = true ∧
    (replaced.strict 0 new).margin < 0 ∧ (replaced.pendingCredit 0 new).margin < 0 := by decide +kernel

/-- A yielded withdrawal, as the n-th of its bus. -/
def yieldedPermit (id c n : Nat) (state : PermitState) : Permit :=
  { yieldPermit id c id true with state := state, yielded := true, yieldSequence := some n, returnOrdered := true }

/-- Its GO_ONLINE. -/
def yieldedEntry (id c : Nat) : TransferEntry := { cabinet := c, command := .goOnline, permit := some id }

/-- A blocked return, the first of three yields but one, with the others' GO_ONLINE in the priority lane and a command in hand. -/
def blockedReturn : State :=
  ((seen floor).onPar fun x =>
    { x with permits := [yieldedPermit 3 1 2 .returnBlocked, yieldedPermit 4 2 1 .returning, yieldedPermit 5 3 3 .returning] }).onQueue
    0 fun q => { q with priority := [yieldedEntry 4 2, yieldedEntry 5 3],
                        inHand := some { entry := yieldedEntry 9 4, used := false } }

theorem test_witness_ReturnPermitReturns_retry :
    let s := blockedReturn
    let p := yieldedPermit 3 1 2 .returnBlocked
    s.Ready ∧ s.configured = true ∧ s.permit 3 = some p ∧ s.lockOf 1 = none ∧
    (∀ q ∈ s.par.permits, q.bus = 0 → q.state = .returning ∨ q.state = .returnBlocked) ∧ (s.seqOf 0).state = .normal ∧
    (s.queueOf 0).inHand.isSome ∧ (s.queueOf 0).priority = [yieldedEntry 4 2] ++ [yieldedEntry 5 3] ∧
    (∀ e ∈ (s.queueOf 0).waiting, e.cabinet ≠ 1 ∧ e.permit ≠ some 3) ∧
    s.permit 4 = some (yieldedPermit 4 2 1 .returning) ∧ s.permit 5 = some (yieldedPermit 5 3 3 .returning) := by decide +kernel

/-- R138: the retry of a yielded permit joins the priority lane between those yielded before and after it. -/
theorem test_retry_joins_in_the_order_of_yields :
    (match exec (.returnPermit 1#8 [0#8, 3#8]) blockedReturn with
      | .next t => (t.queueOf 0).priority == [yieldedEntry 4 2, yieldedEntry 3 1, yieldedEntry 5 3]
      | _ => false) = true := by decide +kernel

/-- The request that begins a test. -/
def beginRequest : LinkRequest :=
  { requester := .test, cls := .command (.testBegin 1), cabinet := 1, attempts := 0, begun := true, address := 1, credited := true,
    counted := true }

/-- A test whose TEST_BEGIN waits for the link. -/
def beginning : State :=
  ((permitted floor testPermit).onTest fun t =>
    { t with phase := .begin, permit := some 7, subject := some testUnit, steps := 3, inHand := some .testBegin }).onClc fun l =>
    { l with link := .own, testSlot := some beginRequest }

theorem test_witness_CancelAndAbortEndThePermit :
    let s := permitted floor (permit 7 .waiting)
    s.Ready ∧ s.configured = true ∧ s.permit 7 = some (permit 7 .waiting) ∧
    (∀ q ∈ s.par.permits, q.bus = 0 → q.id = 7) ∧ (∀ c ∈ s.permitTouches (permit 7 .waiting), s.lockOf c = none) ∧
    (s.seqOf 0).state = .normal ∧ (s.queueOf 0).waiting = [] ∧ (s.queueOf 0).inHand = none := by decide +kernel

theorem test_witness_CancelAndAbortEndThePermit_abort :
    beginning.Ready ∧ beginning.configured = true ∧ beginning.par.permits = [testPermit] ∧ beginning.NormalBuses ∧
    beginning.lockOf 1 = none ∧ beginning.test.phase = .begin ∧ beginning.test.permit = some testPermit.id ∧
    beginning.test.holder = 0 ∧ beginning.test.subject = some testUnit ∧ beginning.test.beginHanded = false ∧
    beginning.test.inHand = some .testBegin ∧ beginning.clc.testSlot = some beginRequest ∧
    (beginning.queueOf 0).waiting = [] ∧ (beginning.queueOf 0).inHand = none := by decide +kernel

/-- R110 step 6: the idle context keeps the last-test summary alone. -/
theorem test_abort_clears_the_context :
    (match exec (.abortStringTest 3#8 [0#8, 7#8]) (beginning.onTest fun t => { t with level := 2, charge := 77 }) with
      | .next t => t.test == { TestContext.initial with last := t.test.last } && t.test.last.outcome == .aborted
      | _ => false) = true := by decide +kernel

theorem test_witness_IdsAndVisitSlotsAreTheFirstFree :
    ([255, 1] : List Nat).length < 255 ∧ 1 ≤ 255 ∧ 255 ≤ 255 ∧ freeId [255, 1] 255 255 = 2 ∧
    floor.vct.slots[(0 : Fin 8)] = none ∧ (∀ j : Fin 8, j < 0 → floor.vct.slots[j] ≠ none) := by decide +kernel

/-- Every slot of the visit table taken, by visits of a state with rising close sequences. -/
def fullTable (state : VisitState) : State :=
  floor.onVct fun x => { x with
    slots := Vector.ofFn fun i : Fin 8 => some { visit (i.val + 1) .observe state with closeSequence := some (i.val + 3) } }

theorem test_witness_IdsAndVisitSlotsAreTheFirstFree_full :
    (∀ i : Fin 8, (fullTable .closed).vct.slots[i] ≠ none) ∧
    (fullTable .closed).vct.slots[(0 : Fin 8)] = some { visit 1 .observe .closed with closeSequence := some 3 } ∧
    ((fullTable .closed).visits.all fun w => w.id == 1 || decide (3 < w.closeSequence.getD 0)) = true ∧
    (∀ i : Fin 8, (fullTable .active).vct.slots[i] ≠ none) ∧
    ((fullTable .active).visits.all fun w => w.state != .closed) = true := by decide +kernel

/-- The floor with its clock set to a floor time. -/
def clocked (time : Nat) : State := floor.onClock fun k => { k with valid := true, offset := time - 1000 }

theorem test_witness_BookVisitBooksOrActivates :
    (clocked 5000).Ready ∧ (clocked 5000).configured = true ∧ 1 < 2 ^ 32 ∧ 6000 < 2 ^ 32 ∧ 65535 < 65536 ∧
    [1] ≠ ([] : List Nat) ∧ [1].Nodup ∧ (∀ c ∈ [1], ((clocked 5000).cabinet c).isSome) ∧
    (clocked 5000).clock.valid = true ∧ (clocked 5000).visits = [] ∧ (clocked 5000).vct.slots[(0 : Fin 8)] = none ∧
    (clocked 5000).clock.floorTime < 6000 ∧ 5000 ≤ (clocked 5000).clock.floorTime ∧
    (∀ c ∈ [1], (clocked 5000).lockOf c = none) ∧
    (let s := visited (clocked 5000) (visit 5 .operate .active)
     s.Ready ∧ s.configured = true ∧ (∀ v ∈ s.visits, v.credential = 1 → v.state = .closed) ∧
      s.vct.slots[(1 : Fin 8)] = none ∧ (∀ i : Fin 8, i < 1 → s.vct.slots[i] ≠ none) ∧ ¬∀ c ∈ [1], s.lockOf c = none) := by
  decide +kernel

theorem test_witness_CancelVisitRemovesABookedVisit :
    let v := visit 5 .operate .booked
    let s := visited floor v
    s.Ready ∧ [5#8].length ≤ 120 ∧ State.reset.Ready ∧ State.reset.configured = false ∧ s.configured = true ∧
    s.visit (5#8).toNat = some v ∧ v.state = .booked ∧ s.visit (6#8).toNat = none ∧
    (visited floor (visit 5 .operate .active)).visit (5#8).toNat = some (visit 5 .operate .active) ∧
    (visit 5 .operate .active).state ≠ .booked := by decide +kernel

theorem test_witness_ExtendVisitMovesTheDeadline :
    (∀ state ∈ [VisitState.active, .overdue],
      let v := visit 5 .operate state
      let s := visited floor v
      s.Ready ∧ s.configured = true ∧ s.visit (5#8).toNat = some v ∧ v.deadline = some 950 ∧
      (v.state = .active ∨ v.state = .overdue)) ∧
    (let v := visit 5 .operate .closed
     (visited floor v).visit (5#8).toNat = some v ∧ v.state ≠ .active ∧ v.state ≠ .overdue) ∧
    floor.visit (5#8).toNat = none ∧ State.reset.Ready ∧ State.reset.configured = false := by decide +kernel

theorem test_witness_CloseVisitClosesOrIsRefused :
    let v := visit 5 .operate .active
    (let s := visited floor v
     s.Ready ∧ s.configured = true ∧ s.vct.slots[(0 : Fin 8)] = some v ∧ s.visits = [v] ∧ v.replaced = [] ∧ v.closeSet = [] ∧
      v.report.ended = 0 ∧ (∀ p ∈ s.par.permits, p.holder ≠ v.id) ∧ (∀ w ∈ s.visits, w.waitingLock = false) ∧
      v.actions ≤ 65535) ∧
    (let s := permitted (visited floor v) { permit 7 .granted with holder := 5 }
     s.Ready ∧ s.configured = true ∧ s.visits = [v] ∧
      s.par.permits = [{ permit 7 .granted with holder := 5 }]) := by decide +kernel

/-- A state with an OVERDUE visit and the live permits. -/
def visiting (ps : List Permit) (s : State) : State :=
  (visited (seen s) (visit 5 .supervise .overdue)).onPar fun x => { x with permits := ps }

/-- What every clause of the close asks of the state with that visit. -/
abbrev closable (s : State) : Prop :=
  let v := visit 5 .supervise .overdue
  s.Ready ∧ s.configured = true ∧ s.vct.slots[(0 : Fin 8)] = some v ∧ s.visits = [v] ∧ v.replaced = [] ∧
  v.report.ended = 0 ∧ v.actions ≤ 65535

/-- The one permit of the visit, and of its bus. -/
def held (id : Nat) (state : PermitState) (policy : Option Policy) : Permit :=
  { permit id state with holder := 5, policy := policy }

/-- HOLD permits granted and returning, with one of another holder; a waiting permit; a withdrawal never sent. -/
theorem test_witness_CloseVisitClosesOrIsRefused_ends :
    (let s := visiting [held 9 .granted (some .hold), { held 7 .returning (some .hold) with cabinet := some 3 },
       { permit 8 .granted with cabinet := some 4 }] floor
     closable s ∧ (∀ p ∈ s.par.permits, p.holder = 5 → p.policy = some .hold ∧ p.state ≠ .waiting ∧ p.isTest = false) ∧
      (s.par.permits.map fun p => p.id).Nodup ∧ s.par.permits.length ≤ 32) ∧
    (∀ p ∈ [held 7 .waiting (some .hold), held 7 .granted (some .yield),
            { held 7 .waiting none with kind := .stringTest 2 3 }],
     let s := visiting [p, { permit 8 .granted with bus := 2 }] floor
     closable s ∧ s.par.permits.filter (fun q => q.bus == p.bus) = [p] ∧ (s.seqOf 0).state = .normal ∧
      (∀ q ∈ s.par.permits, q.holder = 5 ∨ q.id = p.id → q = p) ∧ p.policy ≠ some .onRequest) ∧
    ((held 7 .granted (some .yield)).sent = false ∧ (held 7 .granted (some .yield)).adopted = false) := by decide +kernel

/-- A test whose TEST_BEGIN waits. -/
theorem test_witness_CloseVisitClosesOrIsRefused_test :
    let p := { testPermit with holder := 5 }
    let s := visiting [p] (beginning.onTest fun t => { t with holder := 5 })
    closable s ∧ s.par.permits = [p] ∧ s.NormalBuses ∧ s.test.phase = .begin ∧ s.test.permit = some p.id ∧
    s.test.holder = 5 ∧ s.test.subject = some testUnit ∧ s.test.beginHanded = false ∧ s.test.inHand = some .testBegin ∧
    s.clc.testSlot = some beginRequest ∧ beginRequest.attempts = 0 := by decide +kernel

/-- A withdrawal that was sent, one that was adopted and one whose return is blocked, another command in hand. -/
theorem test_witness_CloseVisitClosesOrIsRefused_returns :
    let h : InHand := { entry := { cabinet := 3, command := .goOnline, permit := some 9 }, used := true }
    ∀ p ∈ [{ held 7 .granted (some .yield) with sent := true }, { held 7 .granted (some .whenDone) with adopted := true },
           { held 7 .returnBlocked (some .yield) with yielded := true }],
      let s := visiting [p] ((site .isolated).onQueue 0 fun q => { q with inHand := some h })
      closable s ∧ s.par.permits = [p] ∧ (s.seqOf 0).state = .normal ∧ (s.queueOf 0).inHand = some h ∧
      (s.queueOf 0).waiting = [] := by decide +kernel

/-- A bypass that closes, one on maintenance whose master is away, and returns that are awaited. -/
theorem test_witness_CloseVisitClosesOrIsRefused_bypass :
    let bypass := fun (state : PermitState) (ordered : Bool) =>
      { held 7 state (some .whenDone) with kind := .busBypass, cabinet := none, returnOrdered := ordered }
    let at_ := fun (p : Permit) (state : SeqState) =>
      visiting [p] (((site .standby).setCabinet 1 (some
        { cabinet 1 .standby with defn := { (cabinet 1 .standby).defn with master := true } })).onSeq 0 fun q =>
          { q with state := state })
    (∀ state ∈ [SeqState.preparing, .closing],
      closable (at_ (bypass .granted false) state) ∧ ((at_ (bypass .granted false) state).seqOf 0).state = state) ∧
    (let s := at_ (bypass .granted false) .onMaintBypass
     closable s ∧ (s.seqOf 0).state = .onMaintBypass ∧ s.bus 0 = some busSeen ∧ s.masterOf 0 = some 1 ∧
      s.tracked 1 ≠ some .online) ∧
    (∀ p ∈ [bypass .granted true, bypass .returning true, held 7 .returning (some .whenDone)],
      closable (at_ p .closing) ∧ p.isTest = false ∧ p.policy ≠ some .hold) := by decide +kernel

theorem test_witness_ReplacementBeginsTheRecordAnew :
    let s := visited (site .standby) (visit 5 .battery .active)
    let v := visit 5 .battery .active
    s.Ready ∧ s.configured = true ∧ s.cabinet 1 = some (cabinet 1 .standby) ∧ (cabinet 1 .standby).slot 1 = some unit ∧
    0 < unit.defn.designLife ∧ s.vct.slots[(0 : Fin 8)] = some v ∧ s.visits = [v] ∧ v.state = .active ∧ 1 ∈ v.scope ∧
    v.level = .battery ∧ s.test.phase = .idle ∧ (cabinet 1 .standby).track.state = .standby ∧ v.replaced.length < 8 ∧
    s.NoTransfers := by decide +kernel

/-- New rated values, one of them out of its range, for the last place of the visit's list and for a string already on it. -/
theorem test_witness_ReplacementBeginsTheRecordAnew_rated :
    let rated := [1#8, 0#8, 0#8, 0#8, 2#8, 0#8, 2#8, 2#8, 0#8, 20#8]
    rated.length = 10 ∧ field rated 0 2 = 256 ∧ clampTo 1 5000 (field rated 0 2) = 256 ∧ clampTo 100 2000000 (field rated 2 4) = 512 ∧
    clampTo 365 7300 (field rated 6 2) = 514 ∧ clampTo 10 5000 (field [0#8, 3#8] 0 2) ≠ field [0#8, 3#8] 0 2 ∧
    ∀ replaced ∈ [List.replicate 7 (2, 2), List.replicate 7 (2, 2) ++ [(1, 1)]],
      let v := { visit 5 .battery .active with replaced := replaced }
      let s := visited (site .standby) v
      s.Ready ∧ s.configured = true ∧ s.cabinet 1 = some (cabinet 1 .standby) ∧ s.vct.slots[(0 : Fin 8)] = some v ∧
      s.visits = [v] ∧ (v.replaced.length < 8 ∨ (1, 1) ∈ v.replaced) ∧ s.test.phase = .idle ∧ s.NoTransfers := by decide +kernel

/-! ### Witnesses: the cabinet link -/

/-- A request of the scanner to cabinet 1. -/
def scanRequest (cls : TxClass) (cabinet : Nat) : LinkRequest :=
  { requester := .scan, cls := cls, cabinet := cabinet, attempts := 0, begun := true, address := cabinet, credited := decide (cabinet ≠ 0),
    counted := true }

/-- A request on the line. -/
def inFlight (r : LinkRequest) : InFlight := { request := r, rate := 100, stretchMs := 25 }

/-- The floor with a pass in flight, of which `n` outcomes are outstanding, and a request on the line. -/
def onLine (r : LinkRequest) (n : Nat) : State :=
  ((listed floor).onClc fun l => { l with link := .own, inFlight := some (inFlight r) }).onScs fun x =>
    { x with scanner := .running, outstanding := n, passSequence := 9 }

theorem test_witness_FreezeEndsItsPart :
    ∀ n ∈ [1, 2],
      let r := scanRequest (.freeze 9) 0
      let s := onLine r n
      s.Quiet ∧ s.clc.Empty ∧ s.clc.link = .own ∧ s.clc.inFlight = some (inFlight r) ∧ r.requester = .scan ∧
      r.cls = .freeze 9 ∧ r.counted = true ∧ s.scs.outstanding = n ∧ s.scs.passCount + 1 < s.scs.timing.average := by
  decide +kernel

/-- The state word of a cabinet on line, without a flag. -/
def onlineOctet : Byte := 0x00#8

theorem test_witness_PollIsTrackedAndJudged :
    let r := scanRequest (.poll (.stringVoltage 1)) 1
    let s := onLine r 2
    s.Quiet ∧ s.clc.Empty ∧ s.clc.link = .own ∧ s.clc.inFlight = some (inFlight r) ∧ r.requester = .scan ∧
    r.cls = .poll (.stringVoltage 1) ∧ r.cabinet = 1 ∧ r.counted = true ∧ r.credited = true ∧
    s.cabinet 1 = some (cabinet 1 .online) ∧ 2 ≤ s.scs.outstanding ∧
    min ((cabinet 1 .online).track.failures + 1) 15 < s.floor.unreachableThreshold ∧
    StateWord.ofByte onlineOctet = some (word .online) ∧ (cabinet 1 .online).track.lastWord = some (word .online) ∧
    (cabinet 1 .online).track.unreachable = false ∧ (cabinet 1 .online).track.overlay = none ∧
    (cabinet 1 .online).track.firstReportPending = false ∧ (cabinet 1 .online).track.bypassCheckPending = false ∧
    (9#8).toNat = s.scs.passSequence ∧ (8#8).toNat ≠ s.scs.passSequence := by decide +kernel

/-- The failure that reaches the threshold of 3. -/
theorem test_witness_PollIsTrackedAndJudged_threshold :
    let r := scanRequest (.poll (.stringVoltage 1)) 1
    let k := { cabinet 1 .online with track := { track .online with failures := 2 } }
    let s := seen ((onLine r 2).setCabinet 1 (some k))
    s.Quiet ∧ s.clc.Empty ∧ s.clc.link = .own ∧ s.clc.inFlight = some (inFlight r) ∧ r.credited = true ∧
    s.cabinet 1 = some k ∧ 2 ≤ s.scs.outstanding ∧ s.NoTransfers ∧ s.test.subject = none ∧ k.track.unreachable = false ∧
    s.floor.unreachableThreshold ≤ min (k.track.failures + 1) 15 ∧ k.track.state ≠ .onBattery := by decide +kernel

/-- A transfer command to cabinet 1. -/
def transferRequest (command : CabinetCommand) (attempts : Nat) : LinkRequest :=
  { requester := .transfer 0, cls := .command command, cabinet := 1, attempts := attempts, begun := true, address := 1, credited := true,
    counted := true }

/-- A transfer command on the line, in the hand of bus A. -/
def commanded (command : CabinetCommand) (entry : TransferCommand) (attempts : Nat) : State :=
  (floor.onClc fun l =>
    { l with link := .own, inFlight := some (inFlight (transferRequest command attempts)) }).onQueue 0 fun q =>
    { q with inHand := some { entry := { cabinet := 1, command := entry, permit := none }, used := true } }

theorem test_witness_CommandEndsOrIsMadeAgain :
    let s := commanded .bypassCancel .cancel 1
    let r := transferRequest .bypassCancel 1
    s.Quiet ∧ s.clc.Empty ∧ s.clc.link = .own ∧ s.clc.inFlight = some (inFlight r) ∧ r.requester = .transfer 0 ∧
    r.cls = .command .bypassCancel ∧ r.cabinet = 1 ∧ r.credited = true ∧ s.cabinet 1 = some (cabinet 1 .online) ∧
    StateWord.ofByte onlineOctet = some (word .online) ∧ (cabinet 1 .online).track.lastWord = some (word .online) ∧
    (s.queueOf 0).inHand =
      some { entry := { cabinet := 1, command := .cancel, permit := none }, used := true } ∧ r.attempts < 2 ∧
    min ((cabinet 1 .online).track.failures + 1) 15 < s.floor.unreachableThreshold := by decide +kernel

/-- A withdrawal whose WITHDRAW or GO_ONLINE is on the line. -/
def ordered (m : Mode) (command : CabinetCommand) (entry : TransferCommand) (state : PermitState) : State :=
  seen (((permitted (site m) (permit 7 state)).onClc fun l =>
    { l with link := .own, inFlight := some (inFlight (transferRequest command 1)) }).onQueue 0 fun q =>
    { q with inHand := some { entry := { cabinet := 1, command := entry, permit := some 7 }, used := true } })

/-- WITHDRAW to a cabinet on line and GO_ONLINE to one on STANDBY, answered OK or refused. -/
theorem test_witness_CommandEndsOrIsMadeAgain_permits :
    ∀ x ∈ [(Mode.online, CabinetCommand.withdraw, TransferCommand.withdraw, PermitState.granted),
        (.standby, .goOnline, .goOnline, .returning)],
      let p := permit 7 x.2.2.2
      let s := ordered x.1 x.2.1 x.2.2.1 x.2.2.2
      let k := cabinet 1 x.1
      s.Quiet ∧ s.clc.Empty ∧ s.clc.link = .own ∧ s.clc.inFlight = some (inFlight (transferRequest x.2.1 1)) ∧
      s.cabinet 1 = some k ∧ StateWord.ofByte (BitVec.ofNat 8 x.1.bits) = some (word x.1) ∧
      k.track.lastWord = some (word x.1) ∧ k.track.unreachable = false ∧ k.track.overlay = none ∧
      k.track.firstReportPending = false ∧ k.track.bypassCheckPending = false ∧ k.defn.bus = 0 ∧ s.bus 0 = some busSeen ∧
      (s.seqOf 0).state = .normal ∧ s.test.subject = none ∧ s.par.permits.filter (fun q => q.bus == 0) = [p] ∧
      (∀ q ∈ s.par.permits, q.cabinet = some 1 ∨ q.id = p.id → q = p) ∧ p.kind = .withdraw ∧ p.cabinet = some 1 ∧
      p.holder = 0 ∧ p.state ≠ .waiting ∧ p.policy ≠ some .yield ∧
      (s.queueOf 0).inHand = some { entry := { cabinet := 1, command := x.2.2.1, permit := some p.id }, used := true } := by
  decide +kernel

/-- A request of the test engine to cabinet 1. -/
def testRequest (cls : TxClass) : LinkRequest :=
  { requester := .test, cls := cls, cabinet := 1, attempts := 0, begun := true, address := 1, credited := true, counted := true }

/-- A test in a phase, its TEST_READ on the line. -/
def reading (phase : TestPhase) (notReady : Nat) : State :=
  (floor.onClc fun l => { l with link := .own, inFlight := some (inFlight (testRequest (.testRead 1))) }).onTest fun t =>
    { t with phase := phase, permit := some 7, subject := some testUnit, steps := 3, level := 1, inHand := some .testRead,
             notReady := notReady }

theorem test_witness_TestReadNotReadyIsReadAgain :
    ∀ phase ∈ [TestPhase.search, .measure],
      let s := reading phase 2
      s.Quiet ∧ s.clc.Empty ∧ s.clc.link = .own ∧ s.clc.inFlight = some (inFlight (testRequest (.testRead 1))) ∧
      s.cabinet 1 = some (cabinet 1 .online) ∧ (cabinet 1 .online).slot 1 = some unit ∧
      (cabinet 1 .online).track.unreachable = false ∧ s.test.subject = some testUnit ∧ s.test.phase = phase ∧
      s.test.inHand = some .testRead ∧ s.test.notReady < 3 := by decide +kernel

/-- The string under test, its test record open. -/
def testedUnit (state : StringState) (settle : Nat) : StringUnit :=
  { unit with
    defn := { stringRec with settleTime := settle },
    age := { unit.age with state := state, energy := 0, history := [DischargeRec.new .test floor.clock] } }

/-- A test with its permit and its string, further changed. -/
def tested (cls : TxClass) (x : StringUnit) (permits : List Permit) (f : TestContext → TestContext) : State :=
  seen ((((reading .search 0).setCabinet 1 (some ((cabinet 1 .online).setSlot 1 (some x)))).onClc fun l =>
    { l with inFlight := some (inFlight (testRequest cls)) }).onPar fun y => { y with permits := permits }) |>.onTest f

/-- A reading that is not complete for the fourth time, one too low at level 15 and in MEASURE, and the last of the steps. -/
theorem test_witness_TestReadNotReadyIsReadAgain_ends :
    let x := testedUnit .testing 2
    let k := (cabinet 1 .online).setSlot 1 (some x)
    let p := testPermit
    (∀ f ∈ [fun (t : TestContext) => { t with notReady := 3 }, fun t => { t with level := 15 },
        fun t => { t with phase := .measure, results := [100, 200] }],
      let s := tested (.testRead 1) x [p] fun t => f { t with beginHanded := true }
      s.Quiet ∧ s.clc.Empty ∧ s.clc.link = .own ∧ s.clc.inFlight = some (inFlight (testRequest (.testRead 1))) ∧
      s.cabinet 1 = some k ∧ k.slot 1 = some x ∧ k.track.unreachable = false ∧ s.test.subject = some testUnit ∧
      (s.test.phase = .search ∨ s.test.phase = .measure) ∧ s.test.inHand = some .testRead ∧ s.par.permits = [p] ∧
      s.test.permit = some p.id ∧ p.holder = 0 ∧ p.bus = testUnit.bus ∧ k.defn.bus = testUnit.bus ∧ s.NormalBuses ∧
      s.test.beginHanded = true ∧ x.age.state = .testing ∧ s.notices.queue.length ≤ 28 ∧ (s.queueOf 0).waiting = [] ∧
      (s.queueOf 0).inHand = none) ∧
    (tested (.testRead 1) x [p] fun t => { t with phase := .measure, results := [100, 200] }).test.steps ≤
      ([100, 200] ++ [1]).length ∧
    (499#32).toNat < x.defn.minSignal ∧ ¬(500#32).toNat < x.defn.minSignal := by decide +kernel

/-- TEST_BEGIN with and without a settle time, answered OK or refused. -/
theorem test_witness_TestReadNotReadyIsReadAgain_begin :
    let p := testPermit
    (∀ settle ∈ [0, 2],
      let x := testedUnit .float settle
      let s := tested (.command (.testBegin 1)) x [p] fun t => { t with phase := .begin, inHand := some .testBegin }
      s.Quiet ∧ s.clc.Empty ∧ s.clc.link = .own ∧ s.cabinet 1 = some ((cabinet 1 .online).setSlot 1 (some x)) ∧
      s.test.subject = some testUnit ∧ s.test.phase = .begin ∧ s.test.inHand = some .testBegin ∧ s.par.permits = [p] ∧
      s.test.permit = some p.id ∧ p.holder = 0 ∧ s.test.holder = 0 ∧ p.bus = testUnit.bus ∧
      p.cabinet = some testUnit.cabinet ∧ p.kind = .stringTest testUnit.slot 3 ∧ p.isTest = true ∧ p.state = .granted ∧
      s.NormalBuses ∧ s.test.beginHanded = false ∧ (s.queueOf 0).waiting = [] ∧ (s.queueOf 0).inHand = none ∧
      s.bus 0 = some busSeen ∧ (∀ y ∈ s.cabinetsOf 0, y.2.track.state ≠ .onBattery) ∧
      0 ≤ (s.strict 0 busSeen.defn).margin ∧
      busSeen.defn.minAutonomy ≤ (s.whatIfTested 0 busSeen.defn 1 1).autonomy ∧ x.age.state = .float ∧
      x.defn.settleTime = settle) ∧ StateWord.ofByte 0#8 = some (word .online) := by decide +kernel

/-- TEST_STEP answered OK, and TEST_END. -/
theorem test_witness_TestReadNotReadyIsReadAgain_commands :
    (let s := tested (.command (.testStep 3)) (testedUnit .testing 2) [testPermit] fun t => { t with inHand := some .testStep }
     s.Quiet ∧ s.clc.Empty ∧ s.test.inHand = some .testStep ∧ s.test.phase = .search) ∧
    (let s := tested (.command .testEnd) (testedUnit .recharging 2) [] fun t =>
       { t with phase := .ending, inHand := some .testEnd, endHanded := true, endNeeded := true }
     s.Quiet ∧ s.clc.Empty ∧ s.test.phase = .ending ∧ s.test.inHand = some .testEnd ∧ s.test.endHanded = true ∧
      s.par.permits = []) := by decide +kernel

/-- The link taken by an alert. -/
def alerted : State := floor.onClc fun l => { l with link := .alertIn }

theorem test_witness_AlertsTakeTheLink :
    floor.Quiet ∧ floor.clc.link = .idle ∧ (onLine (scanRequest (.freeze 9) 0) 2).clc.inFlight.isSome ∧
    (onLine (scanRequest (.freeze 9) 0) 2).Quiet ∧ alerted.Quiet ∧ alerted.clc.link = .alertIn ∧ alerted.clc.Empty ∧
    31 < (32#8).toNat ∧ (∀ p ∈ alerted.definedCabinets, p.2.defn.address ≠ (31#8).toNat) ∧
    alerted.definedCabinets.filter (fun p => p.2.defn.address == (1#8).toNat) = [(1, cabinet 1 .online)] ∧
    1 ≤ (1#8).toNat ∧ StateWord.ofByte onlineOctet = some (word .online) := by decide +kernel

/-- A malformed alert, with a FREEZE waiting: with LDA still low nothing begins and the expiry follows; with both lines high the
FREEZE begins (R17, R29). -/
theorem test_witness_AlertsTakeTheLink_low :
    let s := alerted.onClc fun l => { l with scanQueue := [scanRequest (.freeze 9) 0] }
    let after := fun (low : Bool) =>
      match exec (.alertReceived 0x40#8 0#8 0#8 { check := 0#8, after := { lckLow := false, ldaLow := low } }) s with
        | .next t => (t.clc.link == .idle, t.clc.stuckTimer, t.clc.inFlight.isSome)
        | _ => (false, false, false)
    s.Quiet ∧ s.clc.link = .alertIn ∧ 31 < (0x40#8).toNat ∧ after true = (true, true, false) ∧
    after false = (false, false, true) := by decide +kernel

theorem test_witness_StretchTimeoutWaitsForTheClock :
    (let r := scanRequest (.poll (.stringVoltage 1)) 1
     let s := onLine r 2
     s.Quiet ∧ s.clc.inFlight = some (inFlight r) ∧ s.cabinet 1 = some (cabinet 1 .online) ∧ 2 ≤ s.scs.outstanding ∧
      min ((cabinet 1 .online).track.failures + 1) 15 < s.floor.unreachableThreshold) ∧
    (let s := floor.onClc fun l => { l with link := .own, stretchWait := true, stuckTimer := true }
     s.Quiet ∧ s.clc.link = .own ∧ s.clc.stretchWait = true ∧ s.clc.Empty) ∧
    floor.clc.stretchWait = false := by decide +kernel

/-- The link down, with a retry due. -/
def linkDown : State := floor.onClc fun l => { l with link := .down, retryDue := some 1000, retries := 4 }

theorem test_witness_RecoveryFreesTheLinkOrTakesItDown :
    (∀ link ∈ [LinkState.idle, .own, .alertIn],
      let s := floor.onClc fun l => { l with link := link }
      s.Quiet ∧ s.clc.Empty ∧ s.clc.inFlight = none ∧ s.clc.link = link) ∧
    (linkDown.Quiet ∧ linkDown.clc.Empty ∧ linkDown.clc.inFlight = none ∧ linkDown.clc.link = .down ∧
      linkDown.clc.retryDue = some 1000 ∧ 1000 ≤ linkDown.now) := by decide +kernel

/-- A WITHDRAW and a yielded GO_ONLINE that wait at the CLC with a poll and a FREEZE of the pass. -/
def linkWaiting : State :=
  let withdrawal := permit 7 .granted
  let return_ := { permit 8 .returning with bus := 1, cabinet := some 2, yielded := true, sent := true }
  let hand := fun (c : Nat) (command : TransferCommand) (id : Nat) (q : TransferQueue) =>
    { q with ordinary := [{ cabinet := 3, command := .withdraw, permit := some 9 }],
             inHand := some { entry := { cabinet := c, command := command, permit := some id }, used := true } }
  let request := fun (b : Bus) (command : CabinetCommand) (c : Nat) =>
    ({ requester := .transfer b, cls := .command command, cabinet := c, attempts := 0, begun := false, address := c,
       credited := true, counted := true } : LinkRequest)
  ((((listed floor).onPar fun x => { x with permits := [withdrawal, return_] }).onQueue 0 (hand 1 .withdraw 7)).onQueue 1
    (hand 2 .goOnline 8)).onClc (fun l => { l with
      link := .own, slots := #v[some (request 0 .withdraw 1), some (request 1 .goOnline 2), none, none],
      scanQueue := [scanRequest (.poll .state) 1, scanRequest (.freeze 3) 0] }) |>.onScs fun x => { x with outstanding := 3 }

/-- What the requests of that state meet as the link goes DOWN, and what becomes of them: both transfers wait again, and the poll
and the FREEZE are no longer outstanding. -/
theorem test_witness_RecoveryFreesTheLinkOrTakesItDown_waiting :
    let s := linkWaiting
    let low : LineLevels := { lckLow := true, ldaLow := false }
    s.Quiet ∧ s.clc.inFlight = none ∧ s.clc.link = .own ∧ s.clc.testSlot = none ∧
    (∀ b ∈ [(0, TransferCommand.withdraw, 7), ((1 : Bus), TransferCommand.goOnline, 8)],
      ((s.clc.slots[b.1]).map fun r => r.requester) = some (.transfer b.1) ∧
      ((s.queueOf b.1).inHand.map fun h => (h.used, h.entry.command, h.entry.permit)) = some (true, b.2.1, some b.2.2) ∧
      ((s.permit b.2.2).map fun p => (p.id, p.bus)) = some (b.2.2, b.1) ∧
      ∀ e ∈ (s.queueOf b.1).waiting, e.cabinet = 3) ∧
    s.clc.slots[(2 : Bus)] = none ∧ s.clc.slots[(3 : Bus)] = none ∧ (s.permit 7).map (fun p => p.state) = some .granted ∧
    s.clc.scanQueue.length < s.scs.outstanding ∧ s.clc.scanQueue.length ≤ 130 ∧ 0 + 2 < s.floor.unreachableThreshold ∧
    (match exec (.stuckLineTimerExpiry low low) s with
      | .next t => ((t.queueOf 0).ordinary.length, (t.queueOf 1).priority.length, t.scs.outstanding)
      | _ => (0, 0, 0)) = (2, 1, 1) := by decide +kernel

/-- A TEST_BEGIN that waits as the link goes DOWN. -/
theorem test_witness_RecoveryFreesTheLinkOrTakesItDown_test :
    let s := beginning
    s.Quiet ∧ s.clc.inFlight = none ∧ s.clc.link = .own ∧ s.clc.slots = Vector.replicate 4 none ∧ s.clc.scanQueue = [] ∧
    s.clc.testSlot = some beginRequest ∧ beginRequest.credited = true ∧ s.cabinet 1 = some (cabinet 1 .online) ∧
    min ((cabinet 1 .online).track.failures + 2) 15 < s.floor.unreachableThreshold ∧ s.test.phase = .begin ∧
    s.test.inHand = some .testBegin ∧ s.test.beginHanded = false ∧ s.test.subject = some testUnit ∧ s.string 1 1 = some unit ∧
    s.par.permits = [testPermit] ∧ s.test.permit = some testPermit.id ∧ testPermit.holder = 0 ∧ s.test.holder = 0 ∧
    s.NormalBuses ∧ (s.queueOf 0).waiting = [] ∧ (s.queueOf 0).inHand = none := by decide +kernel

/-! ### Witnesses: timers, the clock, the image store -/

theorem test_witness_ScanTimersStartPasses :
    (let s := busyLink.onScs fun x => { x with scanner := .delayed, delayDue := some 1000 }
     s.Quiet ∧ s.clc.link = .own ∧ 1000 ≤ s.now ∧ s.scs.scanner = .delayed ∧ s.scs.delayDue = some 1000) ∧
    (∀ n ∈ [0, 1], ∀ seen ∈ [false, true],
      let s := busyLink.onScs fun x =>
        { x with scanner := .running, nextTick := some 1000, outstanding := n, overrunSeen := seen }
      s.Quiet ∧ s.clc.link = .own ∧ s.scs.scanner = .running ∧ s.scs.nextTick = some 1000 ∧ s.scs.outstanding = n ∧
      s.scs.overrunSeen = seen) := by decide +kernel

/-- Cabinet 1 on its way out, its overlay's deadline come. -/
def leaving : Cabinet :=
  { cabinet 1 .online with track := { track .online with overlay := some .withdrawing, overlayDeadline := some 1000 } }

theorem test_witness_OverlayDeadlineEndsTheOverlay :
    ∀ state ∈ [PermitState.granted, .returning],
      let p := permit 7 state
      let s := permitted (seen (floor.setCabinet 1 (some leaving))) p
      s.Quiet ∧ s.cabinet 1 = some leaving ∧ leaving.track.overlay = some .withdrawing ∧
      leaving.track.overlayDeadline = some 1000 ∧ 1000 ≤ s.now ∧ leaving.track.unreachable = false ∧
      leaving.track.lastWord = some (word .online) ∧ (word .online).mode = .online ∧ s.test.subject = none ∧
      (s.seqOf leaving.defn.bus).state = .normal ∧ s.par.permits.filter (fun q => q.bus == leaving.defn.bus) = [p] ∧
      (∀ q ∈ s.par.permits, q.cabinet = some 1 ∨ q.id = p.id → q = p) ∧ p.kind = .withdraw ∧ p.cabinet = some 1 ∧
      p.holder = 0 := by decide +kernel

/-- An alert on the line from cabinet 1. -/
def alertFrom (k : Cabinet) : State := seen (alerted.setCabinet 1 (some k))

/-- A report of a new mode: from an unreachable cabinet, as a first report, with the check of the bypass pending, and none of these. -/
theorem test_witness_OverlayDeadlineEndsTheOverlay_report :
    (∀ f ∈ [fun (t : Track) => { t with unreachable := true, unreachableSince := some 700 },
        fun t => { t with lastWord := none, firstReportPending := true }, fun t => { t with bypassCheckPending := true },
        fun t => t],
      let k := { cabinet 1 .online with track := f (track .online) }
      let s := alertFrom k
      s.Quiet ∧ s.clc.link = .alertIn ∧ s.clc.Empty ∧
      s.definedCabinets.filter (fun p => p.2.defn.address == (1#8).toNat) = [(1, k)] ∧ s.test.subject = none ∧
      k.track.overlay = none ∧ s.NoTransfers ∧ k.track.state ≠ .standby ∧ k.track.state ≠ .onBattery) ∧
    StateWord.ofByte 0x23#8 = some { word .standby with bypassClosed := true } := by decide +kernel

/-- Overlays with the permit of the withdrawal. -/
theorem test_witness_OverlayDeadlineEndsTheOverlay_overlay :
    ∀ o ∈ [Overlay.withdrawing, .returning], ∀ state ∈ [PermitState.granted, .returning],
      let k := { leaving with track := { leaving.track with overlay := some o } }
      let p := permit 7 state
      let s := permitted (alertFrom k) p
      s.Quiet ∧ s.clc.link = .alertIn ∧ s.clc.Empty ∧
      s.definedCabinets.filter (fun p => p.2.defn.address == (1#8).toNat) = [(1, k)] ∧ s.test.subject = none ∧
      k.track.overlay = some o ∧ k.track.unreachable = false ∧ k.track.lastWord = some (word .online) ∧
      k.track.firstReportPending = false ∧ k.track.bypassCheckPending = false ∧ (s.seqOf 0).state = .normal ∧
      s.par.permits.filter (fun q => q.bus == 0) = [p] ∧ (∀ q ∈ s.par.permits, q.cabinet = some 1 ∨ q.id = p.id → q = p) ∧
      p.kind = .withdraw ∧ p.cabinet = some 1 ∧ p.holder = 0 ∧ p.policy ≠ some .yield := by decide +kernel

/-- A string that begins to discharge, and one whose discharge ends. -/
theorem test_witness_OverlayDeadlineEndsTheOverlay_discharge :
    (∀ x ∈ [(Mode.online, StringState.float), (.onBattery, .discharging)],
      let u := testedUnit x.2 2
      let k := (cabinet 1 x.1).setSlot 1 (some u)
      let s := alertFrom k
      s.Quiet ∧ s.clc.link = .alertIn ∧ s.clc.Empty ∧
      s.definedCabinets.filter (fun p => p.2.defn.address == (1#8).toNat) = [(1, k)] ∧ s.test.subject = none ∧
      k.slot 1 = some u ∧ k.track.overlay = none ∧ s.NoTransfers ∧ k.track.unreachable = false ∧
      k.track.firstReportPending = false ∧ k.track.bypassCheckPending = false ∧ k.track.state = x.1.tracked ∧
      u.age.state = x.2) ∧
    StateWord.ofByte 1#8 = some (word .onBattery) ∧ StateWord.ofByte 0#8 = some (word .online) := by decide +kernel

/-- The floor on day 10, with a last processed day. -/
def onDay (last : Nat) : State := (clocked 864000).onClock fun k => { k with lastDay := last }

theorem test_witness_DayCheckComparesTheDay :
    (floor.Quiet ∧ floor.clock.valid = false) ∧
    (∀ last ∈ [0, 9, 10, 11],
      (onDay last).Quiet ∧ (onDay last).clock.valid = true ∧ (onDay last).clock.lastDay = last ∧ (onDay last).NoTransfers ∧
      ((onDay last).clock.uptime + (onDay last).clock.offset) % 2 ^ 32 / 86400 = 10 ∧
      (onDay last).clock.backwardMark = false) ∧
    ((onDay 11).onClock fun k => { k with backwardMark := true }).clock.backwardMark = true := by decide +kernel

/-- The string in recharge since 900 s, its hold limit come. -/
def rechargingUnit : StringUnit :=
  { unit with age := { unit.age with state := .recharging, rechargeStart := some 900, rechargeExpiry := some 1000 } }

/-- The floor with that string. -/
def recharging : State := floor.setCabinet 1 (some ((cabinet 1 .online).setSlot 1 (some rechargingUnit)))

theorem test_witness_RechargeHoldReturnsToFloat :
    let k := (cabinet 1 .online).setSlot 1 (some rechargingUnit)
    recharging.Quiet ∧ recharging.NoTransfers ∧ recharging.cabinet 1 = some k ∧ k.slot 1 = some rechargingUnit ∧
    rechargingUnit.age.state = .recharging ∧ rechargingUnit.age.rechargeExpiry = some 1000 ∧ 1000 ≤ recharging.now ∧
    rechargingUnit.age.rechargeStart = some 900 ∧ recharging.notices.queue.length ≤ 30 := by decide +kernel

/-- A test that waits on one of its timers, the link busy. -/
def waitingTest (timer : TestTimer) (phase : TestPhase) : State :=
  (busyLink.onTest fun t =>
    { t with phase := phase, permit := some 7, subject := some testUnit, steps := 3, timer := timer, timerDue := 1000 })

theorem test_witness_TestWaitsHandTheNextRequest :
    ∀ timer ∈ [TestTimer.settle, .step, .reread],
      let s := waitingTest timer .search
      s.Quiet ∧ s.clc.link = .own ∧ s.test.subject = some testUnit ∧ s.cabinet 1 = some (cabinet 1 .online) ∧
      s.test.timerDue ≤ s.now ∧ s.test.phase.running = true ∧ s.test.timer = timer := by decide +kernel

theorem test_witness_WaitDeadlineExpiresThePermit :
    let p := { permit 7 .waiting with deadline := some 1000 }
    let s := permitted floor p
    s.Quiet ∧ s.permit 7 = some p ∧ p.state = .waiting ∧ p.deadline = some 1000 ∧ 1000 ≤ s.now ∧ p.holder = 0 ∧
    s.par.permits = [p] ∧ (s.seqOf 0).state = .normal ∧ (s.queueOf 0).waiting = [] ∧ (s.queueOf 0).inHand = none := by
  decide +kernel

/-- A bus whose spacing has ended, with entries waiting in a lane. -/
def spaced (entries : List TransferEntry) (first : Bool) : State :=
  busyLink.onQueue 0 fun _ =>
    { priority := if first then entries else [], ordinary := if first then [] else entries, inHand := none,
      spacingDue := some 1000 }

theorem test_witness_SpacingEndsAndTheNextIsSent :
    let e : TransferEntry := { cabinet := 1, command := .goOnline, permit := none }
    (let s := spaced [] false
     s.Quiet ∧ s.clc.link = .own ∧ (s.queueOf 0).spacingDue = some 1000 ∧ 1000 ≤ s.now ∧ (s.queueOf 0).inHand = none ∧
      (s.queueOf 0).waiting = []) ∧
    (∀ first ∈ [false, true], ∀ x ∈ [e, { e with command := .cancel }, { e with command := .prepare },
        { e with command := .close }, { e with command := .openBypass }, { e with command := .withdraw, permit := some 7 }],
      (spaced [x, e] first).Quiet ∧ ((spaced [x, e] first).queueOf 0).waiting = [x, e] ∧
      (x.command = .withdraw → x.permit ≠ none)) := by decide +kernel

/-- Table 8-11 and R138: a command in hand whose permit has ended is not shown as a later permit's with that id. -/
theorem test_command_of_ended_permit :
    let s := fun (used : Bool) => (permitted floor (permit 7 .waiting)).onQueue 0 fun q =>
      { q with inHand := some { entry := { cabinet := 1, command := .goOnline, permit := some 7 }, used := used } }
    (s true).commandFor (permit 7 .waiting) = true ∧ (s false).commandFor (permit 7 .waiting) = false := by decide +kernel

/-- A bypass permit of bus A. -/
def bypassPermit : Permit := { permit 7 .granted with kind := .busBypass, cabinet := none }

/-- A bypass of bus A in a state, with cabinets 1, its master, and 2 in given words, a prepared set and timers. -/
def transferring (p : Permit) (one two : StateWord) (f : Sequencer → Sequencer) : State :=
  let k := fun (c : Nat) (w : StateWord) => { cabinet c .online with track := { track .online with lastWord := some w } }
  ((((permitted (seen floor) p).setCabinet 1 (some
      { k 1 one with defn := { (k 1 one).defn with master := true } })).setCabinet 2 (some (k 2 two))).onSeq 0 f).onQueue 0 fun q =>
    { q with spacingDue := some 1003 }

/-- What every clause on the sequencer asks. -/
def sequenced (p : Permit) (s : State) : Bool :=
  decide (s.Quiet ∧ s.bus 0 = some busSeen ∧ s.par.permits.filter (fun q => q.bus == 0) = [p] ∧
  (∀ q ∈ s.par.permits, q.id = p.id → q = p) ∧ p.kind = .busBypass ∧ p.cabinet = none ∧ p.holder = 0 ∧
  (s.queueOf 0).priority = [] ∧ ((s.seqOf 0).prepared.map fun x => x.cabinet).Nodup ∧ s.masterOf 0 = some 1)

/-- The word of a cabinet on line. -/
def onlineWord (sync bypass : Bool) : StateWord := { word .online with syncOk := sync, bypassClosed := bypass }

/-- A prepared set, every PREPARE accepted, or the one of cabinet 2 still in hand. -/
def preparedSet (all : Bool) : List Prepared :=
  [{ cabinet := 1, handed := true, accepted := true }, { cabinet := 2, handed := true, accepted := all }]

theorem test_witness_BypassTimersFailTheTransfer :
    let p := bypassPermit
    let off := onlineWord false false
    (let s := transferring p off off fun q => { q with state := .preparing, prepared := preparedSet true, syncDue := some 1000 }
     sequenced p s ∧ p.state = .granted ∧ (s.queueOf 0).ordinary = [] ∧ (s.queueOf 0).inHand = none ∧
      (s.queueOf 0).spacingDue = some 1003 ∧ 1000 ≤ s.now ∧ (s.seqOf 0).state = .preparing ∧
      (s.seqOf 0).syncDue = some 1000 ∧ (s.seqOf 0).closeHanded = false) ∧
    (let s := transferring p off off fun q =>
       { q with state := .closing, prepared := preparedSet true, transferDue := some 1000, closeHanded := true }
     sequenced p s ∧ (s.queueOf 0).ordinary = [] ∧ (s.queueOf 0).inHand = none ∧ 1000 ≤ s.now ∧ (s.seqOf 0).state = .closing ∧
      (s.seqOf 0).transferDue = some 1000 ∧ (s.seqOf 0).closeHanded = true) := by
  decide +kernel

/-- A command of the sequencer on the line. -/
def bypassCommanded (c : Nat) (command : CabinetCommand) (entry : TransferCommand) (s : State) : State :=
  (s.onClc fun l =>
    { l with link := .own, inFlight := some (inFlight { transferRequest command 1 with cabinet := c }) }).onQueue 0 fun q =>
    { q with inHand := some { entry := { cabinet := c, command := entry, permit := none }, used := true } }

/-- What a cabinet's answer to the sequencer asks of the state and the cabinet. -/
def answering (c : Nat) (v : StateWord) (s : State) : Bool :=
  decide (s.clc.Empty ∧ (s.cabinet c).map (fun k => (k.defn.bus, k.track)) =
    some (0, { track .online with lastWord := some v }) ∧ s.test.subject = none)

/-- PREPARE of cabinet 2: not the last, the last without and with SYNC_OK of the whole set, on the way out and back. -/
theorem test_witness_BypassTimersFailTheTransfer_prepare :
    ∀ x ∈ [(PermitState.granted, SeqState.preparing), (.returning, .rePreparing)],
      let p := { bypassPermit with state := x.1 }
      let at_ := fun (one : StateWord) (set : List Prepared) => bypassCommanded 2 .bypassPrepare .prepare
        (transferring p one (onlineWord false false) fun q => { q with state := x.2, prepared := set })
      let accepted := fun (s : State) => (s.seqOf 0).prepared.map fun x => if x.cabinet = 2 then { x with accepted := true } else x
      (∀ set ∈ [preparedSet false, { cabinet := 3, handed := false, accepted := false } :: preparedSet false],
        ∀ one ∈ [onlineWord false false, onlineWord true false],
        let s := at_ one set
        sequenced p s ∧ answering 2 (onlineWord false false) s ∧ (∃ x ∈ (s.seqOf 0).prepared, x.cabinet = 2 ∧ x.accepted = false) ∧
        (s.seqOf 0).state = x.2 ∧ (s.seqOf 0).closeHanded = false ∧ (s.queueOf 0).ordinary = []) ∧
      (¬∀ x ∈ accepted (at_ (onlineWord true false) ({ cabinet := 3, handed := false, accepted := false } :: preparedSet false)),
        x.accepted = true) ∧
      (∀ x ∈ accepted (at_ (onlineWord true false) (preparedSet false)), x.accepted = true) ∧
      StateWord.ofByte 8#8 = some (onlineWord true false) := by
  decide +kernel

/-- CLOSE and OPEN of the master, with the word that ends the transfer and without. -/
theorem test_witness_BypassTimersFailTheTransfer_move :
    (let v := onlineWord true false
     let p := bypassPermit
     let s := bypassCommanded 1 .bypassClose .close (transferring p v v fun q =>
       { q with state := .closing, prepared := preparedSet true, closeHanded := true })
     sequenced p s ∧ answering 1 v s ∧ (s.seqOf 0).transferDue = none ∧ (s.queueOf 0).ordinary = [] ∧
      (s.seqOf 0).state = .closing ∧ p.returnOrdered = false ∧ p.state = .granted ∧ (s.seqOf 0).syncDue = none) ∧
    (let v := onlineWord true true
     let p := { bypassPermit with state := .returning }
     let s := bypassCommanded 1 .bypassOpen .openBypass (transferring p v (onlineWord true false) fun q =>
       { q with state := .opening, prepared := preparedSet true, returnSince := some 850 })
     sequenced p s ∧ answering 1 v s ∧ (s.seqOf 0).transferDue = none ∧ (s.queueOf 0).ordinary = [] ∧
      (s.seqOf 0).state = .opening ∧ p.state = .returning ∧ (s.seqOf 0).syncDue = none ∧ (s.seqOf 0).closeHanded = false) ∧
    StateWord.ofByte 40#8 = some (onlineWord true true) ∧ StateWord.ofByte 8#8 = some (onlineWord true false) := by
  decide +kernel

/-- A report of SYNC_OK by cabinet 2, and of BYPASS_CLOSED by the master. -/
theorem test_witness_BypassTimersFailTheTransfer_report :
    let p := bypassPermit
    let alert := fun (s : State) => s.onClc fun l => { l with link := .alertIn }
    let at_ := fun (c : Nat) (s : State) => s.definedCabinets.filter (fun x => x.2.defn.address == c)
    (let s := alert (transferring p (onlineWord true false) (onlineWord false false) fun q =>
       { q with state := .preparing, prepared := preparedSet true, syncDue := some 1020 })
     sequenced p s ∧ answering 2 (onlineWord false false) s ∧ s.clc.link = .alertIn ∧
      (at_ 2 s).map (fun x => x.1) = [2] ∧ p.state = .granted ∧ (s.queueOf 0).ordinary = [] ∧
      (s.queueOf 0).spacingDue = some 1003 ∧ (s.seqOf 0).state = .preparing ∧
      ∀ x ∈ (s.seqOf 0).prepared, x.accepted = true) ∧
    (let s := alert (transferring p (onlineWord true false) (onlineWord false false) fun q =>
       { q with state := .closing, prepared := preparedSet true, transferDue := some 1020, closeHanded := true })
     sequenced p s ∧ answering 1 (onlineWord true false) s ∧ s.clc.link = .alertIn ∧ (at_ 1 s).map (fun x => x.1) = [1] ∧
      (s.queueOf 0).ordinary = [] ∧ (s.seqOf 0).state = .closing ∧ (s.seqOf 0).transferDue = some 1020 ∧
      (s.seqOf 0).syncDue = none ∧ p.returnOrdered = false) := by
  decide +kernel

/-- A booked visit, not yet waiting for locks. -/
def booked (level : Level) : Visit := { visit 5 level .booked with activation := none, deadline := none, nextReminder := none }

/-- A closing visit that waits for a permit to come home. -/
def closing : Visit := { visit 5 .operate .closing with closeDeadline := some 1000, closeSet := [7], nextReminder := none }

theorem test_witness_VisitTimesComeDue :
    (let s := (clocked 5000).onVct fun x => { x with slots := x.slots.set 0 (some (booked .observe)) }
     s.Quiet ∧ s.vct.slots[(0 : Fin 8)] = some (booked .observe) ∧ s.visits = [booked .observe] ∧
      s.clock.valid = true ∧ (booked .observe).bookedStart ≤ s.clock.floorTime) ∧
    (let s := visited (clocked 5000) (booked .operate)
     s.Quiet ∧ s.vct.slots[(0 : Fin 8)] = some (booked .operate) ∧ s.visits = [booked .operate] ∧
      ∃ c ∈ (booked .operate).scope, s.lockOf c ≠ none) ∧
    (∀ state ∈ [VisitState.active, .overdue],
      let v := visit 5 .operate state
      let s := visited floor v
      s.Quiet ∧ s.vct.slots[(0 : Fin 8)] = some v ∧ s.visits = [v] ∧ v.deadline = some 950 ∧ v.nextReminder = some 960 ∧
      960 ≤ s.now) ∧
    (let p := { permit 7 .granted with holder := 5 }
     let s := permitted (visited floor closing) p
     s.Quiet ∧ s.vct.slots[(0 : Fin 8)] = some closing ∧ s.visits = [closing] ∧ closing.closeDeadline = some 1000 ∧
      1000 ≤ s.now ∧ closing.closeSet = [p.id] ∧ s.permit p.id = some p ∧ closing.replaced = [] ∧
      [].Perm (s.visits.filter fun w => w.state = .booked ∧ w.waitingLock = true) ∧ closing.actions ≤ 65535 ∧
      closing.report.ended ≤ 255 ∧
      closing.report.rehomed ≤ 254) := by decide +kernel

/-- A start that arrives for a visit of cabinets 1 and 24, both unlocked: it is ACTIVE with its locks. -/
theorem test_witness_VisitTimesComeDue_free :
    let v := { booked .operate with scope := [1, 24] }
    let s := (clocked 5000).onVct fun x => { x with slots := x.slots.set 3 (some v), locks := x.locks.set 7 (some 9) }
    s.Quiet ∧ s.vct.slots[(3 : Fin 8)] = some v ∧ s.visits = [v] ∧ v.state = .booked ∧ v.waitingLock = false ∧
    s.clock.valid = true ∧ v.bookedStart ≤ s.clock.floorTime ∧ v.level ≠ .observe ∧ (∀ c ∈ v.scope, s.lockOf c = none) ∧
    (match exec (.visitStartArrival 5) s with
      | .next t => ([1, 8, 24].map t.lockOf, t.visits.map fun w => w.state == .active)
      | _ => ([], [])) = ([some 5, some 9, some 5], [true]) := by decide +kernel

/-- A close that releases the lock of cabinet 1, for which two visits wait: the first booked is taken. -/
theorem test_witness_VisitTimesComeDue_waiting :
    let w := fun (id sequence : Nat) => { booked .operate with id := id, sequence := sequence, waitingLock := true }
    let s := (permitted (visited floor closing) { permit 7 .granted with holder := 5 }).onVct fun x =>
      { x with slots := (x.slots.set 2 (some (w 6 4))).set 3 (some (w 8 2)) }
    s.Quiet ∧ s.vct.slots[(0 : Fin 8)] = some closing ∧ s.visits = [closing, w 6 4, w 8 2] ∧
    closing.closeDeadline = some 1000 ∧ 1000 ≤ s.now ∧ closing.closeSet = [7] ∧ (s.permit 7).isSome ∧
    s.vct.locks[(0 : Fin 24)] = some closing.id ∧
    [w 8 2, w 6 4].Perm (s.visits.filter fun w => w.state = .booked ∧ w.waitingLock = true) ∧
    [w 8 2, w 6 4].Pairwise (fun v w => v.sequence < w.sequence) ∧
    (match exec (.closeDeadlineExpiry 5) s with
      | .next t => t.visits.map fun w => (w.id, w.state == .active, w.waitingLock)
      | _ => []) = [(5, false, false), (6, false, true), (8, true, false)] := by decide +kernel

theorem test_witness_ImageWriteEnds :
    (floor.Quiet ∧ floor.ims.configSave = .idle ∧ floor.ims.ageingSave = .idle) ∧
    (∀ again ∈ [false, true],
      (saving again).Quiet ∧ (saving again).NoTransfers ∧ (saving again).ims.configSave = .saving image again ∧
      (saving again).ims.ageingSave = .saving { header := image.header, body := floor.ageingBody } again) := by
  decide +kernel

/-! ### Witnesses: figures -/

theorem test_witness_RoundEndStoresTheReadings :
    let a := ActiveEntry.new (entry .outputPower)
    let sampled := { a with samples := [3, -4].foldl Samples.add .initial }
    (a.entry.due 5 = true ∧ sampled.samples = [(3 : Int), -4].foldl Samples.add .initial ∧ 1 ≤ sampled.samples.count) ∧
    (a.samples.count = 0 ∧ a.reading.quality = .none ∧ 5 % (a.entry.skip + 1) = 0) ∧
    ({ a.reading with quality := .fresh }).quality ≠ .none ∧ 5 % ({ a.entry with skip := 1 }.skip + 1) ≠ 0 := by
  decide +kernel

/-- The last poll of a round of three passes. -/
theorem test_witness_RoundEndStoresTheReadings_step :
    let r := scanRequest (.poll (.stringVoltage 1)) 1
    let s := (onLine r 1).onScs fun x => { x with timing := { period := 10, average := 3 }, passCount := 2 }
    s.Quiet ∧ s.clc.Empty ∧ s.clc.link = .own ∧ s.clc.inFlight = some (inFlight r) ∧ r.requester = .scan ∧
    r.cls = .poll (.stringVoltage 1) ∧ r.counted = true ∧ r.credited = true ∧ s.cabinet 1 = some (cabinet 1 .online) ∧
    s.NoTransfers ∧ min ((cabinet 1 .online).track.failures + 1) 15 < s.floor.unreachableThreshold ∧ s.scs.outstanding = 1 ∧
    s.scs.timing.average ≤ s.scs.passCount + 1 := by decide +kernel

theorem test_witness_WhatIfFigures :
    (1, cabinet 1 .online) ∈ floor.onlineSet 0 ∧ (∀ p ∈ floor.onlineSet 0, p.1 ≠ 2) ∧
    (cabinet 1 .online).slot 1 = some unit := by decide +kernel

theorem test_witness_StrictFiguresOfABus :
    0 < (floor.strict 0 .defaults).capacity ∧ (floor.strict 0 .defaults).load = 0 ∧
    (1, cabinet 1 .online) ∈ floor.onlineSet 0 ∧ (permitted floor (permit 7 .granted)).onlineSet 0 = [] ∧
    (1, cabinet 1 .online) ∈ (permitted floor (permit 7 .waiting)).onlineSet 0 ∧
    (let f := ((listed floor).onScs fun x => { x with active := x.active.map fun e =>
        { e with entry := { e.entry with point := .outputPower }, reading := { e.reading with quality := .fresh, value := 50 } } }).strict
        0 .defaults
     0 < f.load ∧ (f.required : Int) ≤ f.capacity) := by decide +kernel

theorem test_witness_AgeingFiguresFollowTheRecord :
    25 ≤ 25 ∧ (unit.age.counterBase = none ∧ unit.age.history = [] ∧ unit.age.gapPending = false) ∧
    (let a := { unit.age with counterBase := some (7#32).toNat, gapPending := true, state := .recharging,
                              history := [] ++ [DischargeRec.new .test floor.clock] }
     a.counterBase = some (7#32).toNat ∧ a.gapPending = true ∧ a.state = .recharging ∧
      a.history = [] ++ [DischargeRec.new .test floor.clock] ∧ -(unit.defn.floatThreshold : Int) ≤ -10) ∧
    (7#32 - 7#32 : BitVec 32).toNat ≤ 2 ^ 31 ∧ 2 ^ 31 < (6#32 - 7#32 : BitVec 32).toNat := by decide +kernel

/-! ### WellFormed refuses what no sender can send -/

theorem test_wellFormed_kind : (Instr.unknownKindRequest 0x44#8 1#8 []).wellFormed = false ∧
    (Instr.unknownKindRequest 0x45#8 1#8 []).wellFormed = true := by decide +kernel

theorem test_wellFormed_body : (Instr.ident 1#8 (List.replicate 121 0#8)).wellFormed = false ∧
    (Instr.seedAgeing 1#8 (List.replicate 121 0#8)).wellFormed = false ∧
    (Instr.declareReplaced 1#8 (List.replicate 121 0#8)).wellFormed = false ∧
    (Instr.declareReplaced 1#8 (List.replicate 120 0#8)).wellFormed = true ∧
    (Instr.unknownKindRequest 0x7F#8 1#8 (List.replicate 121 0#8)).wellFormed = false := by decide +kernel

theorem test_wellFormed_rest : (Instr.undefineBus 1#8 0#8 (List.replicate 119 0#8)).wellFormed = false ∧
    (Instr.scanEditInsert 1#8 (List.replicate 120 0#8)).wellFormed = false ∧
    (Instr.scanEditInsert 1#8 (List.replicate 119 0#8)).wellFormed = true := by decide +kernel

theorem test_wellFormed_cabinet : (Instr.overlayDeadlineExpiry 0).wellFormed = false ∧
    (Instr.overlayDeadlineExpiry 25).wellFormed = false ∧ (Instr.overlayDeadlineExpiry 24).wellFormed = true := by decide +kernel

theorem test_wellFormed_slot : (Instr.rechargeHoldExpiry 1 5).wellFormed = false ∧
    (Instr.rechargeHoldExpiry 25 1).wellFormed = false ∧ (Instr.rechargeHoldExpiry 1 4).wellFormed = true := by decide +kernel

theorem test_wellFormed_id : (Instr.waitDeadlineExpiry 0).wellFormed = false ∧
    (Instr.visitStartArrival 256).wellFormed = false ∧ (Instr.closeDeadlineExpiry 255).wellFormed = true := by decide +kernel

/-- A stuck-line timer expires only while a line reads low. -/
theorem test_wellFormed_lines :
    (Instr.stuckLineTimerExpiry { lckLow := false, ldaLow := false } { lckLow := false, ldaLow := false }).wellFormed = false ∧
    (Instr.stuckLineTimerExpiry { lckLow := false, ldaLow := true } { lckLow := false, ldaLow := false }).wellFormed = true := by
  decide +kernel

/-! ### Figures the spec works out -/

/-- Section 2.2: the FREEZE of pass 5 is 0x20, 0x05, check 0xB5. -/
theorem test_freeze_octets : (scanRequest (.freeze 5) 0).requestOctets = [0x20#8, 0x05#8, 0xB5#8] := by decide +kernel

/-- R168: the nine octets 0x31 to 0x39 give 0x29B1. -/
theorem test_crc16 : crc16 [0x31#8, 0x32#8, 0x33#8, 0x34#8, 0x35#8, 0x36#8, 0x37#8, 0x38#8, 0x39#8] = 0x29B1#16 := by
  decide +kernel

/-- R168: a STATUS request with tag 0x2C, and the beginning of its reply. -/
theorem test_status_frames :
    (frameOctets (({ kind := kindCode .status, tag := 0x2C#8, body := [] } : Frame))).take 4 = [0xB7#8, 0x00#8, 0x02#8, 0x2C#8] ∧
    (match exec (.status 0x2C#8 []) State.reset with
      | .next t => (t.host.reply.getD []).take 4
      | _ => []) = [0xB7#8, 0x54#8, 0x82#8, 0x2C#8] := by decide +kernel

/-- R189: a power-on of a part whose store is blank leaves the state after reset. -/
theorem test_powerOn_blank :
    gives (exec (.powerOn { baud := 0#2, lines := { lckLow := false, ldaLow := false } }) State.reset) State.reset = true := by
  decide +kernel

/-- R73: 33.4 °C, 47.0 °C and the greatest factor. -/
theorem test_temperatureFactor :
    temperatureFactor (degreesOf 334) = 446 ∧ temperatureFactor (degreesOf 470) = 1176 ∧
    temperatureFactor (degreesOf 32767) = 5792 ∧ temperatureFactor (degreesOf (-40)) = 256 := by decide +kernel

/-- R76: a counter that wraps, and one that restarted. -/
theorem test_roundCharge :
    roundCharge (some 4294900000) 32704 = 100000 ∧ roundCharge (some 73210000) 1000 = 0 := by decide +kernel

/-- R65: means of 1,187.33 and −3.5. -/
theorem test_means :
    ([1187, 1187, 1188].foldl Samples.add .initial).combine .mean = 1187 ∧
    ([-3, -4].foldl Samples.add .initial).combine .mean = -3 := by decide +kernel

/-- Section 6.6: the three steps of the worked test and their mean. -/
theorem test_impedances :
    [stepImpedance 131600 500 5600, stepImpedance 132000 500 5620, stepImpedance 131200 500 5580] = [11750, 11744, 11756] ∧
    combineSteps .mean [11750, 11744, 11756] = 11750 := by decide +kernel

/-- Table 5-8. -/
def workedRec : StringRec :=
  { stringRec with capacity := 200, energy := 48000, designLife := 3650, cycles := 400, floatThreshold := 50,
                   serviceLead := 180, alarmLevel := 40 }

/-- The record of section 5.12.1 at uptime 40,000. -/
def workedAge : AgeRec :=
  { unit.age with calendarWear := 19999197200, cycleCharge := 1440000, counterBase := some 73120000, lastAccrual := 40000,
                  lastTemperature := some 30, baseline := 20000, lastImpedance := 23500, baselinePending := false }

/-- The clock at an uptime. -/
def clockAt (now : Nat) : Clock := { uptime := now, offset := 0, valid := false, lastDay := 0, backwardMark := false }

/-- The record of section 5.12.1 after the round end at 41,800. -/
def workedAfter : AgeRec :=
  let a := (roundWork 40600 (some 334) (some 73120000) (some 54200) (some 0) workedRec workedAge).age
  let a := (stringEvent (clockAt 40620) .dischargeStart workedRec a).age
  let a := (roundWork 41200 (some 334) (some 73192500) (some 50100) (some 1250) workedRec a).age
  let a := (stringEvent (clockAt 41340) .dischargeEnd workedRec a).age
  (roundWork 41800 (some 334) (some 73210000) (some 53900) (some (-420)) workedRec a).age

/-- Table 5-9 at 41,800. -/
theorem test_outage_record :
    workedAfter.calendarWear = 20000000000 ∧ workedAfter.cycleCharge = 1530000 ∧ workedAfter.state = .recharging ∧
    (workedAfter.history.map fun r => (r.kind, r.charge, r.minVoltage, r.duration, r.live)) =
      [(.outage, 90000, some 50100, 720, false)] := by decide +kernel

/-- Section 5.12.2. -/
theorem test_outage_health :
    workedAfter.cycleWear = 428889600 ∧ workedAfter.totalWear = 20428889600 ∧ workedAfter.wearHealth = 75 ∧
    workedAfter.impHealth = 65 ∧ workedAfter.health = 65 ∧ workedAfter.energy = 15600 := by decide +kernel

/-- Table 5-9 at 42,400, and section 5.12.2: FLOAT again, E 31,200. -/
theorem test_outage_end :
    let a := (roundWork 42400 (some 334) (some 73210000) none (some (-40)) workedRec workedAfter).age
    a.calendarWear = 20000267600 ∧ a.state = .float ∧ a.rechargeStart = none ∧ a.energy = 31200 := by decide +kernel

/-- Section 5.12.3. -/
theorem test_projection :
    remainingDaysOf workedRec 20428889600 (List.replicate 8 31276800) = 1928 ∧
    remainingDaysOf workedRec 20428889600 (List.replicate 8 101606400) = 593 := by decide +kernel

/-- A cabinet of Table 7-5. -/
def marginCabinet (c rating : Nat) : Cabinet :=
  let u : StringUnit := { unit with age := { unit.age with energy := 31200 } }
  { cabinet c .online with
    defn := { (cabinet c .online).defn with rating := rating, stringCount := 4 },
    strings := Vector.replicate 4 (some u) }

/-- The reading of a cabinet of Table 7-5. -/
def marginEntry (c reading : Nat) : ActiveEntry :=
  { ActiveEntry.new { cabinet := c, point := .outputPower, skip := 0, combine := .mean } with
    reading := { Reading.initial with value := reading, quality := .fresh } }

/-- Bus A of section 7.7. -/
def marginBus : State :=
  ([(1, 500), (2, 500), (3, 500), (4, 300), (5, 300)].foldl (fun s p => s.setCabinet p.1 (some (marginCabinet p.1 p.2)))
    floor).onScs fun x => { x with active := [marginEntry 1 2881, marginEntry 2 2881, marginEntry 3 2881,
      marginEntry 4 1729, marginEntry 5 1728] }

/-- Section 7.7.1: the strict figures. -/
theorem test_strict_figures :
    let f := marginBus.strict 0 .defaults
    (f.load, f.required, f.capacity, f.spare, f.margin, f.energy, f.autonomy) =
      (12100, 13310, 21000, 1, 0, 624000, 30) := by decide +kernel

/-- Section 7.7.2: the withdrawal what-if of cabinet 5. -/
theorem test_what_if :
    let g := marginBus.whatIfWithdrawn 0 .defaults 5
    (g.load, g.required, g.capacity, g.spare, g.margin, g.energy, g.autonomy) =
      (12100, 13310, 18000, 0, -1, 499200, 24) := by decide +kernel

/-- Section 7.7.3: the same what-if with h = 5. -/
theorem test_what_if_lower_headroom :
    let g := marginBus.whatIfWithdrawn 0 { BusRec.defaults with headroom := 5 } 5
    (g.required, g.spare, g.margin, g.autonomy) = (12705, 1, 0, 24) := by decide +kernel

end Sys2Proof.Tests
end

namespace Sys2Proof.Machine

/-! ### The check of lock and authority (R6, R156) -/

/-- A host-direct request is refused LOCKED where it touches a locked cabinet. -/
theorem authorise_host (s : State) (touched : List Nat) (level : Level) :
    s.authorise 0 touched level = if ∃ c ∈ touched, s.lockOf c ≠ none then some .locked else none := by
  have all : (touched.all fun c => (s.lockOf c).isNone) = true ↔ ¬ ∃ c ∈ touched, s.lockOf c ≠ none := by simp
  unfold State.authorise
  rw [if_pos rfl, if_congr all rfl rfl, ite_not]

/-- A request on a visit's behalf: its state, then its scope, then its level. -/
theorem authorise_visit {s : State} {v : Visit} (touched : List Nat) (level : Level) (hid : v.id ≠ 0)
    (hv : s.visit v.id = some v) :
    s.authorise v.id touched level =
      if v.state = .booked ∨ v.state = .closing ∨ v.state = .closed then some .state
      else if ∃ c ∈ touched, c ∉ v.scope then some .locked
      else if v.level.code < level.code then some .authority
      else none := by
  have idle : v.state ≠ .active ∧ v.state ≠ .overdue ↔ v.state = .booked ∨ v.state = .closing ∨ v.state = .closed := by
    cases v.state <;> simp
  have outside : (touched.all fun c => v.scope.contains c) = false ↔ ∃ c ∈ touched, c ∉ v.scope := by simp
  unfold State.authorise
  rw [if_neg hid, hv]
  exact (if_congr idle rfl (if_congr outside rfl rfl))

/-- Settles O13: one lemma for each of the two kinds of request. -/
theorem authorityIsChecked : Obligations.AuthorityIsChecked :=
  fun s touched level => ⟨authorise_host s touched level, fun _ hid hv => authorise_visit touched level hid hv⟩

/-- The check of authority passes for a host-direct request on cabinets that no visit locks. -/
theorem authorityCheck_host {s : State} {touched : List Nat} (level : Level) (h : ∀ c ∈ touched, s.lockOf c = none) :
    s.authorityCheck 0 touched level = (true, .ok) := by
  have free : ¬ ∃ c ∈ touched, s.lockOf c ≠ none := by simpa using h
  rw [State.authorityCheck, authorise_host, if_neg free]

/-! ### Requests by their frame -/

/-- A request row is the arrival of its frame. -/
theorem exec_of_requestFrame {c : Instr} {f : Frame} (h : requestFrame c = some f) (s : State) :
    exec c s = run (State.arriveFrame f) s := by
  cases c <;> simp only [requestFrame, ofKind, Option.some.injEq, reduceCtorEq] at h <;> subst h <;> rfl

/-- A request on a ready part that is refused: nothing changes but the reply. -/
theorem request_refused {s : State} (h : s.Ready) {k : RequestKind} {tag : Byte} {body : List Byte} {st : Status}
    (hb : body.length ≤ 120) (hk : handleKind k s body = refuse s st) :
    request k tag body s = .next (s.answered (kindCode k) tag st []) :=
  request_done h hb hk h.1.1.2

/-! ### An UNCONFIGURED part (R16) -/

/-- A request of the right length whose configuration check is the next is refused while no bus is defined. -/
theorem checked_unconfigured {s : State} (hc : s.configured = false) {sized : Bool} (hs : sized = true)
    (rest : List (Bool × Status)) (goOn : Answer) :
    checked s ((sized, .badLength) :: s.configuredCheck :: rest) goOn = refuse s .notConfigured := by
  simp [checked, firstFailing, State.configuredCheck, hs, hc]

/-- The kinds that R16 refuses while no bus is defined, each with the body lengths it takes. -/
def ConfiguredKind (k : RequestKind) (body : List Byte) : Prop :=
  (k, body.length) ∈ [(RequestKind.scanEdit, 6), (.scanTiming, 3), (.scanStart, 2), (.scanStop, 0),
    (.requestWithdraw, 5), (.requestBusBypass, 5), (.returnPermit, 2), (.cancelRequest, 2), (.startStringTest, 6),
    (.abortStringTest, 2), (.cancelVisit, 1), (.extendVisit, 3), (.closeVisit, 1), (.closeVisit, 3),
    (.declareReplaced, 3), (.declareReplaced, 13), (.commitConfig, 0)] ∨
  (k = .bookVisit ∧ 1 ≤ field body 11 1 ∧ field body 11 1 ≤ 24 ∧ body.length = 12 + field body 11 1)

/-- Such a body fits a frame. -/
theorem ConfiguredKind.length_le {k : RequestKind} {body : List Byte} (h : ConfiguredKind k body) : body.length ≤ 120 := by
  rcases h with h | ⟨-, -, h24, h⟩
  · simp only [List.mem_cons, Prod.mk.injEq, List.not_mem_nil, or_false] at h
    omega
  · omega

/-- The handling of each of these kinds judges the length, then whether the part is configured. -/
theorem handleKind_unconfigured {k : RequestKind} {body : List Byte} {s : State} (h : ConfiguredKind k body)
    (hc : s.configured = false) : handleKind k s body = refuse s .notConfigured := by
  rcases h with h | ⟨rfl, h1, h2, h3⟩
  · simp only [List.mem_cons, Prod.mk.injEq, List.not_mem_nil, or_false] at h
    rcases h with ⟨rfl, h⟩ | ⟨rfl, h⟩ | ⟨rfl, h⟩ | ⟨rfl, h⟩ | ⟨rfl, h⟩ | ⟨rfl, h⟩ | ⟨rfl, h⟩ | ⟨rfl, h⟩ | ⟨rfl, h⟩ |
      ⟨rfl, h⟩ | ⟨rfl, h⟩ | ⟨rfl, h⟩ | ⟨rfl, h⟩ | ⟨rfl, h⟩ | ⟨rfl, h⟩ | ⟨rfl, h⟩ | ⟨rfl, h⟩ <;>
    exact checked_unconfigured hc (by simp [h]) _ _
  · exact checked_unconfigured hc (by simpa [h1, h2] using ⟨by omega, h3⟩) _ _

/-- Settles O12: the row is its frame's arrival, and the handling of its kind stops at the configuration check. -/
theorem unconfiguredPartRefuses : Obligations.UnconfiguredPartRefuses := by
  intro c k tag body s hr hc hf hk
  rw [exec_of_requestFrame hf]
  exact request_refused hr (ConfiguredKind.length_le hk) (handleKind_unconfigured hk hc)

end Sys2Proof.Machine

namespace Sys2Proof.Machine

/-! ### Triggers (R120) -/

@[simp] theorem State.trigger_trigger (s : State) (b : Bus) : (s.trigger b).trigger b = s.trigger b := by
  simp [State.trigger, State.onTriggers]

theorem State.trigger_comm (s : State) (a b : Bus) : (s.trigger a).trigger b = (s.trigger b).trigger a := by
  by_cases h : a = b
  · rw [h]
  · have h : a.val ≠ b.val := fun e => h (Fin.ext e)
    simp [State.trigger, State.onTriggers, Vector.set_comm _ _ h]

/-- A trigger raised and cleared again where none stood. -/
theorem State.trigger_cleared {s : State} {b : Bus} (h : s.triggers[b] = false) :
    (s.trigger b).onTriggers (fun v => v.set b false) = s := by
  have : (s.triggers.set b true).set b false = s.triggers := by
    rw [Vector.set_set, ← h]
    exact Vector.set_getElem_self _
  simp [State.trigger, State.onTriggers, this]

theorem State.triggers_none {s : State} (h : s.triggers = Vector.replicate 4 false) (b : Bus) : s.triggers[b] = false := by
  rw [h]
  exact Vector.getElem_replicate _

theorem recompute_onTriggers (s : State) (b : Bus) (f) : (s.onTriggers f).recompute b = (s.recompute b).onTriggers f := by
  unfold State.recompute
  rw [show (s.onTriggers f).bus b = s.bus b from rfl]
  cases s.bus b with
  | none => rfl
  | some u =>
    unfold State.raiseBus
    dsimp only
    rw [show (s.onTriggers f).strict b u.defn = s.strict b u.defn from rfl,
      show (s.onTriggers f).securityOf b u.defn = s.securityOf b u.defn from rfl]
    split_ifs <;> rfl

/-- One trigger raised where it did not stand, and met. -/
theorem State.metBus_trigger {s : State} {b : Bus} (h : s.triggers[b] = false) : (s.trigger b).metBus b = s.recompute b := by
  unfold State.metBus
  dsimp only
  rw [State.trigger_cleared h]
  split
  next => rfl
  next hb => rw [State.recompute, Option.not_isSome_iff_eq_none.mp hb]

theorem State.firstTrigger_trigger {s : State} (h : s.triggers = Vector.replicate 4 false) (b : Bus) :
    (s.trigger b).firstTrigger = some b := by
  unfold State.firstTrigger State.trigger
  rw [State.onTriggers_triggers, h]
  fin_cases b <;> rfl

/-- The one trigger that stands is met: its bus is recomputed. -/
theorem State.met_trigger {s : State} (h : s.triggers = Vector.replicate 4 false) (b : Bus) :
    (s.trigger b).met = s.recompute b := by
  rw [State.met_first (State.firstTrigger_trigger h b), State.metBus_trigger (State.triggers_none h b)]
  exact State.met_none (by rw [State.recompute_triggers, h])

/-- The two triggers that stand are met in the order of their buses. -/
theorem State.met_two {s : State} (h : s.triggers = Vector.replicate 4 false) {a b : Bus} (hab : a < b) :
    ((s.trigger a).trigger b).met = (s.recompute a).recompute b := by
  have first : ((s.trigger a).trigger b).firstTrigger = some a := by
    unfold State.firstTrigger State.trigger
    rw [State.onTriggers_triggers, State.onTriggers_triggers, h]
    revert a b
    decide
  have unmet : (s.trigger b).triggers[a] = false := by
    unfold State.trigger
    rw [State.onTriggers_triggers, h]
    clear first
    revert a b
    decide
  have clear : (s.recompute a).triggers = Vector.replicate 4 false := by rw [State.recompute_triggers, h]
  calc ((s.trigger a).trigger b).met
      = (((s.trigger b).trigger a).metBus a).met := by rw [State.met_first first, State.trigger_comm]
    _ = ((s.trigger b).recompute a).met := by rw [State.metBus_trigger unmet]
    _ = ((s.recompute a).trigger b).met := by rw [State.trigger, recompute_onTriggers, ← State.trigger]
    _ = (s.recompute a).recompute b := State.met_trigger clear b

/-! ### The end of a request (R172) -/

theorem State.onAgenda_nil {s : State} (h : s.agenda = []) : (s.onAgenda fun _ => []) = s := by
  rw [State.onAgenda, ← h]

/-- The agenda of a state that had none, after the meeting of triggers is handed on. -/
theorem State.push_meet_agenda {s : State} (h : s.agenda = []) : (s.push [.meet]).agenda = [.meet] := by
  rw [State.push, State.onAgenda_agenda, h, List.nil_append]

/-- A reply is the same on both sides of what signals leave unchanged. -/
theorem outer_answered {s t : State} (h : s.outer = t.outer) (kind tag : Byte) (st : Status) (rest : List Byte) :
    (s.answered kind tag st rest).outer = (t.answered kind tag st rest).outer := by
  have e : ∀ x : State, (x.answered kind tag st rest).outer =
      { x.outer with host := { x.outer.host with reply := some (replyFrame kind tag { status := st, rest := rest }) } } :=
    fun _ => rfl
  rw [e, e, h]

/-- A request that raises the trigger of one bus, on a part without live permits and with every sequencer NORMAL. -/
theorem request_recomputes {s t : State} (h : s.Ready) {k : RequestKind} {tag : Byte} {body : List Byte} {r : Reply} {b : Bus}
    (hb : body.length ≤ 120) (hk : handleKind k s body = ((t.trigger b).push [.meet], r)) (ha : t.agenda = [])
    (hh : t.hold = 0) (ht : t.triggers = Vector.replicate 4 false) (hp : t.NoTransfers) :
    request k tag body s = .next ((t.recompute b).answered (kindCode k) tag r.status r.rest) := by
  rw [request_meets h hb hk ha hh hp, State.met_trigger ht]

/-- The one trigger raised is met, and the passes of its bus find nothing. -/
theorem settle_trigger {t : State} {b : Bus} (ha : t.agenda = []) (hh : t.hold = 0)
    (ht : t.triggers = Vector.replicate 4 false) (hp : (((t.recompute b).onHold (· + 1)).PassesRest b)) :
    ((t.trigger b).push [.meet]).settle = t.recompute b := by
  have met : ((t.trigger b).push [.meet]).metBus b = (t.recompute b).onAgenda (· ++ [.meet]) := by
    rw [State.push, metBus_onAgenda, State.metBus_trigger (State.triggers_none ht b)]
  have none : (t.recompute b).agenda = [] := by rw [State.recompute_agenda, ha]
  have handed : ((t.trigger b).push [.meet]).handed b = (t.recompute b).onHold (· + 1) := by
    rw [State.handed, met]
    exact State.onAgenda_nil (s := (t.recompute b).onHold (· + 1)) none
  rw [settle_one (s := (t.trigger b).push [.meet]) (b := b) (State.push_meet_agenda ha) hh
    (by simp [State.push, State.trigger, ht]) (handed ▸ hp), met]
  exact State.onAgenda_nil none

/-- Where every check passes the handling goes on. -/
theorem checked_pass {s : State} {checks : List (Bool × Status)} {goOn : Answer} (h : ∀ x ∈ checks, x.1 = true) :
    checked s checks goOn = goOn := by
  have none : firstFailing checks = none := by
    induction checks with
    | nil => rfl
    | cons x rest ih =>
      rw [firstFailing, if_pos (h x List.mem_cons_self)]
      exact ih fun y hy => h y (List.mem_cons_of_mem x hy)
  rw [checked, none]

/-! ### Cabinets and slots by their index -/

theorem State.cabinet_range {s : State} {c : Nat} {k : Cabinet} (h : s.cabinet c = some k) : 1 ≤ c ∧ c ≤ 24 := by
  obtain ⟨hc, hk⟩ := State.cabinet_eq_some h
  obtain ⟨hi, -⟩ := Vector.getElem?_eq_some_iff.mp hk
  omega

/-- The update that `setCabinet` is, for an index that is not 0. -/
theorem State.setCabinet_eq (s : State) {c : Nat} (hc : 1 ≤ c) (o : Option Cabinet) :
    s.setCabinet c o = s.onCabinets fun v => v.setIfInBounds (c - 1) o := if_neg (by omega)

/-- Storing a cabinet changes the cabinets alone. -/
theorem State.setCabinet_onCabinets (s : State) (c : Nat) (o : Option Cabinet) : ∃ g, s.setCabinet c o = s.onCabinets g := by
  unfold State.setCabinet
  split
  · exact ⟨id, rfl⟩
  · exact ⟨_, rfl⟩

@[simp] theorem State.setCabinet_pending (s : State) (c o) : (s.setCabinet c o).pending = s.pending := by
  obtain ⟨g, hg⟩ := s.setCabinet_onCabinets c o; rw [hg, State.onCabinets_pending]
@[simp] theorem State.setCabinet_power (s : State) (c o) : (s.setCabinet c o).power = s.power := by
  obtain ⟨g, hg⟩ := s.setCabinet_onCabinets c o; rw [hg, State.onCabinets_power]
@[simp] theorem State.setCabinet_startCause (s : State) (c o) : (s.setCabinet c o).startCause = s.startCause := by
  obtain ⟨g, hg⟩ := s.setCabinet_onCabinets c o; rw [hg, State.onCabinets_startCause]
@[simp] theorem State.setCabinet_floor (s : State) (c o) : (s.setCabinet c o).floor = s.floor := by
  obtain ⟨g, hg⟩ := s.setCabinet_onCabinets c o; rw [hg, State.onCabinets_floor]
@[simp] theorem State.setCabinet_buses (s : State) (c o) : (s.setCabinet c o).buses = s.buses := by
  obtain ⟨g, hg⟩ := s.setCabinet_onCabinets c o; rw [hg, State.onCabinets_buses]
@[simp] theorem State.setCabinet_loadedSaved (s : State) (c o) : (s.setCabinet c o).loadedSaved = s.loadedSaved := by
  obtain ⟨g, hg⟩ := s.setCabinet_onCabinets c o; rw [hg, State.onCabinets_loadedSaved]
@[simp] theorem State.setCabinet_clc (s : State) (c o) : (s.setCabinet c o).clc = s.clc := by
  obtain ⟨g, hg⟩ := s.setCabinet_onCabinets c o; rw [hg, State.onCabinets_clc]
@[simp] theorem State.setCabinet_scs (s : State) (c o) : (s.setCabinet c o).scs = s.scs := by
  obtain ⟨g, hg⟩ := s.setCabinet_onCabinets c o; rw [hg, State.onCabinets_scs]
@[simp] theorem State.setCabinet_test (s : State) (c o) : (s.setCabinet c o).test = s.test := by
  obtain ⟨g, hg⟩ := s.setCabinet_onCabinets c o; rw [hg, State.onCabinets_test]
@[simp] theorem State.setCabinet_par (s : State) (c o) : (s.setCabinet c o).par = s.par := by
  obtain ⟨g, hg⟩ := s.setCabinet_onCabinets c o; rw [hg, State.onCabinets_par]
@[simp] theorem State.setCabinet_vct (s : State) (c o) : (s.setCabinet c o).vct = s.vct := by
  obtain ⟨g, hg⟩ := s.setCabinet_onCabinets c o; rw [hg, State.onCabinets_vct]
@[simp] theorem State.setCabinet_ims (s : State) (c o) : (s.setCabinet c o).ims = s.ims := by
  obtain ⟨g, hg⟩ := s.setCabinet_onCabinets c o; rw [hg, State.onCabinets_ims]
@[simp] theorem State.setCabinet_clock (s : State) (c o) : (s.setCabinet c o).clock = s.clock := by
  obtain ⟨g, hg⟩ := s.setCabinet_onCabinets c o; rw [hg, State.onCabinets_clock]
@[simp] theorem State.setCabinet_host (s : State) (c o) : (s.setCabinet c o).host = s.host := by
  obtain ⟨g, hg⟩ := s.setCabinet_onCabinets c o; rw [hg, State.onCabinets_host]
@[simp] theorem State.setCabinet_notices (s : State) (c o) : (s.setCabinet c o).notices = s.notices := by
  obtain ⟨g, hg⟩ := s.setCabinet_onCabinets c o; rw [hg, State.onCabinets_notices]
@[simp] theorem State.setCabinet_agenda (s : State) (c o) : (s.setCabinet c o).agenda = s.agenda := by
  obtain ⟨g, hg⟩ := s.setCabinet_onCabinets c o; rw [hg, State.onCabinets_agenda]
@[simp] theorem State.setCabinet_triggers (s : State) (c o) : (s.setCabinet c o).triggers = s.triggers := by
  obtain ⟨g, hg⟩ := s.setCabinet_onCabinets c o; rw [hg, State.onCabinets_triggers]
@[simp] theorem State.setCabinet_hold (s : State) (c o) : (s.setCabinet c o).hold = s.hold := by
  obtain ⟨g, hg⟩ := s.setCabinet_onCabinets c o; rw [hg, State.onCabinets_hold]
@[simp] theorem State.setCabinet_freeCount (s : State) (c o) : (s.setCabinet c o).freeCount = s.freeCount := by
  obtain ⟨g, hg⟩ := s.setCabinet_onCabinets c o; rw [hg, State.onCabinets_freeCount]

theorem State.cabinet_setCabinet_same (s : State) {c : Nat} (h1 : 1 ≤ c) (h2 : c ≤ 24) (o : Option Cabinet) :
    (s.setCabinet c o).cabinet c = o := by
  rw [State.setCabinet_eq s h1, State.cabinet, if_neg (by omega)]
  simp [show c - 1 < 24 by omega]

theorem State.cabinet_setCabinet_other (s : State) {c m : Nat} (h : m ≠ c) (o : Option Cabinet) :
    (s.setCabinet c o).cabinet m = s.cabinet m := by
  by_cases hc : c = 0
  · rw [State.setCabinet, if_pos hc]
  · by_cases hm : m = 0
    · simp [State.cabinet, hm]
    · have : c - 1 ≠ m - 1 := by omega
      rw [State.setCabinet_eq s (by omega), State.cabinet, State.cabinet, if_neg hm, if_neg hm, State.onCabinets_cabinets,
        Vector.getElem?_setIfInBounds_ne this]

theorem State.setCabinet_setCabinet (s : State) (c : Nat) (o p : Option Cabinet) :
    (s.setCabinet c o).setCabinet c p = s.setCabinet c p := by
  unfold State.setCabinet
  split
  · rfl
  · simp [State.onCabinets]

theorem State.setCabinet_self {s : State} {c : Nat} {k : Cabinet} (h : s.cabinet c = some k) :
    s.setCabinet c (some k) = s := by
  obtain ⟨hc, hk⟩ := State.cabinet_eq_some h
  have : s.cabinets.setIfInBounds (c - 1) (some k) = s.cabinets := by
    ext i hi : 1
    by_cases e : c - 1 = i
    · subst e
      rw [Vector.getElem_setIfInBounds_self]
      exact ((Vector.getElem?_eq_some_iff.mp hk).2).symm
    · rw [Vector.getElem_setIfInBounds_ne _ e]
  rw [State.setCabinet_eq s (by omega), State.onCabinets, this]

theorem State.onCabinet_eq {s : State} {c : Nat} {k : Cabinet} (h : s.cabinet c = some k) (f : Cabinet → Cabinet) :
    s.onCabinet c f = s.setCabinet c (some (f k)) := by
  rw [State.onCabinet, h]

theorem Cabinet.slot_range {k : Cabinet} {n : Nat} {u : StringUnit} (h : k.slot n = some u) : 1 ≤ n ∧ n ≤ 4 := by
  obtain ⟨hn, hu⟩ := Cabinet.slot_eq_some h
  obtain ⟨hi, -⟩ := Vector.getElem?_eq_some_iff.mp hu
  omega

theorem Cabinet.slot_setSlot_same (k : Cabinet) {n : Nat} (h1 : 1 ≤ n) (h2 : n ≤ 4) (o : Option StringUnit) :
    (k.setSlot n o).slot n = o := by
  rw [Cabinet.setSlot, if_neg (by omega), Cabinet.slot, if_neg (by omega)]
  simp [show n - 1 < 4 by omega]

theorem Cabinet.setSlot_setSlot (k : Cabinet) (n : Nat) (o p : Option StringUnit) :
    (k.setSlot n o).setSlot n p = k.setSlot n p := by
  unfold Cabinet.setSlot
  split
  · rfl
  · simp

@[simp] theorem Cabinet.setSlot_defn (k : Cabinet) (n : Nat) (o : Option StringUnit) : (k.setSlot n o).defn = k.defn := by
  unfold Cabinet.setSlot
  split <;> rfl

@[simp] theorem Cabinet.setSlot_track (k : Cabinet) (n : Nat) (o : Option StringUnit) : (k.setSlot n o).track = k.track := by
  unfold Cabinet.setSlot
  split <;> rfl

/-! ### The octets of a body (section 0.6) -/

theorem octets_one (v : Nat) : octets 1 v = [BitVec.ofNat 8 v] := by
  simp [octets]

/-- A field behind a head of known length. -/
theorem field_append (head body : List Byte) (offset n : Nat) :
    field (head ++ body) (head.length + offset) n = field body offset n := by
  rw [field, field, List.drop_append, List.drop_eq_nil_of_le (by omega), List.nil_append, Nat.add_sub_cancel_left]

/-- A field within the first part of a body. -/
theorem field_append_left (body tail : List Byte) {offset n : Nat} (h : offset + n ≤ body.length) :
    field (body ++ tail) offset n = field body offset n := by
  rw [field, field, List.drop_append_of_le_length (by omega), List.take_append_of_le_length (by simp; omega)]

theorem clampTo_zero (high v : Nat) : clampTo 0 high v = min v high := Nat.zero_max _

theorem clamp_value (low high v : Nat) : (clamp low high v).value = clampTo low high v := rfl

theorem clamp_moved_false (low high v : Nat) : (clamp low high v).moved = false ↔ clampTo low high v = v := by
  simp [clamp]

/-- OK where nothing moved, OK_CLAMPED otherwise (R173). -/
theorem okStatus_eq {moved : Bool} {P : Prop} [Decidable P] (h : moved = false ↔ P) :
    okStatus moved = if P then .ok else .okClamped := by
  cases moved <;> simp_all [okStatus]

end Sys2Proof.Machine

namespace Sys2Proof.Machine

/-! ### DEFINE_FLOOR (R8) -/

/-- Two folds whose steps agree wherever an invariant of the first holds. -/
theorem foldl_eq_of_invariant {α β : Type} (P : β → Prop) {f g : β → α → β} {l : List α}
    (step : ∀ x, P x → ∀ a ∈ l, f x a = g x a ∧ P (f x a)) {x : β} (hx : P x) : l.foldl f x = l.foldl g x := by
  induction l generalizing x with
  | nil => rfl
  | cons a l ih =>
    obtain ⟨same, keeps⟩ := step x hx a List.mem_cons_self
    rw [List.foldl_cons, List.foldl_cons, ← same]
    exact ih (fun x hx b hb => step x hx b (List.mem_cons_of_mem a hb)) keeps

/-- What a new interval does to an OVERDUE visit (R8). -/
def State.remindedAfter (interval now : Nat) (x : State) (v : Visit) : State :=
  match v.lastOverdue, v.deadline with
  | some last, some due =>
    if interval = 0 then x.onVisit v.id fun w => { w with nextReminder := none }
    else if now < last + 60 * interval then x.onVisit v.id fun w => { w with nextReminder := some (last + 60 * interval) }
    else (x.onVisit v.id fun w => { w with lastOverdue := some now, nextReminder := some (now + 60 * interval) }).raise
      .visitOverdue { visit := v.id } (now - due) 1
  | _, _ => x

theorem moveReminder_overdue {x : State} {v : Visit} (hv : v.state = .overdue) (hl : v.lastOverdue.isSome)
    (hd : v.deadline.isSome) : x.moveReminder v = State.remindedAfter x.floor.reminderMin x.now x v := by
  obtain ⟨last, hl⟩ := Option.isSome_iff_exists.mp hl
  obtain ⟨due, hd⟩ := Option.isSome_iff_exists.mp hd
  unfold State.moveReminder State.remindedAfter
  rw [if_pos hv, hl, hd]
  dsimp only [Option.getD_some]
  by_cases hz : x.floor.reminderMin = 0
  · rw [if_pos hz, if_pos hz]
  · rw [if_neg hz, if_neg hz, ← ite_not]
    refine if_congr (by omega) rfl ?_
    unfold State.raiseOverdue
    rw [hd, if_neg hz]
    rfl

theorem moveReminder_other {x : State} {v : Visit} (hv : v.state ≠ .overdue) : x.moveReminder v = x := if_neg hv

/-- A reminder moves visits and notices alone. -/
theorem moveReminder_frame (x : State) (v : Visit) :
    (x.moveReminder v).floor = x.floor ∧ (x.moveReminder v).now = x.now ∧ (x.moveReminder v).agenda = x.agenda := by
  unfold State.moveReminder
  dsimp only
  split_ifs <;> exact ⟨rfl, rfl, rfl⟩

/-- The reminders of the visits of a list are those of its OVERDUE ones. -/
theorem foldl_moveReminder (l : List Visit) (x : State)
    (h : ∀ v ∈ l, v.state = .overdue → v.lastOverdue.isSome ∧ v.deadline.isSome) :
    l.foldl State.moveReminder x =
      (l.filter fun v => v.state = .overdue).foldl (State.remindedAfter x.floor.reminderMin x.now) x := by
  rw [List.foldl_filter]
  refine foldl_eq_of_invariant (fun y => y.floor = x.floor ∧ y.now = x.now) ?_ ⟨rfl, rfl⟩
  rintro y ⟨hf, hn⟩ v hv
  obtain ⟨floor, now, -⟩ := moveReminder_frame y v
  refine ⟨?_, floor.trans hf, now.trans hn⟩
  by_cases ho : v.state = .overdue
  · obtain ⟨hl, hd⟩ := h v hv ho
    rw [moveReminder_overdue ho hl hd, hf, hn, if_pos (by simpa using ho)]
  · rw [moveReminder_other ho, if_neg (by simpa using ho)]

theorem foldl_moveReminder_agenda (l : List Visit) (x : State) : (l.foldl State.moveReminder x).agenda = x.agenda := by
  induction l generalizing x with
  | nil => rfl
  | cons v l ih => rw [List.foldl_cons, ih, (moveReminder_frame x v).2.2]

/-- A host-direct DEFINE_FLOOR of the right length is always taken. -/
theorem handleDefineFloor_host (s : State) {body : List Byte} (hl : body.length = 10) (h0 : field body 0 1 = 0) :
    handleDefineFloor s body =
      (s.visits.foldl State.moveReminder (s.onFloor fun _ => (floorOperand body).1),
        { status := okStatus (floorOperand body).2, rest := (floorOperand body).1.octets }) := by
  unfold handleDefineFloor
  simp [h0, hl, checked, firstFailing, State.visitNamed, authorityCheck_host, State.countAction]
  rfl

theorem clampRate_value (v : Nat) :
    (clampRate v).value = if v = 100 ∨ v = 400 then v else if v ≤ 250 then 100 else 400 := by
  unfold clampRate
  split_ifs <;> rfl

theorem clampRate_moved (v : Nat) : (clampRate v).moved = false ↔ (clampRate v).value = v := by
  unfold clampRate
  split_ifs <;> simp <;> omega

theorem clampDelay_value (v : Nat) : (clampDelay v).1 = if v = 0xFFFF then none else some (min v 1440) := by
  unfold clampDelay
  split_ifs <;> simp <;> omega

theorem clampDelay_moved (v : Nat) : (clampDelay v).2 = false ↔ v ≤ 1440 ∨ v = 0xFFFF := by
  unfold clampDelay
  split_ifs <;> simp <;> omega

/-- Settles O19: the record is stored as its clamps leave it, and the reminders are those of the OVERDUE visits. -/
theorem defineFloorStoresTheRecord : Obligations.DefineFloorStoresTheRecord := by
  intro tag r1 r0 st th sr ct rm d1 d0 s hr hv rate delay new unmoved move
  let body : List Byte := [0#8, r1, r0, st, th, sr, ct, rm, d1, d0]
  have operand : (floorOperand body).1 = new := by
    simp [body, floorOperand, field, quantity, clampRate_value, clampDelay_value, clamp_value, clampTo_zero, new, rate, delay]
  have moved : (floorOperand body).2 = false ↔ unmoved := by
    simp [body, floorOperand, field, quantity, clampRate_value, clampDelay_moved, clampRate_moved, clamp_moved_false, new, rate,
      delay, unmoved, and_assoc, clampTo_zero]
  have taken : handleKind .defineFloor s body =
      (s.visits.foldl State.moveReminder (s.onFloor fun _ => new),
        { status := if unmoved then .ok else .okClamped, rest := new.octets }) := by
    rw [← okStatus_eq moved, ← operand]
    exact handleDefineFloor_host s (body := body) rfl rfl
  have quiet : (s.visits.foldl State.moveReminder (s.onFloor fun _ => new)).agenda = [] := by
    rw [foldl_moveReminder_agenda]
    exact hr.1.1.2
  have reminders : s.visits.foldl State.moveReminder (s.onFloor fun _ => new) =
      (s.visits.filter fun v => v.state = .overdue).foldl move (s.onFloor fun _ => new) :=
    foldl_moveReminder _ _ hv
  have delayOctets : new.startScanDelay.getD 0xFFFF = (match new.startScanDelay with
      | none => 0xFFFF
      | some d => d) := by
    cases new.startScanDelay <;> rfl
  refine (request_done hr (Nat.le_of_ble_eq_true rfl) taken quiet).trans ?_
  rw [reminders, FloorRec.octets, delayOctets]
  rfl

end Sys2Proof.Machine

namespace Sys2Proof.Machine

/-! ### DEFINE_BUS (R9) and what a recomputation stores (R118, R119, R121) -/

/-- A host-direct DEFINE_BUS of the right length that names a bus is always taken. -/
theorem handleDefineBus_host (s : State) {body : List Byte} {b : Bus} (hl : body.length = 9) (h0 : field body 0 1 = 0)
    (h1 : field body 1 1 = b.val) :
    handleDefineBus s body =
      ((s.defineBus b (busRecOperand body).1).push [.meet],
        { status := okStatus (busRecOperand body).2, rest := octets 1 b.val ++ (busRecOperand body).1.octets }) := by
  have named : busOperand b.val = some b := by simp [busOperand]
  unfold handleDefineBus
  simp [h0, h1, hl, named, checked, firstFailing, State.visitNamed, authorityCheck_host, State.countAction]

theorem defineBus_new {s : State} {b : Bus} (h : s.bus b = none) (d : BusRec) :
    s.defineBus b d = (s.setBus b (some { defn := d, fig := .initial d.reserve })).onSeq b fun _ => .initial := by
  rw [State.defineBus, h]

theorem defineBus_replaced {s : State} {b : Bus} {u : BusUnit} (h : s.bus b = some u) (d : BusRec) :
    s.defineBus b d = (s.setBus b (some { u with defn := d })).trigger b := by
  rw [State.defineBus, h]

theorem recompute_undefined {s : State} {b : Bus} (h : s.bus b = none) : s.recompute b = s := by
  rw [State.recompute, h]

/-- The figures are unknown until a round has been seen, and while a cabinet of the bus is UNKNOWN (R118 case 1). -/
theorem known_false_iff {s : State} {b : Bus} {u : BusUnit} (h : s.bus b = some u) :
    s.known b = false ↔ u.fig.roundSeen = false ∨ ∃ p ∈ s.cabinetsOf b, p.2.track.state = .unknown := by
  rw [State.known, h]
  cases h : u.fig.roundSeen <;> simp [h]

/-- A deficit is one by margin or by autonomy (R118 case 3). -/
theorem inDeficit_iff (f : Figures) (d : BusRec) :
    f.inDeficit d = true ↔ f.margin < 0 ∨ (0 < d.minAutonomy ∧ f.autonomy < d.minAutonomy) := by
  simp [Figures.inDeficit, Figures.shortOfTime]

/-- The first case of R118 that applies. -/
theorem securityOf_eq {s : State} {b : Bus} {u : BusUnit} (h : s.bus b = some u) (d : BusRec) (f : Figures) :
    s.securityOf b d f =
      if u.fig.roundSeen = false ∨ ∃ p ∈ s.cabinetsOf b, p.2.track.state = .unknown then .unknown
      else if (s.seqOf b).state ≠ .normal then .bypassed
      else if f.margin < 0 ∨ (0 < d.minAutonomy ∧ f.autonomy < d.minAutonomy) then .deficit
      else .secure := by
  unfold State.securityOf
  exact if_congr (known_false_iff h) rfl (if_congr Iff.rfl rfl (if_congr (inDeficit_iff f d) rfl rfl))

/-- Settles O20: creation leaves no trigger, a replacement the one of its bus, and a recomputation is R121 read off. -/
theorem defineBusCreatesOrReplaces : Obligations.DefineBusCreatesOrReplaces := by
  refine ⟨?_, fun s b => ⟨recompute_undefined, ?_⟩⟩
  · intro tag rs hd au sp sy t1 t0 b s hr transfer new unmoved command status rest
    let body : List Byte := [0#8, BitVec.ofNat 8 b.val, rs, hd, au, sp, sy, t1, t0]
    have index : field body 1 1 = b.val := by simp [body, field, quantity]; omega
    have operand : (busRecOperand body).1 = new := by
      simp [body, busRecOperand, field, quantity, clamp_value, clampTo_zero, new, transfer]
    have moved : (busRecOperand body).2 = false ↔ unmoved := by
      simp [body, busRecOperand, field, quantity, clamp_moved_false, new, transfer, unmoved, and_assoc, clampTo_zero]
    have taken : handleKind .defineBus s body = ((s.defineBus b new).push [.meet], { status := status, rest := rest }) := by
      have := handleDefineBus_host s (body := body) rfl rfl index
      rw [okStatus_eq moved, operand, show octets 1 b.val ++ new.octets = rest by simp [BusRec.octets, rest]] at this
      exact this
    refine ⟨fun h => ?_, fun u h hn => ?_⟩
    · rw [defineBus_new h] at taken
      exact request_met hr (Nat.le_of_ble_eq_true rfl) taken hr.1.1.2 hr.1.2.2
    · rw [defineBus_replaced h] at taken
      exact request_recomputes hr (Nat.le_of_ble_eq_true rfl) taken hr.1.1.2 hr.1.2.1 hr.1.2.2 hn
  · intro u h f short security subject value stored warned
    have sec : s.securityOf b u.defn f = security := securityOf_eq h u.defn f
    have uncertain : (f.uncertain && !u.fig.uncertain) = true ↔ 0 < f.uncertainCount ∧ u.fig.uncertain = false := by
      simp [Figures.uncertain]
    have code : bit 0 (decide (f.margin < 0)) + bit 1 (f.shortOfTime u.defn) =
        (if f.margin < 0 then 1 else 0) + if short then 2 else 0 := by
      simp [bit, Figures.shortOfTime, short]
    have recorded : s.setBus b (some { u with fig := u.fig.update f security }) = stored := rfl
    have first : (if f.uncertain && !u.fig.uncertain then stored.raise .loadUncertain subject f.uncertainCount 0 else stored) =
        warned := if_congr uncertain rfl rfl
    rw [State.recompute, h]
    change State.raiseBus (s.setBus b (some { u with fig := u.fig.update f (s.securityOf b u.defn f) })) b u.defn u.fig f
      (s.securityOf b u.defn f) = _
    rw [sec, recorded]
    rw [← code, ← first]
    rfl

end Sys2Proof.Machine

namespace Sys2Proof.Machine

/-! ### What a recomputation keeps (R121) -/

@[simp] theorem State.recompute_cabinets (s : State) (b : Bus) : (s.recompute b).cabinets = s.cabinets := by
  have := congrArg State.cabinets (figuresOff_recompute s b); exact this
@[simp] theorem State.recompute_pending (s : State) (b : Bus) : (s.recompute b).pending = s.pending := by
  have := congrArg State.pending (figuresOff_recompute s b); exact this
@[simp] theorem State.recompute_power (s : State) (b : Bus) : (s.recompute b).power = s.power := by
  have := congrArg State.power (figuresOff_recompute s b); exact this
@[simp] theorem State.recompute_startCause (s : State) (b : Bus) : (s.recompute b).startCause = s.startCause := by
  have := congrArg State.startCause (figuresOff_recompute s b); exact this
@[simp] theorem State.recompute_floor (s : State) (b : Bus) : (s.recompute b).floor = s.floor := by
  have := congrArg State.floor (figuresOff_recompute s b); exact this
@[simp] theorem State.recompute_loadedSaved (s : State) (b : Bus) : (s.recompute b).loadedSaved = s.loadedSaved := by
  have := congrArg State.loadedSaved (figuresOff_recompute s b); exact this
@[simp] theorem State.recompute_clc (s : State) (b : Bus) : (s.recompute b).clc = s.clc := by
  have := congrArg State.clc (figuresOff_recompute s b); exact this
@[simp] theorem State.recompute_scs (s : State) (b : Bus) : (s.recompute b).scs = s.scs := by
  have := congrArg State.scs (figuresOff_recompute s b); exact this
@[simp] theorem State.recompute_test (s : State) (b : Bus) : (s.recompute b).test = s.test := by
  have := congrArg State.test (figuresOff_recompute s b); exact this
@[simp] theorem State.recompute_vct (s : State) (b : Bus) : (s.recompute b).vct = s.vct := by
  have := congrArg State.vct (figuresOff_recompute s b); exact this
@[simp] theorem State.recompute_ims (s : State) (b : Bus) : (s.recompute b).ims = s.ims := by
  have := congrArg State.ims (figuresOff_recompute s b); exact this
@[simp] theorem State.recompute_clock (s : State) (b : Bus) : (s.recompute b).clock = s.clock := by
  have := congrArg State.clock (figuresOff_recompute s b); exact this
@[simp] theorem State.recompute_host (s : State) (b : Bus) : (s.recompute b).host = s.host := by
  have := congrArg State.host (figuresOff_recompute s b); exact this
@[simp] theorem State.recompute_freeCount (s : State) (b : Bus) : (s.recompute b).freeCount = s.freeCount := by
  have := congrArg State.freeCount (figuresOff_recompute s b); exact this

/-- The strict figures read neither figures nor notices. -/
theorem recompute_strict (s : State) (a b : Bus) (d : BusRec) : (s.recompute a).strict b d = s.strict b d := by
  have := congrArg (State.strict · b d) (figuresOff_recompute s a); exact this

theorem raiseBus_buses (s : State) (b : Bus) (d : BusRec) (old : BusFigures) (f : Figures) (x : Security) :
    (s.raiseBus b d old f x).buses = s.buses := by
  unfold State.raiseBus
  dsimp only
  split_ifs <;> rfl

@[simp] theorem State.bus_setBus_same (s : State) (b : Bus) (o : Option BusUnit) : (s.setBus b o).bus b = o := by
  simp [State.bus, State.setBus]

/-- The figures record that a recomputation stores. -/
theorem recompute_bus {s : State} {b : Bus} {u : BusUnit} (h : s.bus b = some u) :
    (s.recompute b).bus b =
      some { u with fig := u.fig.update (s.strict b u.defn) (s.securityOf b u.defn (s.strict b u.defn)) } := by
  rw [State.recompute, h]
  dsimp only
  rw [State.bus, raiseBus_buses, ← State.bus, State.bus_setBus_same]

/-- A recomputation leaves what the security of its bus is judged by. -/
theorem recompute_securityOf {s : State} {b : Bus} {u : BusUnit} (h : s.bus b = some u) (d : BusRec) (f : Figures) :
    (s.recompute b).securityOf b d f = s.securityOf b d f := by
  have cabinets : (s.recompute b).cabinetsOf b = s.cabinetsOf b := by
    have := congrArg (State.cabinetsOf · b) (figuresOff_recompute s b); exact this
  have seq : (s.recompute b).seqOf b = s.seqOf b := by
    have := congrArg (State.seqOf · b) (figuresOff_recompute s b); exact this
  rw [securityOf_eq (recompute_bus h) d f, securityOf_eq h d f, cabinets, seq]
  rfl

/-- A recomputed bus holds the strict figures and the security of the state it is left in. -/
theorem recompute_bus_after {s : State} {b : Bus} {u : BusUnit} (h : s.bus b = some u) :
    let t := s.recompute b
    t.bus b = some { u with fig := u.fig.update (t.strict b u.defn) (t.securityOf b u.defn (t.strict b u.defn)) } := by
  intro t
  rw [recompute_bus h, recompute_strict, recompute_securityOf h]

/-! ### The figures of a string's ageing record (R72, R79, R84) -/

theorem impedanceCheck_age (d : StringRec) (a : AgeRec) :
    (impedanceCheck d a).age = { a with impFlagged := decide (a.impHealth ≤ d.alarmLevel) } := by
  unfold impedanceCheck
  split
  next h => rw [decide_eq_true h.1]
  next h =>
    split
    next g => rw [decide_eq_false (Nat.not_le.mpr g.1)]; rfl
    next g =>
      have stays : decide (a.impHealth ≤ d.alarmLevel) = a.impFlagged := by
        cases hf : a.impFlagged <;> simp [hf] at h g ⊢ <;> omega
      rw [stays]
      rfl

theorem remainingRecompute_age (d : StringRec) (a : AgeRec) :
    (remainingRecompute d a).age =
      { a with remainingDays := remainingDaysOf d a.totalWear a.window,
               dueFlagged := decide (remainingDaysOf d a.totalWear a.window ≤ d.serviceLead) } := by
  unfold remainingRecompute
  dsimp only
  split
  next h => rw [decide_eq_true h.1]
  next h =>
    split
    next g => rw [decide_eq_false (Nat.not_le.mpr g.1)]; rfl
    next g =>
      have stays : decide (remainingDaysOf d a.totalWear a.window ≤ d.serviceLead) = a.dueFlagged := by
        cases hf : a.dueFlagged <;> simp [hf] at h g ⊢ <;> omega
      rw [stays]
      rfl

/-- Both recomputations on a record (R72, R79, R84). -/
theorem bothRecomputes_age (d : StringRec) (a : AgeRec) :
    (bothRecomputes d a).age =
      let x := a.derive d
      let days := remainingDaysOf d x.totalWear x.window
      { x with impFlagged := decide (x.impHealth ≤ d.alarmLevel), remainingDays := days,
               dueFlagged := decide (days ≤ d.serviceLead) } := by
  unfold bothRecomputes AgeWork.andThen healthRecompute
  rw [remainingRecompute_age, impedanceCheck_age]

end Sys2Proof.Machine

namespace Sys2Proof.Machine

/-! ### A record without wear (R12, R93, R95) -/

/-- The figures of Table 5-2 of a record without wear, without a baseline and in FLOAT. -/
theorem derive_unworn {d : StringRec} {a : AgeRec} (hl : 0 < d.designLife) (hw : a.calendarWear = 0) (hc : a.cycleCharge = 0)
    (hb : a.baseline = 0) (hf : a.state = .float) :
    a.derive d = { a with cycleWear := 0, totalWear := 0, wearHealth := 100, impHealth := 100, health := 100,
                          energy := d.energy } := by
  have cycle : cycleWearOf d a.cycleCharge = 0 := by simp [cycleWearOf, hc]
  have wear : wearHealthOf d 0 = 100 := by
    have : ¬ d.wearAtEnd ≤ 0 := by unfold StringRec.wearAtEnd; omega
    simp [wearHealthOf, this]
  have imp : impHealthOf 0 a.lastImpedance = 100 := by simp [impHealthOf]
  have energy : energyOf d 100 .float = d.energy := by simp [energyOf]
  unfold AgeRec.derive
  simp [cycle, hw, hb, hf, wear, imp, energy]

/-- A record without wear whose daily window is empty has no end in sight. -/
theorem remainingDaysOf_unworn {d : StringRec} (hl : 0 < d.designLife) : remainingDaysOf d 0 [] = 65535 := by
  have : ¬ d.wearAtEnd ≤ 0 := by unfold StringRec.wearAtEnd; omega
  simp [remainingDaysOf, this]

/-- Both recomputations on a new record: full health, and nothing to raise below the greatest alarm level. -/
theorem bothRecomputes_fresh {d : StringRec} (hl : 0 < d.designLife) (ha : d.alarmLevel < 100) (hs : d.serviceLead < 65535)
    (now : Nat) (lost : Bool) :
    bothRecomputes d (AgeRec.fresh now lost) =
      .quiet { AgeRec.fresh now lost with wearHealth := 100, impHealth := 100, health := 100, energy := d.energy } := by
  have derived := derive_unworn (a := AgeRec.fresh now lost) hl rfl rfl rfl rfl
  have days := remainingDaysOf_unworn hl
  unfold bothRecomputes AgeWork.andThen healthRecompute
  rw [derived]
  simp [impedanceCheck, remainingRecompute, AgeRec.fresh, AgeWork.quiet, days, ha, hs, Nat.not_le.mpr ha, Nat.not_le.mpr hs]

/-! ### Work on one string (section 5.10) -/

/-- The notices of a string's work change the notices alone. -/
theorem raiseAge_onNotices (s : State) (b : Bus) (c n : Nat) (l : List AgeNotice) :
    ∃ g, s.raiseAge b c n l = s.onNotices g := by
  unfold State.raiseAge
  induction l generalizing s with
  | nil => exact ⟨id, rfl⟩
  | cons x l ih =>
    obtain ⟨r, hr⟩ : ∃ r, s.raise x.kind { bus := busCode b, cabinet := c, slot := n } x.value x.result = s.onNotices r :=
      ⟨_, rfl⟩
    obtain ⟨g, hg⟩ := ih (s.onNotices r)
    rw [List.foldl_cons, hr, hg]
    exact ⟨fun n => g (r n), rfl⟩

/-- The record of a string as its work leaves it, and the notices raised. -/
def State.workedString (s : State) (c : Nat) (k : Cabinet) (n : Nat) (u : StringUnit) (w : AgeWork) : State :=
  (s.setCabinet c (some (k.setSlot n (some { u with age := w.age })))).raiseAge k.defn.bus c n w.raised

/-- Work on a string, with the trigger that a change of its state or energy is. -/
theorem ageString_eq {s : State} {c n : Nat} {k : Cabinet} {u : StringUnit} (hk : s.cabinet c = some k)
    (hu : k.slot n = some u) (f : StringRec → AgeRec → AgeWork) :
    s.ageString c n f = s.workedString c k n u (f u.defn u.age) ∨
      s.ageString c n f = (s.workedString c k n u (f u.defn u.age)).trigger k.defn.bus := by
  unfold State.ageString State.workedString
  rw [hk]
  dsimp only
  rw [hu]
  dsimp only
  split_ifs
  · exact .inl rfl
  · exact .inr rfl

theorem workedString_cabinet {s : State} {c : Nat} {k j : Cabinet} (hk : s.cabinet c = some j) (n : Nat) (u : StringUnit)
    (w : AgeWork) :
    (s.workedString c k n u w).cabinet c = some (k.setSlot n (some { u with age := w.age })) := by
  obtain ⟨h1, h2⟩ := State.cabinet_range hk
  obtain ⟨g, hg⟩ := raiseAge_onNotices (s.setCabinet c (some (k.setSlot n (some { u with age := w.age })))) k.defn.bus c n w.raised
  rw [State.workedString, hg]
  exact State.cabinet_setCabinet_same s h1 h2 _

theorem triggerCabinet_eq {s : State} {c : Nat} {k : Cabinet} (h : s.cabinet c = some k) :
    s.triggerCabinet c = s.trigger k.defn.bus := by
  rw [State.triggerCabinet, State.busOf, h]
  rfl

/-- Work on a string and a trigger for its bus. -/
theorem ageString_triggered {s : State} {c n : Nat} {k : Cabinet} {u : StringUnit} (hk : s.cabinet c = some k)
    (hu : k.slot n = some u) (f : StringRec → AgeRec → AgeWork) :
    (s.ageString c n f).triggerCabinet c = (s.workedString c k n u (f u.defn u.age)).trigger k.defn.bus := by
  have cabinet := workedString_cabinet (k := k) hk n u (f u.defn u.age)
  rcases ageString_eq hk hu f with h | h
  · rw [h, triggerCabinet_eq cabinet, Cabinet.setSlot_defn]
  · rw [h, triggerCabinet_eq (s := (s.workedString c k n u (f u.defn u.age)).trigger k.defn.bus) cabinet, Cabinet.setSlot_defn,
      State.trigger_trigger]

/-- Work on a string leaves the tracked state of its cabinet. -/
theorem ageString_tracked {s : State} {c n : Nat} {k : Cabinet} {u : StringUnit} (hk : s.cabinet c = some k)
    (hu : k.slot n = some u) (f : StringRec → AgeRec → AgeWork) : (s.ageString c n f).tracked c = some k.track.state := by
  have cabinet := workedString_cabinet (k := k) hk n u (f u.defn u.age)
  have kept : (s.workedString c k n u (f u.defn u.age)).tracked c = some k.track.state := by
    rw [State.tracked, cabinet, Option.map_some, Cabinet.setSlot_track]
  rcases ageString_eq hk hu f with h | h <;> rw [h] <;> exact kept

/-- Work on a slot that has just been stored. -/
theorem workedString_setSlot (s : State) (c : Nat) (k : Cabinet) (n : Nat) (v u : StringUnit) (w : AgeWork) :
    (s.setCabinet c (some (k.setSlot n (some v)))).workedString c (k.setSlot n (some v)) n u w = s.workedString c k n u w := by
  unfold State.workedString
  rw [State.setCabinet_setCabinet, Cabinet.setSlot_setSlot, Cabinet.setSlot_defn]

/-! ### DEFINE_STRING (R12) -/

/-- A slot created, on a cabinet that is not on battery. -/
theorem defineString_new {s : State} {c n : Nat} {k : Cabinet} (hk : s.cabinet c = some k) (h1 : 1 ≤ n) (h4 : n ≤ 4)
    (hn : k.slot n = none) (hb : k.track.state ≠ .onBattery) (d : StringRec) :
    s.defineString c n d =
      (s.workedString c k n { defn := d, age := .fresh s.now false } (bothRecomputes d (.fresh s.now false))).trigger
        k.defn.bus := by
  obtain ⟨c1, c24⟩ := State.cabinet_range hk
  let u : StringUnit := { defn := d, age := .fresh s.now false }
  have stored : (s.setCabinet c (some (k.setSlot n (some u)))).cabinet c = some (k.setSlot n (some u)) :=
    State.cabinet_setCabinet_same s c1 c24 _
  have slot := Cabinet.slot_setSlot_same k h1 h4 (some u)
  have cabinet : ((s.setCabinet c (some (k.setSlot n (some u)))).ageString c n bothRecomputes).tracked c = some k.track.state := by
    rw [ageString_tracked stored slot, Cabinet.setSlot_track]
  have absent : s.string c n = none := by rw [State.string, hk]; exact hn
  have quiet : ¬ some k.track.state = some Tracked.onBattery := fun e => hb (Option.some.inj e)
  unfold State.defineString
  rw [absent]
  dsimp only
  rw [State.onCabinet_eq hk, cabinet, if_neg quiet, ageString_triggered stored slot, workedString_setSlot, Cabinet.setSlot_defn]

/-- A defined slot under new settings. -/
theorem defineString_kept {s : State} {c n : Nat} {k : Cabinet} {u : StringUnit} (hk : s.cabinet c = some k)
    (hu : k.slot n = some u) (d : StringRec) :
    s.defineString c n d =
      (s.workedString c k n { u with defn := d } (bothRecomputes d u.age)).trigger k.defn.bus := by
  obtain ⟨c1, c24⟩ := State.cabinet_range hk
  obtain ⟨h1, h4⟩ := Cabinet.slot_range hu
  have stored : (s.setCabinet c (some (k.setSlot n (some { u with defn := d })))).cabinet c =
      some (k.setSlot n (some { u with defn := d })) := State.cabinet_setCabinet_same s c1 c24 _
  have slot := Cabinet.slot_setSlot_same k h1 h4 (some { u with defn := d })
  have present : s.string c n = some u := by rw [State.string, hk]; exact hu
  unfold State.defineString
  rw [present]
  dsimp only
  rw [State.onCabinet_eq hk, ageString_triggered stored slot, workedString_setSlot, Cabinet.setSlot_defn]

end Sys2Proof.Machine

namespace Sys2Proof.Machine

/-! ### The settings of a DEFINE_STRING body (R7, Table 1-4) -/

theorem clamp_moved_true (low high v : Nat) : (clamp low high v).moved = true ↔ clampTo low high v ≠ v := by
  simp [clamp]

/-- Some setting is moved exactly where the settings as stored differ from those given. -/
theorem stringOperand_moved (body : List Byte) (mode : CombineMode) :
    (stringOperand body mode).2 = true ↔
      [(stringOperand body mode).1.capacity, (stringOperand body mode).1.energy, (stringOperand body mode).1.designLife,
        (stringOperand body mode).1.cycles, (stringOperand body mode).1.shunt, (stringOperand body mode).1.minSignal,
        (stringOperand body mode).1.stepTime, (stringOperand body mode).1.settleTime,
        (stringOperand body mode).1.floatThreshold, (stringOperand body mode).1.holdHours,
        (stringOperand body mode).1.serviceLead, (stringOperand body mode).1.alarmLevel] ≠
      [field body 3 2, field body 5 4, field body 9 2, field body 11 2, field body 13 4, field body 17 2,
        field body 19 1, field body 20 1, field body 21 2, field body 23 1, field body 24 2, field body 26 1] := by
  simp only [stringOperand, ratedOperand, clamp_value, Bool.or_eq_true, clamp_moved_true, ne_eq, List.cons.injEq, and_true, not_and_or,
    or_assoc]

/-- The ranges that a new record's figures need. -/
theorem stringOperand_ranges (body : List Byte) (mode : CombineMode) :
    0 < (stringOperand body mode).1.designLife ∧ (stringOperand body mode).1.serviceLead < 65535 ∧
      (stringOperand body mode).1.alarmLevel = min (field body 26 1) 100 := by
  simp only [stringOperand, ratedOperand, clamp_value, clampTo]
  omega

/-- The body of a host-direct DEFINE_STRING. -/
def stringBody (c n : Nat) (settings : List Byte) (mode : CombineMode) : List Byte :=
  [0#8, BitVec.ofNat 8 c, BitVec.ofNat 8 n] ++ settings ++ octets 1 mode.code

theorem stringBody_length {settings : List Byte} (h : settings.length = 24) (c n : Nat) (mode : CombineMode) :
    (stringBody c n settings mode).length = 28 := by
  simp [stringBody, h, octets_one]

theorem stringBody_fields {settings : List Byte} (h : settings.length = 24) {c n : Nat} (hc : c ≤ 24) (hn : n ≤ 4)
    (mode : CombineMode) :
    field (stringBody c n settings mode) 0 1 = 0 ∧ field (stringBody c n settings mode) 1 1 = c ∧
      field (stringBody c n settings mode) 2 1 = n ∧ field (stringBody c n settings mode) 26 1 = field settings 23 1 ∧
      CombineMode.ofCode (field (stringBody c n settings mode) 27 1) = some mode := by
  have last : field (stringBody c n settings mode) 27 1 = mode.code := by
    rw [stringBody, octets_one, show 27 = ([0#8, BitVec.ofNat 8 c, BitVec.ofNat 8 n] ++ settings).length + 0 by simp [h],
      field_append]
    cases mode <;> rfl
  have alarm : field (stringBody c n settings mode) 26 1 = field settings 23 1 := by
    rw [stringBody, List.append_assoc, show 26 = [0#8, BitVec.ofNat 8 c, BitVec.ofNat 8 n].length + 23 by rfl, field_append,
      field_append_left _ _ (by omega)]
  refine ⟨by simp [stringBody, field, quantity], ?_, ?_, alarm, ?_⟩
  · simp [stringBody, field, quantity]; omega
  · simp [stringBody, field, quantity]; omega
  · rw [last]
    cases mode <;> rfl

/-- A host-direct DEFINE_STRING of a slot in range, of an unlocked cabinet, while no permit is live and no test runs. -/
theorem handleDefineString_host {s : State} {settings : List Byte} {c n : Nat} {k : Cabinet} (hk : s.cabinet c = some k)
    (h1 : 1 ≤ n) (h4 : n ≤ 4) (hn : n ≤ k.defn.stringCount) (hlock : s.lockOf c = none) (hp : s.par.permits = [])
    (ht : s.test.phase = .idle) (hl : settings.length = 24) (mode : CombineMode) :
    let new := stringOperand (stringBody c n settings mode) mode
    handleDefineString s (stringBody c n settings mode) =
      ((s.defineString c n new.1).push [.meet],
        { status := okStatus new.2, rest := octets 1 c ++ octets 1 n ++ new.1.octets }) := by
  obtain ⟨f0, f1, f2, -, f27⟩ := stringBody_fields hl (State.cabinet_range hk).2 h4 mode
  have authority : s.authorityCheck 0 [c] .supervise = (true, .ok) := authorityCheck_host _ (by simpa using hlock)
  have noPermit : s.testPermitOn c n = false := by simp [State.testPermitOn, hp]
  intro new
  unfold handleDefineString
  dsimp only
  rw [f0, f1, f2, f27, authority, noPermit, stringBody_length hl, hk, ht]
  refine checked_pass ?_
  simp [State.visitNamed, h1, h4, hn]

/-- What work on a string leaves as it was: all but the cabinets and the notices. -/
theorem workedString_frame (s : State) (c : Nat) (k : Cabinet) (n : Nat) (u : StringUnit) (w : AgeWork) :
    ∃ v q, s.workedString c k n u w = { s with cabinets := v, notices := q } := by
  obtain ⟨g, hg⟩ := raiseAge_onNotices (s.setCabinet c (some (k.setSlot n (some { u with age := w.age })))) k.defn.bus c n w.raised
  rw [State.workedString, hg]
  unfold State.setCabinet
  split
  · exact ⟨s.cabinets, _, rfl⟩
  · exact ⟨_, _, rfl⟩

/-- Work on a string stores the record it makes. -/
theorem workedString_cabinets (s : State) (c : Nat) (k : Cabinet) (n : Nat) (u : StringUnit) (w : AgeWork) :
    (s.workedString c k n u w).cabinets = (s.setCabinet c (some (k.setSlot n (some { u with age := w.age })))).cabinets := by
  obtain ⟨g, hg⟩ := raiseAge_onNotices (s.setCabinet c (some (k.setSlot n (some { u with age := w.age })))) k.defn.bus c n w.raised
  rw [State.workedString, hg]
  rfl

/-- The notices of work on a string are no part of what signals leave unchanged. -/
theorem workedString_outer (s : State) (c : Nat) (k : Cabinet) (n : Nat) (u : StringUnit) (w : AgeWork) :
    (s.workedString c k n u w).outer = (s.setCabinet c (some (k.setSlot n (some { u with age := w.age })))).outer := by
  rw [State.workedString, outer_raiseAge]

theorem workedString_quiet (s : State) (c : Nat) (k : Cabinet) (n : Nat) (u : StringUnit) (a : AgeRec) :
    s.workedString c k n u (.quiet a) = s.setCabinet c (some (k.setSlot n (some { u with age := a }))) := rfl

/-- Settles O22: a new slot's record raises nothing; the settings are their clamps; a kept record follows the settings. -/
theorem defineStringCreates : Obligations.DefineStringCreates := by
  refine ⟨?_, ?_, ?_⟩
  · intro tag settings mode c n k s hr hp ht hk h1 h4 hn hs hlock hb hl ha body new
    obtain ⟨life, lead, alarm⟩ := stringOperand_ranges (stringBody c n settings mode) mode
    obtain ⟨-, -, -, f26, -⟩ := stringBody_fields hl (State.cabinet_range hk).2 h4 mode
    have below : (stringOperand (stringBody c n settings mode) mode).1.alarmLevel < 100 := by
      rw [alarm, f26]
      omega
    have taken := handleDefineString_host hk h1 h4 hn hlock hp.1 ht hl mode
    dsimp only at taken
    rw [defineString_new hk h1 h4 hs hb, bothRecomputes_fresh life below lead, workedString_quiet] at taken
    have done := request_recomputes (tag := tag) hr (by rw [stringBody_length hl]; decide) (k := .defineString) taken
      (by simpa using hr.1.1.2) (by simpa using hr.1.2.1) (by simpa using hr.1.2.2)
      (by simpa [State.NoTransfers, State.seqOf] using hp)
    exact done
  · intro body mode given new stored limits
    exact ⟨rfl, stringOperand_moved body mode, rfl⟩
  · intro tag settings mode c n k u w s hr hp ht hk hn hu hlock hw hl body new d cycle total wear imp days after
    obtain ⟨h1, h4⟩ := Cabinet.slot_range hu
    obtain ⟨x, hx⟩ : ∃ x, s.workedString c k n { u with defn := d } (bothRecomputes d u.age) = x := ⟨_, rfl⟩
    have taken : handleKind .defineString s body = ((x.trigger k.defn.bus).push [.meet],
        { status := okStatus new.2, rest := octets 1 c ++ octets 1 n ++ d.octets }) := by
      rw [← hx, ← defineString_kept hk hu]
      exact handleDefineString_host hk h1 h4 hn hlock hp.1 ht hl mode
    have stored : k.setSlot n (some { u with defn := d, age := (bothRecomputes d u.age).age }) = after := by
      rw [bothRecomputes_age]
      unfold AgeRec.derive wearLimit
      rfl
    have cabinets : x.cabinets = (s.setCabinet c (some after)).cabinets := by rw [← hx, workedString_cabinets, ← stored]
    have outer : x.outer = (s.setCabinet c (some after)).outer := by rw [← hx, workedString_outer, ← stored]
    obtain ⟨v, q, frame⟩ : ∃ v q, x = { s with cabinets := v, notices := q } := by rw [← hx]; exact workedString_frame ..
    have bus : x.bus k.defn.bus = some w := by rw [frame]; exact hw
    have done := request_recomputes (tag := tag) hr (by rw [show body.length = 28 from stringBody_length hl c n mode]; decide)
      taken (by rw [frame]; exact hr.1.1.2) (by rw [frame]; exact hr.1.2.1) (by rw [frame]; exact hr.1.2.2)
      (by rw [frame]; exact hp)
    refine ⟨_, done, (x.recompute_cabinets _).trans cabinets, recompute_bus_after bus, ?_⟩
    have kept : x.scs = s.scs ∧ x.clc = s.clc ∧ x.par = s.par ∧ x.vct = s.vct ∧ x.test = s.test ∧ x.clock = s.clock ∧
        x.ims = s.ims := by simp [frame]
    obtain ⟨scs, clc, par, vct, test, clock, ims⟩ := kept
    exact ⟨(x.recompute_scs _).trans scs, (x.recompute_clc _).trans clc, (x.recompute_par _).trans par,
      (x.recompute_vct _).trans vct, (x.recompute_test _).trans test, (x.recompute_clock _).trans clock,
      (x.recompute_ims _).trans ims, outer_answered ((outer_recompute x _).trans outer) ..⟩

end Sys2Proof.Machine

namespace Sys2Proof.Machine

/-! ### What work on strings can change -/

/-- `t` differs from `s` in the cabinets, the notices and the triggers alone. -/
def State.AgedFrom (s t : State) : Prop := ∃ v q r, t = { s with cabinets := v, notices := q, triggers := r }

theorem State.AgedFrom.refl (s : State) : s.AgedFrom s := ⟨_, _, _, rfl⟩

theorem State.AgedFrom.trans {s t u : State} (h : s.AgedFrom t) (g : t.AgedFrom u) : s.AgedFrom u := by
  obtain ⟨v, q, r, rfl⟩ := h
  obtain ⟨v', q', r', rfl⟩ := g
  exact ⟨v', q', r', rfl⟩

theorem agedFrom_trigger (s : State) (b : Bus) : s.AgedFrom (s.trigger b) := ⟨_, _, _, rfl⟩

theorem agedFrom_triggerCabinet (s : State) (c : Nat) : s.AgedFrom (s.triggerCabinet c) := by
  unfold State.triggerCabinet
  split
  · exact .refl s
  · exact agedFrom_trigger s _

theorem agedFrom_setCabinet (s : State) (c : Nat) (o : Option Cabinet) : s.AgedFrom (s.setCabinet c o) := by
  obtain ⟨g, hg⟩ := s.setCabinet_onCabinets c o
  rw [hg]
  exact ⟨_, _, _, rfl⟩

theorem agedFrom_ageString (s : State) (c n : Nat) (f : StringRec → AgeRec → AgeWork) : s.AgedFrom (s.ageString c n f) := by
  have worked : ∀ k u w, s.AgedFrom (s.workedString c k n u w) := fun k u w => by
    obtain ⟨v, q, h⟩ := workedString_frame s c k n u w
    exact ⟨v, q, _, h⟩
  cases hk : s.cabinet c with
  | none =>
    rw [State.ageString, hk]
    exact .refl s
  | some k =>
    cases hu : k.slot n with
    | none =>
      rw [State.ageString, hk]
      dsimp only
      rw [hu]
      exact .refl s
    | some u =>
      rcases ageString_eq hk hu f with h | h <;> rw [h]
      · exact worked _ _ _
      · exact (worked _ _ _).trans (agedFrom_trigger _ _)

/-! ### Work on every string -/

/-- What work on one string keeps and may use of the state, work on every string keeps. -/
theorem forStrings_keeps (P : State → Prop) {f : State → Nat → Nat → State} (h : ∀ s c n, P s → P (f s c n)) {s : State}
    (hs : P s) : P (s.forStrings f) := by
  have fold : ∀ {α : Type} (g : State → α → State) (l : List α), (∀ s a, P s → P (g s a)) → ∀ s, P s → P (l.foldl g s) := by
    intro α g l hg
    induction l with
    | nil => exact fun s hs => hs
    | cons a l ih => exact fun s hs => ih _ (hg s a hs)
  exact fold _ _ (fun s c hs => fold _ _ (fun s n hs => h s c n hs) s hs) s hs

theorem agedFrom_accrueAll (s : State) : s.AgedFrom s.accrueAll :=
  forStrings_keeps (s.AgedFrom ·) (fun _ c n h => h.trans (agedFrom_ageString _ c n _)) (.refl s)

theorem Cabinet.slot_setSlot_other (k : Cabinet) {n m : Nat} (h : m ≠ n) (o : Option StringUnit) :
    (k.setSlot n o).slot m = k.slot m := by
  unfold Cabinet.setSlot Cabinet.slot
  split
  · rfl
  · split
    · rfl
    · rw [Vector.getElem?_setIfInBounds_ne (by omega)]

/-- The cabinet that work on one of its strings leaves. -/
theorem ageString_cabinet {s : State} {c n : Nat} {k : Cabinet} {u : StringUnit} (hk : s.cabinet c = some k)
    (hu : k.slot n = some u) (f : StringRec → AgeRec → AgeWork) :
    (s.ageString c n f).cabinet c = some (k.setSlot n (some { u with age := (f u.defn u.age).age })) := by
  have worked := workedString_cabinet (k := k) hk n u (f u.defn u.age)
  rcases ageString_eq hk hu f with e | e <;> rw [e] <;> exact worked

/-- The string that work on it leaves. -/
theorem ageString_string {s : State} {c n : Nat} {u : StringUnit} (h : s.string c n = some u)
    (f : StringRec → AgeRec → AgeWork) : (s.ageString c n f).string c n = some { u with age := (f u.defn u.age).age } := by
  obtain ⟨k, hk, hu⟩ := Option.bind_eq_some_iff.mp h
  obtain ⟨h1, h4⟩ := Cabinet.slot_range hu
  rw [State.string, ageString_cabinet hk hu]
  exact Cabinet.slot_setSlot_same k h1 h4 _

/-- Work on one string leaves the others. -/
theorem ageString_string_other {s : State} {c n i j : Nat} (h : ¬ (i = c ∧ j = n)) (f : StringRec → AgeRec → AgeWork) :
    (s.ageString i j f).string c n = s.string c n := by
  cases hs : s.string i j with
  | none =>
    have idle : s.ageString i j f = s := by
      unfold State.ageString
      cases hk : s.cabinet i with
      | none => rfl
      | some k =>
        have : k.slot j = none := by rw [State.string, hk] at hs; exact hs
        dsimp only
        rw [this]
    rw [idle]
  | some u =>
    obtain ⟨k, hk, hu⟩ := Option.bind_eq_some_iff.mp hs
    have worked : (s.workedString i k j u (f u.defn u.age)).string c n = s.string c n := by
      obtain ⟨g, hg⟩ := raiseAge_onNotices (s.setCabinet i (some (k.setSlot j (some { u with age := (f u.defn u.age).age }))))
        k.defn.bus i j (f u.defn u.age).raised
      rw [State.workedString, hg]
      change (s.setCabinet i _).string c n = s.string c n
      by_cases e : c = i
      · subst e
        obtain ⟨h1, h2⟩ := State.cabinet_range hk
        rw [State.string, State.cabinet_setCabinet_same s h1 h2, State.string, hk]
        exact Cabinet.slot_setSlot_other k (fun e => h ⟨rfl, e.symm⟩) _
      · rw [State.string, State.cabinet_setCabinet_other s e, State.string]
    rcases ageString_eq hk hu f with e | e <;> rw [e]
    · exact worked
    · exact worked

end Sys2Proof.Machine

namespace Sys2Proof.Machine

/-! ### A record begun anew (R93) -/

/-- The record of a string declared replaced at an uptime (R93). -/
structure AgeRec.Anew (now : Nat) (d : StringRec) (a : AgeRec) : Prop where
  calendarWear : a.calendarWear = 0
  cycleCharge : a.cycleCharge = 0
  lastImpedance : a.lastImpedance = 0
  baseline : a.baseline = 0
  counterBase : a.counterBase = none
  lastTest : a.lastTest = none
  window : a.window = []
  history : a.history = []
  baselinePending : a.baselinePending = true
  ageingLost : a.ageingLost = false
  state : a.state = .float
  remainingDays : a.remainingDays = 65535
  health : a.health = 100
  energy : a.energy = d.energy
  lastAccrual : a.lastAccrual = now

/-- Both recomputations on a record that R93 has set back. -/
theorem anew_of_replaced {d : StringRec} (hl : 0 < d.designLife) {a : AgeRec} {now : Nat} (ha : a.lastAccrual = now) :
    (bothRecomputes d a.replaced).age.Anew now d := by
  rw [bothRecomputes_age, derive_unworn hl rfl rfl rfl rfl]
  exact ⟨rfl, rfl, rfl, rfl, rfl, rfl, rfl, rfl, rfl, rfl, rfl, remainingDaysOf_unworn hl, rfl, rfl, ha⟩

theorem accrue_age (now : Nat) (d : StringRec) (a : AgeRec) :
    (accrue now d a).age =
      let x := AgeRec.derive d { a.addCalendar now a.lastFactor with tempUnknown := a.tempUnknown || a.lastTemperature.isNone }
      { x with impFlagged := decide (x.impHealth ≤ d.alarmLevel) } := by
  rw [accrue, healthRecompute, impedanceCheck_age]

theorem accrue_lastAccrual (now : Nat) (d : StringRec) (a : AgeRec) : (accrue now d a).age.lastAccrual = now := by
  rw [accrue_age]
  rfl

/-- An accrual at the same uptime adds nothing to a record begun anew. -/
theorem accrue_anew {d : StringRec} (hl : 0 < d.designLife) {a : AgeRec} {now : Nat} (h : a.Anew now d) :
    (accrue now d a).age.Anew now d := by
  have wear : (a.addCalendar now a.lastFactor).calendarWear = 0 := by
    simp [AgeRec.addCalendar, h.calendarWear, h.lastAccrual, saturate]
  have derived := derive_unworn (a := { a.addCalendar now a.lastFactor with
    tempUnknown := a.tempUnknown || a.lastTemperature.isNone }) hl wear h.cycleCharge h.baseline h.state
  rw [accrue_age, derived]
  exact ⟨wear, h.cycleCharge, h.lastImpedance, h.baseline, h.counterBase, h.lastTest, h.window, h.history, h.baselinePending,
    h.ageingLost, h.state, h.remainingDays, rfl, rfl, rfl⟩

/-- A string whose record was begun anew at the present uptime, under settings `d`. -/
def State.AnewAt (s : State) (c n : Nat) (d : StringRec) : Prop :=
  ∃ x, s.string c n = some x ∧ x.defn = d ∧ x.age.Anew s.now d

theorem State.AgedFrom.now {s t : State} (h : s.AgedFrom t) : t.now = s.now := by
  obtain ⟨v, q, r, rfl⟩ := h
  rfl

/-- An accrual of every string leaves a record begun anew at the same uptime as it is. -/
theorem accrueAll_anewAt {s : State} {c n : Nat} {d : StringRec} (hl : 0 < d.designLife) (h : s.AnewAt c n d) :
    s.accrueAll.AnewAt c n d := by
  refine forStrings_keeps (fun t => t.AnewAt c n d) (fun t i j ht => ?_) h
  obtain ⟨x, hx, hd, ha⟩ := ht
  have now := (agedFrom_ageString t i j (accrue t.now)).now
  by_cases e : i = c ∧ j = n
  · obtain ⟨rfl, rfl⟩ := e
    refine ⟨_, ageString_string hx _, hd, ?_⟩
    rw [now]
    dsimp only
    rw [hd]
    exact accrue_anew hl ha
  · refine ⟨x, (ageString_string_other e _).trans hx, hd, ?_⟩
    rw [now]
    exact ha

/-! ### An ageing save requested (R186) -/

/-- A save requested while no warm start is awaited is being written after it; beside the image store it can accrue the strings
and draw a free value. -/
theorem requestAgeingSave_eq {s : State} (h : s.host.restartWaiting = false) :
    ∃ x i n, (x = s.accrueAll ∨ x = s) ∧ s.requestAgeingSave = { x with ims := i, freeCount := n } ∧ i.ageingSave ≠ .idle := by
  unfold State.requestAgeingSave
  rw [h]
  cases hs : s.ims.ageingSave with
  | idle =>
    obtain ⟨x, hx⟩ : ∃ x, s.accrueAll = x := ⟨_, rfl⟩
    simp only [State.beginAgeingSave, hx]
    exact ⟨x, _, _, .inl rfl, rfl, fun h => nomatch h⟩
  | saving x again =>
    refine ⟨s, { s.ims with ageingSave := s.ims.ageingSave.coalesce }, s.freeCount, .inr rfl, rfl, ?_⟩
    rw [hs]
    simp [SaveState.coalesce]

/-! ### The visit table by its slots (R149) -/

/-- No other slot holds a visit of that id. -/
def State.OnlyVisit (s : State) (place : Fin 8) (v : Visit) : Prop :=
  s.vct.slots[place] = some v ∧ ∀ (i : Fin 8) w, s.vct.slots[i] = some w → w.id = v.id → i = place

theorem visit_of_slot {s : State} {place : Fin 8} {v : Visit} (h : s.OnlyVisit place v) : s.visit v.id = some v := by
  obtain ⟨hp, only⟩ := h
  have mem : ∀ w, w ∈ s.visits ↔ ∃ i : Fin 8, s.vct.slots[i] = some w := by
    intro w
    simp only [State.visits, List.mem_filterMap, id, exists_eq_right, Vector.mem_toList_iff, Vector.mem_iff_getElem]
    exact ⟨fun ⟨i, hi, e⟩ => ⟨⟨i, hi⟩, e⟩, fun ⟨i, e⟩ => ⟨i.val, i.isLt, e⟩⟩
  cases hf : s.visit v.id with
  | none =>
    have := List.find?_eq_none.mp hf v ((mem v).mpr ⟨place, hp⟩)
    simp at this
  | some w =>
    obtain ⟨i, hi⟩ := (mem w).mp (List.mem_of_find?_eq_some hf)
    have id : w.id = v.id := by simpa using List.find?_some hf
    rw [only i w hi id, hp] at hi
    rw [hi]

/-- A change of the visit of an id is a change of its slot. -/
theorem onVisit_of_slot {s : State} {place : Fin 8} {v : Visit} (h : s.OnlyVisit place v) (f : Visit → Visit) :
    s.onVisit v.id f = s.onVct fun t => { t with slots := t.slots.set place (some (f v)) } := by
  obtain ⟨hp, only⟩ := h
  have slots : (s.vct.slots.map fun o => o.map fun w => if w.id = v.id then f w else w) =
      s.vct.slots.set place (some (f v)) := by
    ext i hi : 1
    rw [Vector.getElem_map]
    by_cases e : place.val = i
    · subst e
      rw [Vector.getElem_set_self]
      change Option.map _ s.vct.slots[place] = _
      rw [hp]
      simp
    · rw [Vector.getElem_set_ne _ _ e]
      cases hw : s.vct.slots[i] with
      | none => rfl
      | some w =>
        have : w.id ≠ v.id := fun id => e (congrArg Fin.val (only ⟨i, hi⟩ w hw id)).symm
        simp [this]
  rw [State.onVisit, State.onVct, State.onVct, slots]

/-- The changed visit is again the only one of its id. -/
theorem onlyVisit_set {s : State} {place : Fin 8} {v : Visit} (h : s.OnlyVisit place v) {t : State} {w : Visit}
    (ht : t.vct.slots = s.vct.slots.set place (some w)) (hw : w.id = v.id) : t.OnlyVisit place w := by
  refine ⟨by rw [ht]; simp, fun i x hx id => ?_⟩
  rw [ht] at hx
  by_contra e
  have ne : ¬ place.val = i.val := fun h => e (Fin.ext h.symm)
  have hx : s.vct.slots[i] = some x := by simpa [Vector.getElem_set_ne _ _ ne] using hx
  exact e (h.2 i x hx (id.trans hw))

end Sys2Proof.Machine

namespace Sys2Proof.Machine

/-! ### The replacement of a string (R93, R157) -/

/-- An image names the settings of the strings, not their records. -/
theorem image_setSlot_congr (k : Cabinet) (n : Nat) {u v : StringUnit} (h : u.defn = v.defn) :
    (k.setSlot n (some u)).image = (k.setSlot n (some v)).image := by
  unfold Cabinet.setSlot
  split
  · rfl
  · simp [Cabinet.image, Vector.map_setIfInBounds, h]

/-- Cabinets of one image are stored alike, as far as no signal changes them. -/
theorem outer_setCabinet_congr {s t : State} (h : s.outer = t.outer) (c : Nat) {k j : Cabinet} (hi : k.image = j.image) :
    (s.setCabinet c (some k)).outer = (t.setCabinet c (some j)).outer := by
  unfold State.setCabinet
  split
  · exact h
  · have e : ∀ (x : State) (k : Cabinet), (x.onCabinets fun v => v.setIfInBounds (c - 1) (some k)).outer =
        { x.outer with cabinets := x.outer.cabinets.setIfInBounds (c - 1) (some k.image) } := by
      intro x k
      simp [State.outer, Vector.map_setIfInBounds]
    rw [e, e, h, hi]

theorem triggerCabinet_string (s : State) (i c n : Nat) : (s.triggerCabinet i).string c n = s.string c n := by
  unfold State.triggerCabinet
  split <;> rfl

theorem outer_triggerCabinet (s : State) (c : Nat) : (s.triggerCabinet c).outer = s.outer := by
  unfold State.triggerCabinet
  split <;> rfl

/-- A replacement up to its ageing save: the record begun anew under the settings `d`. -/
theorem replaceString_anew {s : State} {c n : Nat} {k : Cabinet} {u : StringUnit} (hk : s.cabinet c = some k)
    (hu : k.slot n = some u) {d : StringRec} (hl : 0 < d.designLife) :
    ∃ y, s.replaceString c n (some d) = y.requestAgeingSave ∧ s.AgedFrom y ∧ y.AnewAt c n d ∧
      y.outer = (s.onCabinet c fun x => x.setSlot n (some { u with defn := d })).outer := by
  obtain ⟨h1, h4⟩ := Cabinet.slot_range hu
  obtain ⟨c1, c24⟩ := State.cabinet_range hk
  let a := s.ageString c n (accrue s.now)
  let j := k.setSlot n (some { u with age := (accrue s.now u.defn u.age).age })
  let v : StringUnit := { u with defn := d, age := (accrue s.now u.defn u.age).age }
  let b := a.setCabinet c (some (j.setSlot n (some v)))
  let f := fun (d : StringRec) (a : AgeRec) => bothRecomputes d a.replaced
  let y := (b.ageString c n f).triggerCabinet c
  have hj : a.cabinet c = some j := ageString_cabinet hk hu _
  have hju : j.slot n = some { u with age := (accrue s.now u.defn u.age).age } := Cabinet.slot_setSlot_same k h1 h4 _
  have stored : b.cabinet c = some (j.setSlot n (some v)) := State.cabinet_setCabinet_same a c1 c24 _
  have slot : (j.setSlot n (some v)).slot n = some v := Cabinet.slot_setSlot_same j h1 h4 _
  have aged : s.AgedFrom y := (((agedFrom_ageString s c n _).trans (agedFrom_setCabinet a c _)).trans
    (agedFrom_ageString b c n f)).trans (agedFrom_triggerCabinet _ c)
  refine ⟨y, ?_, aged, ⟨{ v with age := (f d v.age).age }, ?_, rfl, ?_⟩, ?_⟩
  · unfold State.replaceString
    dsimp only
    rw [State.onCabinet_eq hj, hju]
    rfl
  · rw [triggerCabinet_string]
    exact ageString_string (by rw [State.string, stored]; exact slot) f
  · rw [aged.now]
    exact anew_of_replaced hl (accrue_lastAccrual ..)
  · have image : (j.setSlot n (some v)).image = (k.setSlot n (some { u with defn := d })).image := by
      rw [Cabinet.setSlot_setSlot]
      exact image_setSlot_congr k n rfl
    rw [outer_triggerCabinet, outer_ageString, State.onCabinet_eq hk]
    exact outer_setCabinet_congr (outer_ageString s c n _) c image

/-- `t` differs from `s` in the cabinets, the notices, the triggers, the image store and the free values alone. -/
def State.SavedFrom (s t : State) : Prop :=
  ∃ v q r i f, t = { s with cabinets := v, notices := q, triggers := r, ims := i, freeCount := f }

/-- A replacement with its ageing save. -/
theorem replaceString_spec {s : State} {c n : Nat} {k : Cabinet} {u : StringUnit} (hk : s.cabinet c = some k)
    (hu : k.slot n = some u) {d : StringRec} (hl : 0 < d.designLife) (hw : s.host.restartWaiting = false) :
    let t := s.replaceString c n (some d)
    s.SavedFrom t ∧ t.AnewAt c n d ∧ t.ims.ageingSave ≠ .idle ∧
      t.outer = (s.onCabinet c fun x => x.setSlot n (some { u with defn := d })).outer := by
  obtain ⟨y, same, aged, anew, outer⟩ := replaceString_anew hk hu hl
  intro t
  have ht : t = y.requestAgeingSave := same
  have hyw : y.host.restartWaiting = false := by
    obtain ⟨v, q, r, rfl⟩ := aged
    exact hw
  obtain ⟨x, i, f, hx, hr, hi⟩ := requestAgeingSave_eq hyw
  have agedX : s.AgedFrom x := by
    rcases hx with h | h <;> rw [h]
    · exact aged.trans (agedFrom_accrueAll y)
    · exact aged
  have anewX : x.AnewAt c n d := by
    rcases hx with h | h <;> rw [h]
    · exact accrueAll_anewAt hl anew
    · exact anew
  refine ⟨?_, ?_, ?_, ?_⟩
  · obtain ⟨v, q, r, rfl⟩ := agedX
    exact ⟨v, q, r, i, f, by rw [ht, hr]⟩
  · rw [ht, hr]
    exact anewX
  · rw [ht, hr]
    exact hi
  · rw [ht, outer_requestAgeingSave, outer]

/-! ### DECLARE_REPLACED (R157) -/

/-- The rated values that a DECLARE_REPLACED leaves, and whether one was moved. -/
def ratedAfter (rated : List Byte) (d : StringRec) : StringRec × Bool :=
  if rated = [] then (d, false) else ratedOperand rated 0 d

/-- The body of a DECLARE_REPLACED in its short or its long form. -/
def replacedBody (visit c n : Nat) (rated : List Byte) : List Byte :=
  [BitVec.ofNat 8 visit, BitVec.ofNat 8 c, BitVec.ofNat 8 n] ++ rated

theorem replacedBody_fields {visit c n : Nat} (hv : visit ≤ 255) (hc : c ≤ 24) (hn : n ≤ 4) (rated : List Byte) :
    field (replacedBody visit c n rated) 0 1 = visit ∧ field (replacedBody visit c n rated) 1 1 = c ∧
      field (replacedBody visit c n rated) 2 1 = n := by
  simp [replacedBody, field, quantity]
  omega

/-- The rated values stand behind the visit, the cabinet and the slot. -/
theorem ratedOperand_body (visit c n : Nat) (rated : List Byte) (d : StringRec) :
    ratedOperand (replacedBody visit c n rated) 3 d = ratedOperand rated 0 d := by
  have shift := fun offset m => field_append [BitVec.ofNat 8 visit, BitVec.ofNat 8 c, BitVec.ofNat 8 n] rated offset m
  unfold ratedOperand replacedBody
  rw [show (3 : Nat) = [BitVec.ofNat 8 visit, BitVec.ofNat 8 c, BitVec.ofNat 8 n].length + 0 from rfl]
  simp only [Nat.add_assoc, shift]

theorem rated_body {visit c n : Nat} {rated : List Byte} (h : rated = [] ∨ rated.length = 10) (d : StringRec) :
    (if (replacedBody visit c n rated).length = 13 then ratedOperand (replacedBody visit c n rated) 3 d else (d, false)) =
      ratedAfter rated d := by
  unfold ratedAfter
  rw [ratedOperand_body]
  rcases h with rfl | h
  · rfl
  · have : rated ≠ [] := by rintro rfl; simp at h
    rw [if_neg this, if_pos (by simp [replacedBody, h])]

/-- A host-direct DECLARE_REPLACED of a defined string is refused AUTHORITY. -/
theorem handleDeclareReplaced_host {s : State} (hc : s.configured = true) {c n : Nat} {u : StringUnit}
    (hs : s.string c n = some u) (h24 : c ≤ 24) (h4 : n ≤ 4) {rated : List Byte} (hr : rated = [] ∨ rated.length = 10) :
    handleDeclareReplaced s (replacedBody 0 c n rated) = refuse s .authority := by
  obtain ⟨f0, f1, f2⟩ := replacedBody_fields (Nat.zero_le 255) h24 h4 rated
  have sized : ((replacedBody 0 c n rated).length == 3 || (replacedBody 0 c n rated).length == 13) = true := by
    rcases hr with rfl | hr
    · rfl
    · simp [replacedBody, hr]
  unfold handleDeclareReplaced
  dsimp only
  rw [f0, f1, f2, sized, hs]
  simp [checked, firstFailing, State.configuredCheck, hc, State.visitNamed, State.replaceAuthority]

/-- A DECLARE_REPLACED on behalf of a visit that may declare it, of a string of a cabinet that is out. -/
theorem handleDeclareReplaced_visit {s : State} (hc : s.configured = true) {c n : Nat} {u : StringUnit}
    (hs : s.string c n = some u) (h24 : c ≤ 24) (h4 : n ≤ 4) {rated : List Byte} (hr : rated = [] ∨ rated.length = 10)
    {v : Visit} (h1 : 1 ≤ v.id) (h255 : v.id ≤ 255) (hv : s.visit v.id = some v)
    (hstate : v.state = .active ∨ v.state = .overdue) (hscope : c ∈ v.scope)
    (hlevel : v.level = .battery ∨ v.level = .supervise) (ht : s.test.phase = .idle)
    (hout : s.tracked c = some .standby ∨ s.tracked c = some .isolated)
    (hroom : v.replaced.length < 8 ∨ (c, n) ∈ v.replaced) :
    handleDeclareReplaced s (replacedBody v.id c n rated) =
      (let d := ratedAfter rated u.defn
       let t := ((s.onVisit v.id fun v => v.declare c n).replaceString c n (some d.1)).countAction v.id
       (t.push [.meet],
         { status := okStatus d.2,
           rest := octets 1 c ++ octets 1 n ++ octets 1 (((t.visit v.id).map fun v => v.replaced.length).getD 0) ++
             d.1.ratedOctets })) := by
  obtain ⟨f0, f1, f2⟩ := replacedBody_fields h255 h24 h4 rated
  have sized : ((replacedBody v.id c n rated).length == 3 || (replacedBody v.id c n rated).length == 13) = true := by
    rcases hr with rfl | hr
    · rfl
    · simp [replacedBody, hr]
  have authority : s.replaceAuthority v.id c = (true, .ok) := by
    have level : ¬ v.level.code < Level.battery.code := by rcases hlevel with h | h <;> rw [h] <;> decide
    have state : ¬ (v.state = .booked ∨ v.state = .closing ∨ v.state = .closed) := by
      rcases hstate with h | h <;> rw [h] <;> decide
    have scope : ¬ ∃ x ∈ [c], x ∉ v.scope := by simpa using hscope
    rw [State.replaceAuthority, if_neg (by omega), State.authorityCheck, authorise_visit _ _ (by omega) hv, if_neg state,
      if_neg scope, if_neg level]
  unfold handleDeclareReplaced
  dsimp only
  rw [f0, f1, f2, sized, hs]
  dsimp only
  rw [rated_body hr, authority, checked_pass (by simp [State.configuredCheck, hc]), checked_pass]
  simp [State.visitNamed, hv, ht, State.testNames, hroom.symm, hout]

end Sys2Proof.Machine

namespace Sys2Proof.Machine

/-! ### What the meeting of triggers leaves as it was -/

theorem recompute_frame (s : State) (b : Bus) : ∃ u q, s.recompute b = { s with buses := u, notices := q } := by
  unfold State.recompute
  split
  · exact ⟨_, _, rfl⟩
  · unfold State.raiseBus
    dsimp only
    split_ifs <;> exact ⟨_, _, rfl⟩

theorem met_frame (s : State) : ∃ u q r, s.met = { s with buses := u, notices := q, triggers := r } := by
  have one : ∀ (l : List Bus) (s : State), ∃ u q r, l.foldl State.metAt s = { s with buses := u, notices := q, triggers := r } := by
    intro l
    induction l with
    | nil => exact fun s => ⟨_, _, _, rfl⟩
    | cons b l ih =>
      intro s
      obtain ⟨u, q, r, h⟩ : ∃ u q r, s.metAt b = { s with buses := u, notices := q, triggers := r } := by
        unfold State.metAt
        split
        · obtain ⟨u, q, h⟩ := recompute_frame (s.onTriggers fun v => v.set b false) b
          exact ⟨u, q, _, h⟩
        · exact ⟨_, _, _, rfl⟩
      obtain ⟨u', q', r', g⟩ := ih (s.metAt b)
      exact ⟨u', q', r', by rw [List.foldl_cons, g, h]⟩
  exact one busList s

theorem outer_met (s : State) : s.met.outer = s.outer := by
  refine outer_foldl _ (fun s b => ?_) _ _
  unfold State.metAt
  split
  · rw [outer_recompute, outer_onTriggers]
  · rfl

theorem declare_id (v : Visit) (c n : Nat) : (v.declare c n).id = v.id := by
  unfold Visit.declare
  split <;> rfl

/-- The visit that has declared a string replaced, and the action counted. -/
theorem declare_counted (v : Visit) (c n : Nat) :
    { v.declare c n with actions := saturate 65535 ((v.declare c n).actions + 1) } =
      { v with replaced := if (c, n) ∈ v.replaced then v.replaced else v.replaced ++ [(c, n)],
               actions := min (v.actions + 1) 65535 } := by
  unfold Visit.declare
  by_cases h : (c, n) ∈ v.replaced
  · simp [h, saturate]
  · simp [h, saturate]

theorem ratedAfter_eq (rated : List Byte) (d : StringRec) :
    (ratedAfter rated d).1 = if rated = [] then d else
      { d with capacity := clampTo 1 5000 (field rated 0 2), energy := clampTo 100 2000000 (field rated 2 4),
               designLife := clampTo 365 7300 (field rated 6 2), cycles := clampTo 10 5000 (field rated 8 2) } := by
  unfold ratedAfter
  split <;> rfl

theorem ratedAfter_moved (rated : List Byte) (d : StringRec) :
    (ratedAfter rated d).2 = false ↔ rated = [] ∨
      [field rated 0 2, field rated 2 4, field rated 6 2, field rated 8 2] =
        [clampTo 1 5000 (field rated 0 2), clampTo 100 2000000 (field rated 2 4), clampTo 365 7300 (field rated 6 2),
          clampTo 10 5000 (field rated 8 2)] := by
  unfold ratedAfter
  split
  next h => simp [h]
  next h =>
    have moved := fun low high value => (clamp_moved_false low high value).trans eq_comm
    simp only [ratedOperand, Nat.zero_add, Bool.or_eq_false_iff, moved, h, false_or, List.cons.injEq, and_true, and_assoc]

theorem ratedAfter_designLife {rated : List Byte} {d : StringRec} (h : 0 < d.designLife) : 0 < (ratedAfter rated d).1.designLife := by
  rw [ratedAfter_eq]
  split
  · exact h
  · simp only [clampTo]
    omega

/-- Settles O39: the visit's slot, then the string begun anew, then the meeting of triggers, which touches neither. -/
theorem replacementBeginsTheRecordAnew : Obligations.ReplacementBeginsTheRecordAnew := by
  intro tag rated v place c n k u s hr hc hk hu hl hrated given capacity energy life cycles d
  have c24 := (State.cabinet_range hk).2
  have n4 := (Cabinet.slot_range hu).2
  have hs : s.string c n = some u := by rw [State.string, hk]; exact hu
  have short : ∀ visit, (replacedBody visit c n rated).length ≤ 120 := by
    intro visit
    rcases hrated with rfl | h <;> simp [replacedBody, *]
  refine ⟨request_refused (k := .declareReplaced) hr (short 0) (handleDeclareReplaced_host hc hs c24 n4 hrated), ?_⟩
  intro h1 h255 hplace hunique hstate hscope hlevel ht hout hroom hn
  have only : s.OnlyVisit place v := ⟨hplace, hunique⟩
  have tracked : s.tracked c = some .standby ∨ s.tracked c = some .isolated := by
    simpa [State.tracked, hk] using hout
  have settings : (ratedAfter rated u.defn).1 = d := ratedAfter_eq rated u.defn
  have status := okStatus_eq (ratedAfter_moved rated u.defn)
  have lifeD : 0 < d.designLife := settings ▸ ratedAfter_designLife hl
  let w : Visit := { v with replaced := if (c, n) ∈ v.replaced then v.replaced else v.replaced ++ [(c, n)],
                            actions := min (v.actions + 1) 65535 }
  let s0 := s.onVct fun t => { t with slots := t.slots.set place (some (v.declare c n)) }
  have declared : s.onVisit v.id (fun v => v.declare c n) = s0 := onVisit_of_slot only _
  obtain ⟨saved, anew, saving, outer⟩ := replaceString_spec (s := s0) hk hu lifeD hr.2.2.2.2.2
  have only0 : s0.OnlyVisit place (v.declare c n) := onlyVisit_set only rfl (declare_id v c n)
  obtain ⟨t0, ht0⟩ : ∃ t0, s0.replaceString c n (some d) = t0 := ⟨_, rfl⟩
  rw [ht0] at saved anew saving outer
  obtain ⟨cabinets, q, r, i, f, frame⟩ := saved
  have onlyT : t0.OnlyVisit place (v.declare c n) := by rw [frame]; exact only0
  let pre := t0.onVct fun t => { t with slots := t.slots.set place (some w) }
  have counted : t0.countAction v.id = pre := by
    rw [State.countAction, if_neg (by omega), ← declare_id v c n, onVisit_of_slot onlyT, declare_counted]
  have onlyW : pre.OnlyVisit place w := onlyVisit_set onlyT rfl (declare_id v c n).symm
  have listed : pre.visit v.id = some w := visit_of_slot onlyW
  have taken : handleKind .declareReplaced s (replacedBody v.id c n rated) = (pre.push [.meet],
      { status := okStatus (ratedAfter rated u.defn).2,
        rest := octets 1 c ++ octets 1 n ++ octets 1 w.replaced.length ++ d.ratedOctets }) := by
    have := handleDeclareReplaced_visit hc hs c24 n4 hrated h1 h255 (visit_of_slot only) hstate hscope hlevel.symm.symm ht
      tracked hroom
    dsimp only at this
    rw [settings, declared, ht0, counted, listed] at this
    exact this
  have vct : pre.vct = { s.vct with slots := s.vct.slots.set place (some w) } := by
    simp [pre, frame, s0, State.onVct]
  have done := request_meets (tag := tag) hr (short v.id) taken (by simpa [pre, frame, s0] using hr.1.1.2)
    (by simpa [pre, frame, s0] using hr.1.2.1) (by simpa [pre, frame, s0, State.NoTransfers, State.seqOf] using hn)
  obtain ⟨x, hx, hd, age⟩ := anew
  have outerMet : pre.met.outer = (s.onCabinet c fun y => y.setSlot n (some { u with defn := d })).outer := by
    rw [outer_met, outer_onVct t0 _ rfl rfl, outer, State.onCabinet_eq hk, State.onCabinet_eq (s := s0) hk]
    exact outer_setCabinet_congr (outer_onVct s _ rfl rfl) c rfl
  have rest : octets 1 c ++ octets 1 n ++ octets 1 w.replaced.length ++ d.ratedOctets =
      [BitVec.ofNat 8 c, BitVec.ofNat 8 n] ++ octets 1 w.replaced.length ++ octets 2 d.capacity ++ octets 4 d.energy ++
        octets 2 d.designLife ++ octets 2 d.cycles := by
    simp [octets_one, StringRec.ratedOctets]
  dsimp only at done
  rw [status, rest] at done
  have reply := outer_answered outerMet 0x44#8 tag
    (if rated = [] ∨ given = [capacity, energy, life, cycles] then .ok else .okClamped)
    ([BitVec.ofNat 8 c, BitVec.ofNat 8 n] ++ octets 1 w.replaced.length ++ octets 2 d.capacity ++ octets 4 d.energy ++
        octets 2 d.designLife ++ octets 2 d.cycles)
  obtain ⟨units, notices, triggers, met⟩ := met_frame pre
  have kept : pre.met.vct = pre.vct ∧ pre.met.cabinets = t0.cabinets ∧ pre.met.ims = t0.ims ∧ pre.met.scs = s.scs ∧
      pre.met.clc = s.clc ∧ pre.met.par = s.par ∧ pre.met.test = s.test ∧ pre.met.clock = s.clock := by
    rw [met]
    simp [pre, frame, s0]
  obtain ⟨kvct, kcab, kims, kscs, kclc, kpar, ktest, kclock⟩ := kept
  have string : pre.met.string c n = some x := by
    rw [← hx]
    unfold State.string State.cabinet
    rw [kcab]
  have saves : pre.met.ims.ageingSave ≠ .idle := by rw [kims]; exact saving
  generalize pre.met = m at *
  refine ⟨_, w, x, done, ?_⟩
  exact ⟨kvct.trans vct, rfl, string, hd, age.calendarWear, age.cycleCharge, age.lastImpedance, age.baseline,
    age.counterBase, age.lastTest, age.window, age.history, age.baselinePending, age.ageingLost, age.state, age.remainingDays,
    age.health, age.energy, saves, kscs, kclc, kpar, ktest, kclock, reply⟩

end Sys2Proof.Machine

namespace Sys2Proof.Machine

/-! ### The transfer queue of a bus (R138) -/

theorem onQueue_onQueue (s : State) (b : Bus) (f g : TransferQueue → TransferQueue) :
    (s.onQueue b f).onQueue b g = s.onQueue b fun q => g (f q) := by
  simp [State.onQueue, State.onPar]

/-- Entries leave the queue of a bus, and a command in hand of theirs is used for nothing. -/
theorem dequeue_voidInHand (s : State) (b : Bus) (gone : TransferEntry → Bool) :
    (s.dequeue b gone).voidInHand b gone = s.onQueue b fun q =>
      { priority := q.priority.filter fun e => !gone e, ordinary := q.ordinary.filter fun e => !gone e,
        inHand := q.inHand.map fun h => if gone h.entry = true then { h with used := false } else h,
        spacingDue := q.spacingDue } :=
  onQueue_onQueue s b _ _

/-- What a cabinet that is undefined or leaves its bus takes from the bus's queue (R138). -/
theorem dropTransfers_eq (s : State) (b : Bus) (c : Nat) :
    s.dropTransfers b c = s.onQueue b fun q =>
      { priority := q.priority.filter fun e => e.cabinet != c, ordinary := q.ordinary.filter fun e => e.cabinet != c,
        inHand := q.inHand.map fun h => if h.entry.cabinet = c then { h with used := false } else h,
        spacingDue := q.spacingDue } := by
  unfold State.dropTransfers
  rw [dequeue_voidInHand]
  simp [bne]

/-! ### UNDEFINE (R13 to R15) -/

/-- No permit is live and no test runs: neither names a cabinet. -/
theorem nothing_names {s : State} (hp : s.par.permits = []) (ht : s.test.phase = .idle) (c : Nat) :
    s.permitNames c = false ∧ s.testNames c = false := by
  simp [State.permitNames, State.testNames, hp, ht]

/-- No permit is live and every sequencer is NORMAL: no bypass keeps a bus. -/
theorem noTransfers_bypass {s : State} (h : s.NoTransfers) (b : Bus) (c : Nat) :
    s.bypassBusy b = false ∧ s.inPreparedSet b c = false := by
  simp [State.bypassBusy, State.inPreparedSet, State.hasBypass, h.1, h.2 b]

theorem undefineSlot_eq {s : State} {c : Nat} {k : Cabinet} (hk : s.cabinet c = some k) (n : Nat) :
    s.undefineSlot c n =
      ((s.dropEntries fun e => e.cabinet == c && e.point.slot == some n).setCabinet c (some (k.setSlot n none))).trigger
        k.defn.bus := by
  obtain ⟨c1, c24⟩ := State.cabinet_range hk
  unfold State.undefineSlot
  dsimp only
  rw [State.onCabinet_eq (s := s.dropEntries _) hk, triggerCabinet_eq (State.cabinet_setCabinet_same _ c1 c24 _),
    Cabinet.setSlot_defn]

theorem handleUndefineString_host {s : State} {c n : Nat} {k : Cabinet} (hk : s.cabinet c = some k)
    (hs : (k.slot n).isSome) (hlock : s.lockOf c = none) (hp : s.par.permits = []) (ht : s.test.phase = .idle) :
    handleUndefineString s 0 c n = ((s.undefineSlot c n).push [.meet], { status := .ok, rest := [] }) := by
  obtain ⟨permit, test⟩ := nothing_names hp ht c
  have named : s.stringNamed c n = true := by rw [State.stringNamed, State.string, hk]; exact hs
  unfold handleUndefineString
  rw [permit, test, named, authorityCheck_host _ (by simpa using hlock)]
  exact checked_pass (by simp [State.visitNamed])

theorem handleUndefineCabinet_host {s : State} {c : Nat} {k : Cabinet} (hk : s.cabinet c = some k)
    (hlock : s.lockOf c = none) (hn : s.NoTransfers) (ht : s.test.phase = .idle)
    (hv : ∀ v ∈ s.visits, v.state ≠ .closed → c ∉ v.scope) :
    handleUndefineCabinet s 0 c = ((s.undefineCabinet c k).push [.meet], { status := .ok, rest := [] }) := by
  obtain ⟨permit, test⟩ := nothing_names hn.1 ht c
  obtain ⟨busy, prepared⟩ := noTransfers_bypass hn k.defn.bus c
  have scopes : (s.visits.any fun v => v.state != .closed && v.scope.contains c) = false := by
    simpa [List.any_eq_false] using hv
  have free : s.undefineRefused c k = false := by
    rw [State.undefineRefused, permit, test, busy, prepared, scopes]
    simp
  unfold handleUndefineCabinet
  rw [hk]
  dsimp only
  rw [free, authorityCheck_host _ (by simpa using hlock)]
  exact checked_pass (by simp [State.visitNamed])

theorem handleUndefineBus_host {s : State} {b : Bus} (hb : (s.bus b).isSome) (hc : s.cabinetsOf b = [])
    (hbusy : s.bypassBusy b = false) :
    handleUndefineBus s 0 b.val = ((s.undefineBus b).push [.meet], { status := .ok, rest := [] }) := by
  have named : busOperand b.val = some b := by simp [busOperand]
  unfold handleUndefineBus
  rw [named]
  dsimp only
  rw [hb, hc, hbusy, authorityCheck_host _ (by simp)]
  exact checked_pass (by simp [State.visitNamed])

/-- A bus without its waiting transfer commands (R15; logs 34 and 49). -/
theorem undefineBus_eq (s : State) (b : Bus) :
    s.undefineBus b =
      let gone := (s.setBus b none).onQueue b fun q =>
        { priority := [], ordinary := [], inHand := q.inHand.map fun h => { h with used := false }, spacingDue := none }
      if gone.configured then gone else gone.stopScan := by
  unfold State.undefineBus
  dsimp only
  rw [dequeue_voidInHand, onQueue_onQueue]
  simp

theorem configured_iff (s : State) : s.configured = true ↔ ∃ b, (s.bus b).isSome := by
  have all : ∀ b : Bus, b ∈ busList := by decide
  simp [State.configured, List.any_eq_true, all]

/-- Without cabinets there is nothing to accrue. -/
theorem accrueAll_bare {s : State} (h : s.definedCabinets = []) : s.accrueAll = s := by
  have none : ∀ c, s.cabinet c = none := by
    intro c
    cases hk : s.cabinet c with
    | none => rfl
    | some k =>
      obtain ⟨h1, h2⟩ := State.cabinet_range hk
      have := List.filterMap_eq_nil_iff.mp h c (by simp [cabinetIndices, List.mem_range'_1]; omega)
      simp [hk] at this
  refine forStrings_keeps (fun t => t = s) (fun t c n ht => ?_) rfl
  rw [ht, State.ageString, none]

/-- What the stop of the scanner does on a floor without cabinets (R16, R59). -/
theorem stopScan_bare {s : State} (h : s.definedCabinets = []) :
    ∃ scs clc, s.stopScan = { s with scs := scs, clc := clc } ∧ scs.scanner = .stopped ∧
      scs.pendingList = s.scs.pendingList ∧ scs.pendingTiming = s.scs.pendingTiming ∧ scs.round = s.scs.round ∧
      scs.totalRounds = s.scs.totalRounds ∧ scs.overruns = s.scs.overruns ∧ clc.link = s.clc.link ∧
      clc.slots = s.clc.slots ∧ clc.testSlot = s.clc.testSlot ∧
      (s.scs.scanner = .running → scs.active = carryOver s.scs.active s.scs.pendingList ∧ clc.scanQueue = []) ∧
      (s.scs.scanner ≠ .running → scs.active = s.scs.active ∧ clc = s.clc) := by
  unfold State.stopScan
  cases hs : s.scs.scanner with
  | stopped => exact ⟨s.scs, s.clc, rfl, hs, rfl, rfl, rfl, rfl, rfl, rfl, rfl, rfl, by simp, by simp⟩
  | delayed =>
    have bare := accrueAll_bare (s := s.onScs fun c => { c with scanner := .stopped, delayDue := none }) h
    dsimp only
    rw [bare]
    exact ⟨_, s.clc, rfl, rfl, rfl, rfl, rfl, rfl, rfl, rfl, rfl, rfl, by simp, by simp⟩
  | running =>
    dsimp only
    rw [accrueAll_bare]
    · exact ⟨_, _, rfl, rfl, rfl, rfl, rfl, rfl, rfl, rfl, rfl, rfl, by simp [Scs.applyPending], by simp⟩
    · exact h

/-- The target of an UNDEFINE selects the record (R5, Table 1-5). -/
theorem handleUndefine_bus (s : State) (operand last : Byte) :
    handleUndefine s [0#8, 1#8, operand, last] = handleUndefineBus s 0 operand.toNat := by
  simp [handleUndefine, field, quantity]

theorem handleUndefine_cabinet (s : State) (operand last : Byte) :
    handleUndefine s [0#8, 2#8, operand, last] = handleUndefineCabinet s 0 operand.toNat := by
  simp [handleUndefine, field, quantity]

theorem handleUndefine_string (s : State) (operand last : Byte) :
    handleUndefine s [0#8, 3#8, operand, last] = handleUndefineString s 0 operand.toNat last.toNat := by
  simp [handleUndefine, field, quantity]

theorem toNat_cabinet {s : State} {c : Nat} {k : Cabinet} (h : s.cabinet c = some k) : (BitVec.ofNat 8 c).toNat = c := by
  have := (State.cabinet_range h).2
  simp
  omega

/-- Settles O23: each removal read off, then the recomputation of the bus; a bus leaves no trigger. -/
theorem undefineRemovesStringCabinetAndBus : Obligations.UndefineRemovesStringCabinetAndBus := by
  refine ⟨?_, ?_, ?_⟩
  · intro tag c n k s hr hn ht hk hs hlock
    obtain ⟨u, hu⟩ := Option.isSome_iff_exists.mp hs
    have slot : (BitVec.ofNat 8 n).toNat = n := by
      have := (Cabinet.slot_range hu).2
      simp
      omega
    have taken := handleUndefine_string s (BitVec.ofNat 8 c) (BitVec.ofNat 8 n)
    rw [toNat_cabinet hk, slot, handleUndefineString_host hk hs hlock hn.1 ht, undefineSlot_eq hk] at taken
    exact request_recomputes (k := .undefine) hr (Nat.le_of_ble_eq_true rfl) taken
      (by simpa [State.dropEntries] using hr.1.1.2) (by simpa [State.dropEntries] using hr.1.2.1)
      (by simpa [State.dropEntries] using hr.1.2.2) (by simpa [State.dropEntries, State.NoTransfers, State.seqOf] using hn)
  · intro tag unused c k s hr hn ht hk hlock hv
    have taken := handleUndefine_cabinet s (BitVec.ofNat 8 c) unused
    rw [toNat_cabinet hk, handleUndefineCabinet_host hk hlock hn ht hv] at taken
    unfold State.undefineCabinet at taken
    dsimp only at taken
    rw [dropTransfers_eq] at taken
    refine request_recomputes (k := .undefine) hr (Nat.le_of_ble_eq_true rfl) taken
      (by simpa [State.dropEntries, State.onQueue] using hr.1.1.2) (by simpa [State.dropEntries, State.onQueue] using hr.1.2.1)
      (by simpa [State.dropEntries, State.onQueue] using hr.1.2.2) ?_
    simpa [State.dropEntries, State.NoTransfers, State.seqOf, State.onQueue] using hn
  · intro tag unused b s hr hb hc hp hq command gone
    have index : (BitVec.ofNat 8 b.val).toNat = b.val := by
      simp
      omega
    have empty : s.cabinetsOf b = [] := by
      simpa [State.cabinetsOf, List.filter_eq_nil_iff] using hc
    have free : s.bypassBusy b = false := by
      simpa [State.bypassBusy, State.hasBypass, List.any_eq_false, hq] using hp
    have taken := handleUndefine_bus s (BitVec.ofNat 8 b.val) unused
    rw [index, handleUndefineBus_host hb empty free, undefineBus_eq] at taken
    dsimp only at taken
    have others : ∀ x : Bus, gone.bus x = if x = b then none else s.bus x := by
      intro x
      by_cases e : x = b
      · subst e
        simp [gone, State.bus, State.setBus, State.onQueue]
      · have : ¬ b.val = x.val := fun h => e (Fin.ext h.symm)
        simp [gone, State.bus, State.setBus, State.onQueue, e, Vector.getElem_set_ne _ _ this]
    constructor
    · rintro ⟨other, hne, ho⟩
      have configured : gone.configured = true := (configured_iff gone).mpr ⟨other, by rw [others, if_neg hne]; exact ho⟩
      rw [if_pos configured] at taken
      exact request_met (k := .undefine) hr (Nat.le_of_ble_eq_true rfl) taken hr.1.1.2 hr.1.2.2
    · intro none bare
      have unconfigured : gone.configured = false := by
        rw [← Bool.not_eq_true, configured_iff]
        rintro ⟨x, hx⟩
        rw [others] at hx
        split at hx
        · cases hx
        next e => rw [none x e] at hx; cases hx
      rw [if_neg (by rw [Bool.not_eq_true]; exact unconfigured)] at taken
      obtain ⟨scs, clc, stopped, scanner, list, timing, round, total, overruns, link, slots, test, running, idle⟩ :=
        stopScan_bare (s := gone) bare
      rw [show _ = _ from stopped] at taken
      exact ⟨scs, clc, request_met (k := .undefine) hr (Nat.le_of_ble_eq_true rfl) taken hr.1.1.2 hr.1.2.2, scanner, list, timing,
        round, total, overruns, link, slots, test, running, idle, unconfigured⟩

end Sys2Proof.Machine

namespace Sys2Proof.Machine

/-! ### The body of DEFINE_CABINET (Table 1-3) -/

/-- The body of a host-direct DEFINE_CABINET. -/
def cabinetBody (c : Nat) (address : Byte) (b : Bus) (r1 r0 n : Byte) (master : Bool) (name : List Byte) : List Byte :=
  [0#8, BitVec.ofNat 8 c, address, BitVec.ofNat 8 b.val, r1, r0, n, if master then 1#8 else 0#8] ++ name

/-- The record that such a body describes, each setting held to its range. -/
def cabinetGiven (address : Byte) (b : Bus) (r1 r0 n : Byte) (master : Bool) (name : List Byte) : CabinetRec :=
  { address := address.toNat, bus := b, rating := clampTo 1 2000 (r1.toNat * 256 + r0.toNat), stringCount := min n.toNat 4,
    master := master, tag := name }

section
variable {c : Nat} {address : Byte} {b : Bus} {r1 r0 n : Byte} {master : Bool} {name : List Byte}

theorem cabinetBody_length (h : name.length = 8) : (cabinetBody c address b r1 r0 n master name).length = 16 := by
  simp [cabinetBody, h]

theorem cabinetBody_fields (h24 : c ≤ 24) :
    field (cabinetBody c address b r1 r0 n master name) 0 1 = 0 ∧
      field (cabinetBody c address b r1 r0 n master name) 1 1 = c ∧
      field (cabinetBody c address b r1 r0 n master name) 2 1 = address.toNat ∧
      field (cabinetBody c address b r1 r0 n master name) 3 1 = b.val ∧
      field (cabinetBody c address b r1 r0 n master name) 7 1 = master.toNat := by
  cases master <;> simp [cabinetBody, field, quantity] <;> omega

theorem cabinetOperand_given (h : name.length = 8) :
    (cabinetOperand (cabinetBody c address b r1 r0 n master name) b).1 = cabinetGiven address b r1 r0 n master name := by
  have tag : name.take 8 = name := List.take_of_length_le (by omega)
  cases master <;> simp [cabinetOperand, cabinetBody, cabinetGiven, field, quantity, clamp_value, clampTo_zero, tag]

theorem cabinetOperand_moved :
    (cabinetOperand (cabinetBody c address b r1 r0 n master name) b).2 = false ↔
      (cabinetGiven address b r1 r0 n master name).rating = r1.toNat * 256 + r0.toNat ∧
        (cabinetGiven address b r1 r0 n master name).stringCount = n.toNat := by
  simp [cabinetOperand, cabinetBody, cabinetGiven, field, quantity, clamp_moved_false, clampTo_zero]

/-- While no permit is live and every sequencer is NORMAL, no master is held. -/
theorem masterRefused_noTransfers {s : State} (hn : s.NoTransfers) (c : Nat) (new : CabinetRec) :
    s.masterRefused c new = false := by
  unfold State.masterRefused
  simp [(noTransfers_bypass hn _ c).1]

theorem cabinetRefused_noTransfers {s : State} (hn : s.NoTransfers) {c : Nat} (h : s.cabinet c = none ∨ s.test.phase = .idle)
    (new : CabinetRec) : s.cabinetRefused c new = false := by
  unfold State.cabinetRefused
  rw [masterRefused_noTransfers hn]
  cases hk : s.cabinet c with
  | none => rfl
  | some k =>
    have idle : s.test.phase = .idle := h.resolve_left (by rw [hk]; nofun)
    obtain ⟨permit, test⟩ := nothing_names hn.1 idle c
    simp [permit, test, (noTransfers_bypass hn k.defn.bus c).2]

/-- A host-direct DEFINE_CABINET that names its operands, touches no locked cabinet and takes no address of another. -/
theorem handleDefineCabinet_host {s : State} (hn : s.NoTransfers) (h1 : 1 ≤ c) (h24 : c ≤ 24) (ha : 1 ≤ address.toNat)
    (h31 : address.toNat ≤ 31) (hname : name.length = 8) (hb : (s.bus b).isSome) (hlock : s.lockOf c = none)
    (hearlier : ∀ m, master = true → s.masterOf b = some m → m ≠ c → s.lockOf m = none)
    (hheld : ∀ p ∈ s.definedCabinets, p.1 ≠ c → p.2.defn.address ≠ address.toNat)
    (ht : s.cabinet c = none ∨ s.test.phase = .idle) :
    let new := cabinetGiven address b r1 r0 n master name
    handleDefineCabinet s (cabinetBody c address b r1 r0 n master name) =
      ((s.defineCabinet c new).push [.meet],
        { status := if new.rating = r1.toNat * 256 + r0.toNat ∧ new.stringCount = n.toNat then .ok else .okClamped,
          rest := octets 1 c ++ new.octets ++ octets 1 (s.lostMaster c new) }) := by
  intro new
  obtain ⟨f0, f1, f2, f3, f7⟩ := cabinetBody_fields (c := c) (address := address) (b := b) (r1 := r1) (r0 := r0) (n := n)
    (master := master) (name := name) h24
  have named : busOperand b.val = some b := by simp [busOperand]
  have given : (cabinetOperand (cabinetBody c address b r1 r0 n master name) b).1 = new := cabinetOperand_given hname
  have free : (s.definedCabinets.any fun p => p.1 != c && p.2.defn.address == address.toNat) = false := by
    simpa [List.any_eq_false] using hheld
  have authority : s.authorityCheck 0
      (c :: if new.master then ((s.masterOf b).filter fun m => m != c).toList else []) .supervise = (true, .ok) := by
    refine authorityCheck_host _ fun m hm => ?_
    rcases List.mem_cons.mp hm with rfl | hm
    · exact hlock
    · split at hm
      next hmaster =>
        obtain ⟨found, ne⟩ := Option.filter_eq_some_iff.mp (Option.mem_toList.mp hm)
        exact hearlier m hmaster found (by simpa using ne)
      next => cases hm
  unfold handleDefineCabinet
  dsimp only
  rw [f0, f1, f2, f3, f7, named, cabinetBody_length hname]
  dsimp only
  rw [given, free, authority, cabinetRefused_noTransfers hn ht, okStatus_eq cabinetOperand_moved]
  have le : master.toNat ≤ 1 := by cases master <;> decide
  rw [checked_pass (by simp [h1, h24, ha, h31, hb, le, State.visitNamed]), checked_pass (by simp)]
  rfl

end

end Sys2Proof.Machine

namespace Sys2Proof.Machine

/-! ### A trigger raised under a condition -/

/-- A trigger raised where a condition holds. -/
def State.triggerIf (s : State) (p : Prop) [Decidable p] (b : Bus) : State := if p then s.trigger b else s

theorem triggerIf_triggerIf (s : State) (p q : Prop) [Decidable p] [Decidable q] (b : Bus) :
    (s.triggerIf p b).triggerIf q b = s.triggerIf (p ∨ q) b := by
  unfold State.triggerIf
  by_cases hp : p <;> by_cases hq : q <;> simp [hp, hq]

/-- A request that may raise the trigger of one bus, on a part without live permits and with every sequencer NORMAL. -/
theorem request_recomputes_if {s t : State} (h : s.Ready) {k : RequestKind} {tag : Byte} {body : List Byte} {r : Reply} {b : Bus}
    {p : Prop} [Decidable p] (hb : body.length ≤ 120) (hk : handleKind k s body = ((t.triggerIf p b).push [.meet], r))
    (ha : t.agenda = []) (hh : t.hold = 0) (ht : t.triggers = Vector.replicate 4 false) (hp : t.NoTransfers) :
    request k tag body s = .next ((if p then t.recompute b else t).answered (kindCode k) tag r.status r.rest) := by
  unfold State.triggerIf at hk
  split at hk
  next h' => rw [if_pos h']; exact request_recomputes h hb hk ha hh ht hp
  next h' => rw [if_neg h']; exact request_met h hb hk ha ht

/-! ### Slots that go (R10, R13) -/

theorem onScs_setCabinet (s : State) (c : Nat) (o : Option Cabinet) (f : Scs → Scs) :
    (s.setCabinet c o).onScs f = (s.onScs f).setCabinet c o := by
  unfold State.setCabinet
  split <;> rfl

theorem trigger_setCabinet (s : State) (c : Nat) (o : Option Cabinet) (b : Bus) :
    (s.trigger b).setCabinet c o = (s.setCabinet c o).trigger b := by
  unfold State.setCabinet
  split <;> rfl

theorem dropEntries_dropEntries (s : State) (f g : ScanEntry → Bool) :
    (s.dropEntries f).dropEntries g = s.dropEntries fun e => f e || g e := by
  simp [State.dropEntries, State.onScs, List.filter_filter, Bool.and_comm]

theorem dropEntries_none (s : State) : (s.dropEntries fun _ => false) = s := by
  simp [State.dropEntries, State.onScs]

/-- A cabinet without some of its slots. -/
def Cabinet.without (k : Cabinet) (slots : List Nat) : Cabinet := slots.foldl (fun k n => k.setSlot n none) k

/-- Slots undefined one after another (R13). -/
theorem foldl_undefineSlot (slots : List Nat) {s : State} {c : Nat} {k : Cabinet} (hk : s.cabinet c = some k) :
    slots.foldl (fun s n => s.undefineSlot c n) s =
      ((s.dropEntries fun e => e.cabinet == c && e.point.slot.any slots.contains).setCabinet c (some (k.without slots))).triggerIf
        (slots ≠ []) k.defn.bus := by
  obtain ⟨c1, c24⟩ := State.cabinet_range hk
  induction slots generalizing s k with
  | nil =>
    have none : (fun e : ScanEntry => e.cabinet == c && e.point.slot.any ([] : List Nat).contains) = fun _ => false := by
      funext e
      cases e.point.slot <;> simp
    rw [none, dropEntries_none]
    exact (State.setCabinet_self hk).symm
  | cons n rest ih =>
    have both : (fun e : ScanEntry => (e.cabinet == c && e.point.slot == some n) ||
        (e.cabinet == c && e.point.slot.any rest.contains)) =
        fun e => e.cabinet == c && e.point.slot.any (n :: rest).contains := by
      funext e
      cases e.point.slot <;> simp [← Bool.and_or_distrib_left, ← beq_eq_decide]
    have one : ((((s.dropEntries fun e => e.cabinet == c && e.point.slot == some n).setCabinet c
        (some (k.setSlot n none))).trigger k.defn.bus).cabinet c) = some (k.setSlot n none) :=
      State.cabinet_setCabinet_same _ c1 c24 _
    rw [List.foldl_cons, undefineSlot_eq hk, ih one]
    have moved : ∀ (x : State) (o : Option Cabinet) (b : Bus) (g : ScanEntry → Bool),
        ((x.setCabinet c o).trigger b).dropEntries g = ((x.dropEntries g).setCabinet c o).trigger b := by
      intro x o b g
      exact congrArg (State.trigger · b) (onScs_setCabinet x c o fun r => { r with
        active := r.active.filter fun e => !g e.entry, pendingList := r.pendingList.filter fun e => !g e })
    rw [moved, trigger_setCabinet, State.setCabinet_setCabinet, dropEntries_dropEntries, both, Cabinet.setSlot_defn]
    unfold State.triggerIf
    rw [if_pos (List.cons_ne_nil n rest)]
    split
    · exact State.trigger_trigger _ _
    · rfl

theorem Cabinet.without_strings (slots : List Nat) (k : Cabinet) (h : 0 ∉ slots) (i : Fin 4) :
    (k.without slots).strings[i] = if i.val + 1 ∈ slots then none else k.strings[i] := by
  unfold Cabinet.without
  induction slots generalizing k with
  | nil => simp
  | cons n rest ih =>
    simp only [List.mem_cons, not_or] at h
    rw [List.foldl_cons, ih _ h.2]
    by_cases hr : i.val + 1 ∈ rest
    · rw [if_pos hr, if_pos (List.mem_cons_of_mem n hr)]
    · rw [if_neg hr, Cabinet.setSlot, if_neg (fun e => h.1 e.symm)]
      by_cases hn : i.val + 1 = n
      · subst hn
        simp
      · have : ¬ n - 1 = i.val := by omega
        simp [hr, hn, Vector.getElem_setIfInBounds_ne _ this]

theorem Cabinet.without_frame (slots : List Nat) (k : Cabinet) :
    (k.without slots).defn = k.defn ∧ (k.without slots).track = k.track := by
  unfold Cabinet.without
  induction slots generalizing k with
  | nil => exact ⟨rfl, rfl⟩
  | cons n rest ih =>
    obtain ⟨hd, ht⟩ := ih (k.setSlot n none)
    exact ⟨hd.trans (k.setSlot_defn n none), ht.trans (k.setSlot_track n none)⟩

/-- The slots that a lower count takes from a cabinet (R10). -/
def Cabinet.slotsPast (k : Cabinet) (count : Nat) : List Nat :=
  slotIndices.filter fun slot => count < slot && (k.slot slot).isSome

theorem Cabinet.slotsPast_contains (k : Cabinet) (count : Nat) :
    (k.slotsPast count).contains = fun slot => decide (count < slot) && (k.slot slot).isSome := by
  funext slot
  rw [Bool.eq_iff_iff]
  simp only [Cabinet.slotsPast, List.contains_iff_mem, List.mem_filter, and_iff_right_iff_imp, Bool.and_eq_true]
  rintro ⟨-, h⟩
  obtain ⟨u, hu⟩ := Option.isSome_iff_exists.mp h
  obtain ⟨h1, h4⟩ := Cabinet.slot_range hu
  simp [slotIndices]
  omega

theorem Cabinet.slot_succ (k : Cabinet) (i : Fin 4) : k.slot (i.val + 1) = k.strings[i] := by
  simp [Cabinet.slot]

/-- What a lower count leaves of the slots. -/
theorem Cabinet.without_slotsPast (k : Cabinet) (count : Nat) :
    k.without (k.slotsPast count) =
      { k with strings := Vector.ofFn fun i : Fin 4 => if count < i.val + 1 then none else k.strings[i] } := by
  have zero : 0 ∉ k.slotsPast count := by simp [Cabinet.slotsPast, slotIndices]
  have strings : (k.without (k.slotsPast count)).strings =
      Vector.ofFn fun i : Fin 4 => if count < i.val + 1 then none else k.strings[i] := by
    ext i hi : 1
    have at_i := Cabinet.without_strings (k.slotsPast count) k zero ⟨i, hi⟩
    rw [Vector.getElem_ofFn]
    refine at_i.trans ?_
    have mem : i + 1 ∈ k.slotsPast count ↔ count < i + 1 ∧ (k.strings[i]).isSome := by
      rw [← List.contains_iff_mem, Cabinet.slotsPast_contains, Bool.and_eq_true, Cabinet.slot_succ k ⟨i, hi⟩, decide_eq_true_iff]
      rfl
    simp only [mem]
    by_cases hc : count < i + 1
    · cases k.strings[i] <;> simp [hc]
    · simp [hc]
  obtain ⟨hd, ht⟩ := Cabinet.without_frame (k.slotsPast count) k
  cases hw : k.without (k.slotsPast count)
  rw [hw] at strings hd ht
  simp_all

theorem Cabinet.slotsPast_eq_nil (k : Cabinet) (count : Nat) :
    k.slotsPast count = [] ↔ ∀ i : Fin 4, count < i.val + 1 → k.strings[i] = none := by
  have mem : ∀ i : Fin 4, i.val + 1 ∈ k.slotsPast count ↔ count < i.val + 1 ∧ (k.strings[i]).isSome := by
    intro i
    rw [← List.contains_iff_mem, Cabinet.slotsPast_contains, Bool.and_eq_true, Cabinet.slot_succ k i, decide_eq_true_iff]
  constructor
  · intro h i hi
    have := (mem i).not.mp (by rw [h]; exact List.not_mem_nil)
    simpa [hi] using this
  · intro h
    refine List.eq_nil_iff_forall_not_mem.mpr fun slot hs => ?_
    obtain ⟨i, rfl⟩ : ∃ i : Fin 4, slot = i.val + 1 := by
      have range := (List.mem_filter.mp hs).1
      simp only [slotIndices, List.mem_cons, List.not_mem_nil, or_false] at range
      exact ⟨⟨slot - 1, by omega⟩, by simp; omega⟩
    obtain ⟨past, some⟩ := (mem i).mp hs
    rw [h i past] at some
    cases some

end Sys2Proof.Machine

namespace Sys2Proof.Machine

/-! ### DEFINE_CABINET of a defined cabinet (R10, R47) -/

@[simp] theorem triggerIf_cabinet (s : State) (p : Prop) [Decidable p] (b : Bus) (c : Nat) :
    (s.triggerIf p b).cabinet c = s.cabinet c := by
  unfold State.triggerIf
  split <;> rfl

theorem onCabinet_triggerIf (s : State) (p : Prop) [Decidable p] (b : Bus) (c : Nat) (f : Cabinet → Cabinet) :
    (s.triggerIf p b).onCabinet c f = (s.onCabinet c f).triggerIf p b := by
  unfold State.triggerIf
  split
  · unfold State.onCabinet
    rw [show (s.trigger b).cabinet c = s.cabinet c from rfl]
    split
    · rfl
    · exact trigger_setCabinet s c _ b
  · rfl

/-- A cabinet under a new record, with the slots that the new count leaves. -/
def Cabinet.redefined (k : Cabinet) (new : CabinetRec) : Cabinet :=
  { defn := new
    track := { k.track with bypassCheckPending := pendingCheck k.defn new k.track.bypassCheckPending }
    strings := Vector.ofFn fun i : Fin 4 => if new.stringCount < i.val + 1 then none else k.strings[i] }

/-- The new record stored, the scan entries of the slots that go dropped: what a redefinition does before it looks at bus, rating
and address. -/
def State.recordedAs (s : State) (c : Nat) (k : Cabinet) (new : CabinetRec) : State :=
  (s.dropEntries fun e => e.cabinet == c && e.point.slot.any fun slot =>
    decide (new.stringCount < slot) && (k.slot slot).isSome).setCabinet c (some (k.redefined new))

theorem redefineCabinet_eq {s : State} {c : Nat} {k : Cabinet} (hk : s.cabinet c = some k) (new : CabinetRec) :
    s.redefineCabinet c k new =
      (let recorded := (s.recordedAs c k new).triggerIf (k.slotsPast new.stringCount ≠ []) k.defn.bus
       let moved := if k.defn.bus = new.bus then recorded
         else ((recorded.dropTransfers k.defn.bus c).trigger k.defn.bus).trigger new.bus
       let rated := moved.triggerIf (¬ (k.defn.rating = new.rating ∧ k.defn.stringCount = new.stringCount)) new.bus
       if k.defn.address = new.address then rated
       else rated.completeTrack c (k.redefined new) .addressChange (TrackWork.quiet (k.track.reset new.master))) := by
  obtain ⟨c1, c24⟩ := State.cabinet_range hk
  have stored : ((k.slotsPast new.stringCount).foldl (fun s slot => s.undefineSlot c slot) s).onCabinet c (fun k =>
        { k with defn := new,
                 track := { k.track with bypassCheckPending := pendingCheck k.defn new k.track.bypassCheckPending } }) =
      (s.recordedAs c k new).triggerIf (k.slotsPast new.stringCount ≠ []) k.defn.bus := by
    rw [foldl_undefineSlot (k.slotsPast new.stringCount) hk, onCabinet_triggerIf,
      State.onCabinet_eq (State.cabinet_setCabinet_same _ c1 c24 _), State.setCabinet_setCabinet, Cabinet.without_slotsPast,
      Cabinet.slotsPast_contains]
    rfl
  have there : (s.recordedAs c k new).cabinet c = some (k.redefined new) := State.cabinet_setCabinet_same _ c1 c24 _
  unfold State.redefineCabinet
  dsimp only
  generalize he : State.onCabinet _ c _ = x
  rw [show x = _ from he.symm.trans stored]
  have still : ∀ x : State, x.cabinet c = some (k.redefined new) →
      (if k.defn.bus = new.bus then x else ((x.dropTransfers k.defn.bus c).trigger k.defn.bus).trigger new.bus).cabinet c =
        some (k.redefined new) := by
    intro x hx
    split
    · exact hx
    · rw [dropTransfers_eq]
      exact hx
  have moved := still ((s.recordedAs c k new).triggerIf (k.slotsPast new.stringCount ≠ []) k.defn.bus)
    ((triggerIf_cabinet _ _ _ _).trans there)
  have flip : ∀ y : State, (if k.defn.rating = new.rating ∧ k.defn.stringCount = new.stringCount then y else y.trigger new.bus) =
      y.triggerIf (¬ (k.defn.rating = new.rating ∧ k.defn.stringCount = new.stringCount)) new.bus := fun y =>
    (ite_not _ _ _).symm
  rw [flip, triggerIf_cabinet, moved]
  rfl

theorem Cabinet.redefined_keepsSlots {k : Cabinet} {new : CabinetRec} (h : k.slotsPast new.stringCount = []) :
    k.redefined new = { k with
      defn := new
      track := { k.track with bypassCheckPending := pendingCheck k.defn new k.track.bypassCheckPending } } := by
  unfold Cabinet.redefined
  congr 1
  ext i hi : 1
  rw [Vector.getElem_ofFn]
  split
  next past => exact ((Cabinet.slotsPast_eq_nil k _).mp h ⟨i, hi⟩ past).symm
  next => rfl

/-- Where no slot falls, a redefinition keeps the scan entries. -/
theorem recordedAs_keepsSlots {s : State} {c : Nat} {k : Cabinet} {new : CabinetRec} (h : k.slotsPast new.stringCount = []) :
    s.recordedAs c k new = s.setCabinet c (some (k.redefined new)) := by
  have none : (fun e : ScanEntry => e.cabinet == c && e.point.slot.any fun slot =>
      decide (new.stringCount < slot) && (k.slot slot).isSome) = fun _ => false := by
    rw [← Cabinet.slotsPast_contains, h]
    funext e
    cases e.point.slot <;> simp
  rw [State.recordedAs, none, dropEntries_none]

/-- On the same bus at the same address, the bus is recomputed where the rating, the count or a slot changes. -/
theorem redefineCabinet_inPlace {s : State} {c : Nat} {k : Cabinet} (hk : s.cabinet c = some k) {new : CabinetRec}
    (hb : k.defn.bus = new.bus) (ha : k.defn.address = new.address) :
    s.redefineCabinet c k new = (s.recordedAs c k new).triggerIf
      (¬ (new.rating = k.defn.rating ∧ new.stringCount = k.defn.stringCount ∧
        ∀ i : Fin 4, new.stringCount < i.val + 1 → k.strings[i] = none)) new.bus := by
  rw [redefineCabinet_eq hk]
  dsimp only
  rw [if_pos hb, if_pos ha, hb, triggerIf_triggerIf]
  unfold State.triggerIf
  refine if_congr ?_ rfl rfl
  rw [Ne, Cabinet.slotsPast_eq_nil, eq_comm (a := new.rating), eq_comm (a := new.stringCount), ← and_assoc,
    not_and_or (a := _ ∧ _), or_comm]

/-- On the same bus at a new address, with no slot that falls. -/
theorem redefineCabinet_readdressed {s : State} {c : Nat} {k : Cabinet} (hk : s.cabinet c = some k) {new : CabinetRec}
    (hb : k.defn.bus = new.bus) (ha : k.defn.address ≠ new.address) :
    ∃ p : Bool, s.redefineCabinet c k new = ((s.recordedAs c k new).triggerIf (p = true) new.bus).completeTrack c (k.redefined new)
      .addressChange (TrackWork.quiet (k.track.reset new.master)) := by
  refine ⟨decide (k.slotsPast new.stringCount ≠ [] ∨ ¬ (k.defn.rating = new.rating ∧ k.defn.stringCount = new.stringCount)), ?_⟩
  rw [redefineCabinet_eq hk]
  dsimp only
  rw [if_pos hb, if_neg ha, hb, triggerIf_triggerIf]
  unfold State.triggerIf
  rw [if_congr decide_eq_true_iff rfl rfl]

/-- On a new bus at the same address, with no slot that falls: both buses are recomputed. -/
theorem redefineCabinet_moved {s : State} {c : Nat} {k : Cabinet} (hk : s.cabinet c = some k) {new : CabinetRec}
    (hb : k.defn.bus ≠ new.bus) (ha : k.defn.address = new.address) (hs : k.slotsPast new.stringCount = []) :
    s.redefineCabinet c k new =
      (((s.recordedAs c k new).dropTransfers k.defn.bus c).trigger k.defn.bus).trigger new.bus := by
  rw [redefineCabinet_eq hk]
  dsimp only
  rw [if_neg hb, if_pos ha, hs]
  unfold State.triggerIf
  rw [if_neg (not_not_intro rfl)]
  split
  · exact State.trigger_trigger _ _
  · rfl

end Sys2Proof.Machine

namespace Sys2Proof.Machine

/-! ### A new link address (R10, R49): the change handed on, the triggers met -/

theorem State.push_eq {s : State} (h : s.agenda = []) (l : List Task) : s.push l = s.onAgenda fun _ => l := by
  unfold State.push State.onAgenda
  rw [h]
  rfl

theorem State.push_push (s : State) (l m : List Task) : (s.push l).push m = s.push (l ++ m) := by
  simp [State.push, State.onAgenda]

theorem unmet_le (s : State) : s.unmet ≤ 4 := (List.length_filter_le _ _).trans (by decide)

/-- The meeting of triggers finds none. -/
theorem doTask_meet_none {s : State} (hh : s.hold = 0) (ht : s.triggers = Vector.replicate 4 false) : doTask .meet s = s := by
  have hf : s.firstTrigger = none := by
    unfold State.firstTrigger
    rw [ht]
    decide
  simp [doTask, State.meet, hh, hf]

/-- Neither ageing nor the test engine nor the permits take up a change away from battery where no test runs, no permit is live
and every sequencer is NORMAL. -/
theorem doTask_change_idle {s : State} (hn : s.NoTransfers) (ht : s.test.subject = none) {old new : Tracked} (c : Nat) (b : Bus)
    (hold : old ≠ .onBattery) (hnew : new ≠ .onBattery) :
    doTask (.ageingOnChange c old new) s = s ∧ doTask (.testOnChange c b new) s = s ∧ doTask (.permitOnChange c old new) s = s := by
  refine ⟨?_, ?_, ?_⟩
  · change s.ageingOnChange c old new = s
    rw [State.ageingOnChange, if_neg hnew, if_neg hold]
  · change s.testOnChange c b new = s
    rw [State.testOnChange, ht]
  · change s.permitOnChange c old new = s
    unfold State.permitOnChange
    cases s.busOf c with
    | none => rfl
    | some b =>
      have none : s.withdrawPermit c = none := by simp [State.withdrawPermit, hn.1]
      simp [State.unblock, none, State.seqOnChange, hn.2 b]

/-- A handing-on opens. -/
theorem Hands.openHold {n : Nat} {s u : State} {l : List Task} (h : Hands n ((s.onHold (· + 1)).onAgenda fun _ => l) u) :
    Hands (n + 1) (s.onAgenda fun _ => .openHold :: l) u := .more .openHold l rfl h

/-- A handing-on ends, and the triggers are to be met. -/
theorem Hands.closeHold {n : Nat} {s u : State} {l : List Task} (h : Hands n (s.onAgenda fun _ => .meet :: l) u) :
    Hands (n + 1) ((s.onHold (· + 1)).onAgenda fun _ => .closeHold :: l) u := by
  refine .more .closeHold l rfl ?_
  have closed : handNext .closeHold l ((s.onHold (· + 1)).onAgenda fun _ => .closeHold :: l) = s.onAgenda fun _ => .meet :: l := by
    simp [handNext, doTask, State.closeHold, State.push, State.onHold, State.onAgenda]
  rwa [closed]

/-- Such a change is handed on for nothing, and the triggers are met. -/
theorem settle_change {x : State} {c : Nat} {b : Bus} {old new : Tracked} (ha : x.agenda = []) (hh : x.hold = 0)
    (hn : x.NoTransfers) (ht : x.test.subject = none) (hold : old ≠ .onBattery) (hnew : new ≠ .onBattery) :
    (x.push [.openHold, .ageingOnChange c old new, .testOnChange c b new, .permitOnChange c old new, .closeHold, .meet]).settle =
      x.met := by
  obtain ⟨ageing, test, permit⟩ := doTask_change_idle (s := (x.onHold (· + 1)).onAgenda fun _ => []) hn ht c b hold hnew
  obtain ⟨k, hk, meets, hold', triggers⟩ := hands_meet 4 (x.onAgenda fun _ => [.meet, .meet]) [.meet] (unmet_le _) rfl hh hn
  rw [State.met_onAgenda] at meets hold' triggers
  have agenda : x.met.agenda = [] := x.met_agenda.trans ha
  generalize x.met = y at *
  have last : Hands 1 (y.onAgenda fun _ => [.meet]) (y.onAgenda fun _ => []) :=
    .idle (doTask_meet_none hold' triggers) (.none _)
  have opened := Hands.openHold (.idle ageing (.idle test (.idle permit (.closeHold (meets.trans last)))))
  rw [State.push_eq ha, opened.settle (by unfold settleBound; omega) rfl]
  exact State.onAgenda_nil agenda

/-- The record set back at a new link address is UNKNOWN (R36, R37). -/
theorem Track.reset_state (t : Track) (master : Bool) : (t.reset master).state = .unknown := rfl

/-- A new link address told and met, for a cabinet that is neither UNKNOWN nor on battery. -/
theorem settle_readdressed {s : State} {c : Nat} {k : Cabinet} {b : Bus} {master p : Bool} (hb : k.defn.bus = b)
    (ha : s.agenda = []) (hh : s.hold = 0) (ht : s.triggers = Vector.replicate 4 false) (hn : s.NoTransfers)
    (hs : s.test.subject = none) (hold : k.track.state ≠ .unknown) (hbat : k.track.state ≠ .onBattery) :
    (((s.triggerIf (p = true) b).completeTrack c k .addressChange (TrackWork.quiet (k.track.reset master))).push [.meet]).settle =
      ((s.setCabinet c (some { k with track := k.track.reset master })).raise .cabinetState
        { bus := b.val + 1, cabinet := c } (k.track.state.code * 256) 7).recompute b := by
  subst hb
  have settled : (k.track.reset master).settle k.track.state = k.track.reset master := if_neg (by rw [Track.reset_state]; nofun)
  have triggered : ((((s.triggerIf (p = true) k.defn.bus).setCabinet c (some { k with track := k.track.reset master })).raise
      .cabinetState { bus := k.defn.bus.val + 1, cabinet := c } (k.track.state.code * 256) 7).trigger k.defn.bus) =
      ((s.setCabinet c (some { k with track := k.track.reset master })).raise
        .cabinetState { bus := k.defn.bus.val + 1, cabinet := c } (k.track.state.code * 256) 7).trigger k.defn.bus := by
    unfold State.triggerIf
    split
    · rw [trigger_setCabinet]
      simp [State.raise, State.trigger, State.onTriggers, State.onNotices]
    · rfl
  have told : ((s.triggerIf (p = true) k.defn.bus).completeTrack c k .addressChange
      (TrackWork.quiet (k.track.reset master))).push [.meet] =
      (((s.setCabinet c (some { k with track := k.track.reset master })).raise .cabinetState
        { bus := k.defn.bus.val + 1, cabinet := c } (k.track.state.code * 256) 7).trigger k.defn.bus).push
        [.openHold, .ageingOnChange c k.track.state .unknown, .testOnChange c k.defn.bus .unknown,
        .permitOnChange c k.track.state .unknown, .closeHold, .meet] := by
    rw [← triggered]
    unfold State.completeTrack
    simp [TrackWork.quiet, Track.reset_state, settled, hold, State.raiseTrack, handOn, Source.cause, Source.code, busCode,
      Tracked.code, State.push_push]
  rw [told, settle_change (by simpa [State.trigger, State.raise] using ha) (by simpa [State.trigger, State.raise] using hh)
    (by simpa [State.trigger, State.raise, State.NoTransfers, State.seqOf] using hn)
    (by simpa [State.trigger, State.raise] using hs) hbat (by nofun)]
  exact State.met_trigger (by simpa [State.raise] using ht) _

end Sys2Proof.Machine

namespace Sys2Proof.Machine

/-- A request that raises the triggers of two buses, on a part without live permits and with every sequencer NORMAL: the buses
are recomputed in their order (log 10). -/
theorem request_recomputes_two {s t : State} (h : s.Ready) {k : RequestKind} {tag : Byte} {body : List Byte} {r : Reply}
    {a b : Bus} (hb : body.length ≤ 120) (hk : handleKind k s body = (((t.trigger a).trigger b).push [.meet], r)) (ne : a ≠ b)
    (ha : t.agenda = []) (hh : t.hold = 0) (ht : t.triggers = Vector.replicate 4 false) (hp : t.NoTransfers) :
    request k tag body s =
      .next ((if a < b then (t.recompute a).recompute b else (t.recompute b).recompute a).answered (kindCode k) tag r.status
        r.rest) := by
  rw [request_meets h hb hk ha hh hp]
  split
  next lt => rw [State.met_two ht lt]
  next lt => rw [State.trigger_comm, State.met_two ht (lt_of_le_of_ne (not_lt.mp lt) ne.symm)]

/-! ### DEFINE_CABINET (R10, R11) -/

theorem defineCabinet_new {s : State} {c : Nat} {new : CabinetRec} (hk : s.cabinet c = none)
    (hm : new.master = true → s.masterOf new.bus = none) :
    s.defineCabinet c new =
      (s.setCabinet c (some { defn := new, track := .initial new.master, strings := Vector.replicate 4 none })).trigger new.bus := by
  have flag : s.takeFlag c new = s := by
    unfold State.takeFlag
    cases h : s.masterOf new.bus with
    | none => rfl
    | some m => exact if_neg fun ⟨e, _⟩ => by rw [hm e] at h; cases h
  unfold State.defineCabinet
  rw [flag]
  dsimp only
  rw [hk]

theorem defineCabinet_defined {s : State} {c : Nat} {k : Cabinet} {new : CabinetRec} (hk : s.cabinet c = some k)
    (hm : new.master = true → s.masterOf new.bus = none ∨ s.masterOf new.bus = some c) :
    s.defineCabinet c new = s.redefineCabinet c k new := by
  have flag : s.takeFlag c new = s := by
    unfold State.takeFlag
    cases h : s.masterOf new.bus with
    | none => rfl
    | some m => exact if_neg fun ⟨e, ne⟩ => by rw [h] at hm; simp_all
  unfold State.defineCabinet
  rw [flag]
  dsimp only
  rw [hk]

/-- An earlier master gives up its flag and its pending check. -/
theorem defineCabinet_takes {s : State} {c m : Nat} {k j : Cabinet} {new : CabinetRec} (hk : s.cabinet c = some k)
    (hn : new.master = true) (hm : s.masterOf new.bus = some m) (ne : m ≠ c) (hj : s.cabinet m = some j) :
    s.defineCabinet c new = (s.setCabinet m (some { j with
      defn := { j.defn with master := false }, track := { j.track with bypassCheckPending := false } })).redefineCabinet c k new := by
  unfold State.defineCabinet State.takeFlag
  rw [hm]
  dsimp only
  rw [if_pos ⟨hn, ne⟩, State.onCabinet_eq hj, State.cabinet_setCabinet_other _ (Ne.symm ne), hk]

/-- The cabinet that the reply names where it takes no flag from another. -/
theorem lostMaster_own {s : State} {c : Nat} {k : Cabinet} {new : CabinetRec} (hk : s.cabinet c = some k)
    (hm : new.master = true → s.masterOf new.bus = none ∨ s.masterOf new.bus = some c) :
    s.lostMaster c new = if new.master = false ∧ k.defn.master = true then c else 0 := by
  unfold State.lostMaster
  cases h : new.master with
  | true => rcases hm h with e | e <;> simp [e]
  | false => simp [hk]

theorem lostMaster_other {s : State} {c m : Nat} {new : CabinetRec} (hn : new.master = true) (hm : s.masterOf new.bus = some m)
    (ne : m ≠ c) : s.lostMaster c new = m := by
  rw [State.lostMaster, if_pos hn, hm]
  exact if_neg ne

theorem cabinetGiven_octets {address : Byte} {b : Bus} {r1 r0 n : Byte} {master : Bool} {name : List Byte} (c lost : Nat) :
    octets 1 c ++ (cabinetGiven address b r1 r0 n master name).octets ++ octets 1 lost =
      octets 1 c ++ [address] ++ octets 1 b.val ++ octets 2 (clampTo 1 2000 (r1.toNat * 256 + r0.toNat)) ++
        octets 1 (min n.toNat 4) ++ [if master then 1#8 else 0#8] ++ name ++ octets 1 lost := by
  have flag : octets 1 master.toNat = [if master then 1#8 else 0#8] := by cases master <;> rfl
  simp [CabinetRec.octets, cabinetGiven, flag, octets_one]

theorem lostMaster_new {s : State} {c : Nat} {new : CabinetRec} (hk : s.cabinet c = none)
    (hm : new.master = true → s.masterOf new.bus = none) : s.lostMaster c new = 0 := by
  unfold State.lostMaster
  cases h : new.master with
  | true => simp [hm h]
  | false => simp [hk]

section
variable {tag address r1 r0 n : Byte} {master : Bool} {name : List Byte} {c : Nat} {b : Bus} {k : Cabinet} {s : State}

/-- The reply to a DEFINE_CABINET that is taken (R173). -/
def cabinetReply (address : Byte) (b : Bus) (r1 r0 n : Byte) (master : Bool) (name : List Byte) (c lost : Nat) : Reply :=
  { status :=
      if clampTo 1 2000 (r1.toNat * 256 + r0.toNat) = r1.toNat * 256 + r0.toNat ∧ min n.toNat 4 = n.toNat then .ok
      else .okClamped
    rest := octets 1 c ++ [address] ++ octets 1 b.val ++ octets 2 (clampTo 1 2000 (r1.toNat * 256 + r0.toNat)) ++
      octets 1 (min n.toNat 4) ++ [if master then 1#8 else 0#8] ++ name ++ octets 1 lost }

/-- A host-direct DEFINE_CABINET of a defined cabinet is taken. -/
theorem defineCabinet_taken (hn : s.NoTransfers) (hphase : s.test.phase = .idle) (ha : 1 ≤ address.toNat)
    (h31 : address.toNat ≤ 31) (hname : name.length = 8) (hb : (s.bus b).isSome) (hk : s.cabinet c = some k)
    (hlock : s.lockOf c = none) (hheld : ∀ p ∈ s.definedCabinets, p.1 ≠ c → p.2.defn.address ≠ address.toNat)
    (hearlier : ∀ m, master = true → s.masterOf b = some m → m ≠ c → s.lockOf m = none) :
    handleDefineCabinet s (cabinetBody c address b r1 r0 n master name) =
      ((s.defineCabinet c (cabinetGiven address b r1 r0 n master name)).push [.meet],
        cabinetReply address b r1 r0 n master name c (s.lostMaster c (cabinetGiven address b r1 r0 n master name))) := by
  obtain ⟨h1, h24⟩ := State.cabinet_range hk
  have taken := handleDefineCabinet_host (r1 := r1) (r0 := r0) (n := n) hn h1 h24 ha h31 hname hb hlock hearlier hheld (.inr hphase)
  dsimp only at taken
  rw [cabinetGiven_octets] at taken
  exact taken

end

/-- Settles O21: the handling read off, then what each kind of change triggers. -/
theorem defineCabinetCreates : Obligations.DefineCabinetCreates := by
  refine ⟨?_, ?_⟩
  · intro tag address r1 r0 n master name c b s hr hn h1 h24 ha h31 hname hb hk hlock hheld hm rating new status
    have taken := handleDefineCabinet_host (r1 := r1) (r0 := r0) (n := n) hn h1 h24 ha h31 hname hb hlock
      (fun m hmaster found _ => by rw [hm hmaster] at found; cases found) (fun p hp _ => hheld p hp) (.inl hk)
    dsimp only at taken
    rw [defineCabinet_new hk hm, cabinetGiven_octets, lostMaster_new hk hm] at taken
    have length : (cabinetBody c address b r1 r0 n master name).length ≤ 120 := by rw [cabinetBody_length hname]; decide
    have done := request_recomputes (k := .defineCabinet) (tag := tag) hr length taken (by simpa using hr.1.1.2)
      (by simpa using hr.1.2.1) (by simpa using hr.1.2.2) (by simpa [State.NoTransfers, State.seqOf] using hn)
    exact done
  · intro tag address r1 r0 n master name c b k s hr hn hphase hsubject ha h31 hname hb hk hlock hheld rating new status command
      answer keepsSlots same remade kept ownFlag noOther
    have taken := defineCabinet_taken (r1 := r1) (r0 := r0) (n := n) (master := master) hn hphase ha h31 hname hb hk hlock hheld
    have length : (cabinetBody c address b r1 r0 n master name).length ≤ 120 := by rw [cabinetBody_length hname]; decide
    have own : noOther → ∀ m, master = true → s.masterOf b = some m → m ≠ c → s.lockOf m = none := by
      intro h m hm found ne
      rcases h hm with e | e <;> rw [e] at found
      · cases found
      · exact absurd (Option.some.inj found).symm ne
    have none : keepsSlots → k.slotsPast (cabinetGiven address b r1 r0 n master name).stringCount = [] :=
      (Cabinet.slotsPast_eq_nil k _).mpr
    refine ⟨?_, ?_, ?_, ?_⟩
    · intro hbus haddress hm gone dropped
      have taken := taken (own hm)
      rw [defineCabinet_defined hk hm, redefineCabinet_inPlace hk hbus haddress, lostMaster_own hk hm] at taken
      have done := request_recomputes_if (k := .defineCabinet) (tag := tag) hr length taken
        (by simpa [State.recordedAs, State.dropEntries] using hr.1.1.2)
        (by simpa [State.recordedAs, State.dropEntries] using hr.1.2.1)
        (by simpa [State.recordedAs, State.dropEntries] using hr.1.2.2)
        (by simpa [State.recordedAs, State.dropEntries, State.NoTransfers, State.seqOf] using hn)
      rw [ite_not] at done
      exact done
    · intro m j hbus haddress hs hmaster hm ne hj hmlock
      have taken := taken fun x _ found _ => by rw [hm] at found; cases found; exact hmlock
      rw [defineCabinet_takes hk hmaster hm ne hj, lostMaster_other hmaster hm ne, redefineCabinet_inPlace
        ((State.cabinet_setCabinet_other s (Ne.symm ne) _).trans hk) hbus haddress,
        recordedAs_keepsSlots (none hs), Cabinet.redefined_keepsSlots (none hs)] at taken
      have done := request_recomputes_if (k := .defineCabinet) (tag := tag) hr length taken (by simpa using hr.1.1.2)
        (by simpa using hr.1.2.1) (by simpa using hr.1.2.2) (by simpa [State.NoTransfers, State.seqOf] using hn)
      rw [ite_not] at done
      exact done
    · intro hbus haddress hs hm hunknown hbattery
      have taken := taken (own hm)
      obtain ⟨p, hp⟩ := redefineCabinet_readdressed hk (new := cabinetGiven address b r1 r0 n master name) hbus haddress
      rw [defineCabinet_defined hk hm, hp, lostMaster_own hk hm, recordedAs_keepsSlots (none hs),
        Cabinet.redefined_keepsSlots (none hs)] at taken
      have settled := settle_readdressed (s := s.setCabinet c (some kept)) (c := c) (k := kept) (b := b) (master := master) (p := p)
        rfl (by simpa using hr.1.1.2) (by simpa using hr.1.2.1) (by simpa using hr.1.2.2)
        (by simpa [State.NoTransfers, State.seqOf] using hn) (by simpa using hsubject) hunknown hbattery
      rw [State.setCabinet_setCabinet] at settled
      have done := request_answer (k := .defineCabinet) (tag := tag) hr length taken settled
        (by rw [State.recompute_agenda]; simpa [State.raise] using hr.1.1.2)
      exact done
    · intro a ha ne haddress hs hmaster hown moved
      have taken := taken fun _ h => by rw [hmaster] at h; cases h
      have hm : master = true → s.masterOf b = .none ∨ s.masterOf b = some c := fun h => by rw [hmaster] at h; cases h
      subst ha
      rw [defineCabinet_defined hk hm, redefineCabinet_moved hk (new := cabinetGiven address b r1 r0 n master name) ne haddress (none hs),
        lostMaster_own hk hm, if_neg (by simp [hown]), recordedAs_keepsSlots (none hs), Cabinet.redefined_keepsSlots (none hs),
        dropTransfers_eq] at taken
      have done := request_recomputes_two (k := .defineCabinet) (tag := tag) hr length taken ne
        (by simpa [State.onQueue] using hr.1.1.2) (by simpa [State.onQueue] using hr.1.2.1)
        (by simpa [State.onQueue] using hr.1.2.2)
        (by simpa [State.onQueue, State.NoTransfers, State.seqOf] using hn)
      exact done

end Sys2Proof.Machine

namespace Sys2Proof.Machine

/-! ### Permits by their id (R127) -/

theorem permit_onPermit (s : State) (id : Nat) {f : Permit → Permit} (hf : ∀ p, (f p).id = p.id) :
    (s.onPermit id f).permit id = (s.permit id).map f := by
  have same : ((fun p : Permit => p.id == id) ∘ fun p => if p.id = id then f p else p) = fun p => p.id == id := by
    funext p
    by_cases h : p.id = id <;> simp [h, hf]
  unfold State.permit State.onPermit
  rw [State.onPar_par, List.find?_map, same]
  cases found : s.par.permits.find? fun p => p.id == id with
  | none => rfl
  | some p =>
    have : p.id = id := by simpa using List.find?_some found
    simp [this]

theorem permit_onPermit_some {s : State} {id : Nat} {p : Permit} (h : s.permit id = some p) (f : Permit → Permit)
    (hf : ∀ p, (f p).id = p.id) : (s.onPermit id f).permit id = some (f p) := by
  rw [permit_onPermit s id hf, h]
  rfl

/-- A permit of another id is not changed. -/
theorem permit_onPermit_other (s : State) {id n : Nat} (h : n ≠ id) {f : Permit → Permit} (hf : ∀ p, (f p).id = p.id) :
    (s.onPermit id f).permit n = s.permit n := by
  have same : ((fun p : Permit => p.id == n) ∘ fun p => if p.id = id then f p else p) = fun p => p.id == n := by
    funext p
    by_cases e : p.id = id <;> simp [e, hf]
  unfold State.permit State.onPermit
  rw [State.onPar_par, List.find?_map, same]
  cases found : s.par.permits.find? fun p => p.id == n with
  | none => rfl
  | some p =>
    have : p.id = n := by simpa using List.find?_some found
    simp [this, h]

theorem mem_onPermit {s : State} {id : Nat} {f : Permit → Permit} {q : Permit} :
    q ∈ (s.onPermit id f).par.permits ↔ ∃ p ∈ s.par.permits, (if p.id = id then f p else p) = q := List.mem_map

theorem onPermit_onPermit (s : State) (id : Nat) {f g : Permit → Permit} (hf : ∀ p, (f p).id = p.id) :
    (s.onPermit id f).onPermit id g = s.onPermit id fun p => g (f p) := by
  have same : ((fun p => if p.id = id then g p else p) ∘ fun p : Permit => if p.id = id then f p else p) =
      fun p => if p.id = id then g (f p) else p := by
    funext p
    by_cases h : p.id = id <;> simp [h, hf]
  unfold State.onPermit State.onPar
  simp [List.map_map, same]

/-! ### Passes that find nothing where every permit of the bus is on its way back -/

/-- Every permit of the bus is RETURNING or RETURN_BLOCKED. -/
def State.AllReturning (s : State) (b : Bus) : Prop :=
  ∀ q ∈ s.par.permits, q.bus = b → q.state = .returning ∨ q.state = .returnBlocked

theorem State.AllReturning.not_in {s : State} {b : Bus} (h : s.AllReturning b) {st : PermitState} (h1 : st ≠ .returning)
    (h2 : st ≠ .returnBlocked) : ∀ q ∈ s.par.permits, q.bus = b → q.state ≠ st := by
  intro q hq hb e
  rcases h q hq hb with r | r <;> rw [r] at e
  · exact h1 e.symm
  · exact h2 e.symm

/-- A change to RETURNING of the one permit of the bus that was not on its way back. -/
theorem allReturning_onPermit {s : State} {id : Nat} {f : Permit → Permit} {b : Bus} (hf : ∀ q, (f q).state = .returning)
    (h : ∀ q ∈ s.par.permits, q.bus = b → q.id ≠ id → q.state = .returning ∨ q.state = .returnBlocked) :
    (s.onPermit id f).AllReturning b := by
  intro q hq hb
  obtain ⟨r, hr, rfl⟩ := mem_onPermit.mp hq
  by_cases e : r.id = id
  · rw [if_pos e]
    exact .inl (hf r)
  · rw [if_neg e] at hb ⊢
    exact h r hr hb e

theorem permit_only {s : State} {b : Bus} {p : Permit} (h : s.par.permits.filter (fun q => q.bus == b) = [p]) {q : Permit}
    (hq : q ∈ s.par.permits) (hb : q.bus = b) : q = p := by
  have : q ∈ s.par.permits.filter (fun q => q.bus == b) := List.mem_filter.mpr ⟨hq, by simpa using hb⟩
  rw [h] at this
  exact List.mem_singleton.mp this

theorem waitQueue_returning {s : State} {b : Bus} (h : s.AllReturning b) : s.waitQueue b = [] := by
  have none := h.not_in (st := .waiting) (by nofun) (by nofun)
  simpa [State.waitQueue, List.filter_eq_nil_iff] using none

theorem yieldTests_noTest {s : State} {b : Bus}
    (h : s.par.permits.filter (fun q => q.bus == b && q.isTest && q.state == .granted) = []) : s.yieldTests b = s := by
  unfold State.yieldTests
  rw [h]
  split <;> rfl

theorem yieldLoop_none {b : Bus} {s : State} (h : s.yieldCandidate b = none) (d : BusRec) (n : Nat) : yieldLoop b d n s = s := by
  cases n with
  | zero => rfl
  | succ n =>
    unfold yieldLoop
    dsimp only
    rw [h]
    split <;> rfl

theorem yieldWithdrawals_none {s : State} {b : Bus} (h : s.yieldCandidate b = none) : s.yieldWithdrawals b = s := by
  unfold State.yieldWithdrawals
  split
  · rfl
  · rw [yieldLoop_none h]
    split <;> rfl

theorem grantAdoptions_none {s : State} {b : Bus} (h : s.waitQueue b = []) : s.grantAdoptions b = s := by
  rw [State.grantAdoptions, h]
  rfl

theorem grantHeads_none {s : State} {b : Bus} (h : s.waitQueue b = []) : s.grantHeads b = s := by
  rw [State.grantHeads, h]
  rfl

theorem returnCheck_other {s : State} {b : Bus} (h : (s.seqOf b).state ≠ .returnWait) : s.returnCheck b = s := if_neg h

theorem returnCheck_noSet {s : State} {b : Bus} (h : s.returnSet b = none) : s.returnCheck b = s := by
  unfold State.returnCheck
  rw [h]
  exact ite_self s

theorem yieldCandidate_returning {s : State} {b : Bus} (h : s.AllReturning b) : s.yieldCandidate b = none := by
  have none := h.not_in (st := .granted) (by nofun) (by nofun)
  have empty : (s.par.permits.filter fun p => p.bus == b && p.kind == .withdraw && p.policy == some .yield &&
      p.state == .granted && p.cabinet.any fun c => s.tracked c != some .isolated) = [] := by
    rw [List.filter_eq_nil_iff]
    intro q hq
    simp only [Bool.and_eq_true, beq_iff_eq]
    rintro ⟨⟨⟨⟨hb, -⟩, -⟩, hg⟩, -⟩
    exact none q hq hb hg
  rw [State.yieldCandidate, empty]
  rfl

theorem passesRest_returning {s : State} {b : Bus} (h : s.AllReturning b) (hr : s.returnCheck b = s) : s.PassesRest b := by
  refine ⟨yieldTests_noTest ?_, yieldWithdrawals_none (yieldCandidate_returning h), grantAdoptions_none (waitQueue_returning h),
    grantHeads_none (waitQueue_returning h), hr⟩
  have none := h.not_in (st := .granted) (by nofun) (by nofun)
  rw [List.filter_eq_nil_iff]
  intro q hq
  simp only [Bool.and_eq_true, beq_iff_eq]
  rintro ⟨⟨hb, -⟩, hg⟩
  exact none q hq hb hg

theorem State.AllReturning.recompute {s : State} {b : Bus} (h : s.AllReturning b) : (s.recompute b).AllReturning b := by
  unfold State.AllReturning
  rw [State.recompute_par]
  exact h

theorem seqOf_recompute (s : State) (a b : Bus) : (s.recompute a).seqOf b = s.seqOf b := by
  unfold State.seqOf
  rw [State.recompute_par]

/-- The state of a bus recomputed inside its handing. -/
theorem State.AllReturning.handed {s : State} {b : Bus} (h : s.AllReturning b) :
    ((s.recompute b).onHold (· + 1)).AllReturning b := by
  have held : ∀ x : State, x.AllReturning b → (x.onHold (· + 1)).AllReturning b := fun _ h => h
  exact held _ h.recompute

theorem passesRest_handed {s : State} {b : Bus} (h : s.AllReturning b) (hr : (s.seqOf b).state ≠ .returnWait) :
    ((s.recompute b).onHold (· + 1)).PassesRest b := by
  refine passesRest_returning h.handed (returnCheck_other ?_)
  change ((s.recompute b).seqOf b).state ≠ .returnWait
  rwa [seqOf_recompute]

/-- The trigger of a bus whose permits are all on their way back and whose return is not due. -/
theorem settle_returning {t : State} {b : Bus} (ha : t.agenda = []) (hh : t.hold = 0)
    (ht : t.triggers = Vector.replicate 4 false) (h : t.AllReturning b) (hr : (t.seqOf b).state ≠ .returnWait) :
    ((t.trigger b).push [.meet]).settle = t.recompute b := settle_trigger ha hh ht (passesRest_handed h hr)

/-! ### RETURN_PERMIT (R132) -/

theorem handleReturnPermit_host {s t u : State} {p : Permit} (hc : s.configured = true) (hp : s.permit p.id = some p)
    (hid : p.id ≤ 255) (hlock : ∀ c ∈ s.permitTouches p, s.lockOf c = none) (hr : s.returnPermit p = some t)
    (hu : (t.push [.meet]).settle = u) :
    handleReturnPermit s [0#8, BitVec.ofNat 8 p.id] =
      (u, { status := .ok, rest := octets 1 p.id ++ u.permitStateOctet p.id }) := by
  have named : field [0#8, BitVec.ofNat 8 p.id] 1 1 = p.id := by
    simp [field, quantity]
    omega
  have host : field [0#8, BitVec.ofNat 8 p.id] 0 1 = 0 := rfl
  unfold handleReturnPermit
  dsimp only
  rw [named, host, hp, checked_pass (by simp [State.configuredCheck, hc])]
  dsimp only
  rw [authorityCheck_host _ hlock, checked_pass (by simp [State.visitNamed]), hr]
  dsimp only
  rw [State.countAction, if_pos rfl, hu]

/-- RETURN_PERMIT, from the host, where what it does settles. -/
theorem request_returnPermit {s t u : State} (h : s.Ready) {tag : Byte} {p : Permit} {rest : List Byte} (hc : s.configured = true)
    (hp : s.permit p.id = some p) (hid : p.id ≤ 255) (hlock : ∀ c ∈ s.permitTouches p, s.lockOf c = none)
    (hr : s.returnPermit p = some t) (hu : (t.push [.meet]).settle = u) (ha : u.agenda = [])
    (ho : u.permitStateOctet p.id = rest) :
    request .returnPermit tag [0#8, BitVec.ofNat 8 p.id] s =
      .next (u.answered 0x32#8 tag .ok (octets 1 p.id ++ rest)) := by
  have taken := handleReturnPermit_host hc hp hid hlock hr hu
  rw [ho] at taken
  exact request_done (k := .returnPermit) h (Nat.le_of_ble_eq_true rfl) taken ha

end Sys2Proof.Machine

namespace Sys2Proof.Machine

/-! ### The transfer queue of a bus (R138) -/

@[simp] theorem queueOf_onQueue (s : State) (b : Bus) (f : TransferQueue → TransferQueue) :
    (s.onQueue b f).queueOf b = f (s.queueOf b) := by
  simp [State.queueOf, State.onQueue]

theorem onQueue_congr {s : State} {b : Bus} {f g : TransferQueue → TransferQueue} (h : f (s.queueOf b) = g (s.queueOf b)) :
    s.onQueue b f = s.onQueue b g := by
  unfold State.queueOf at h
  unfold State.onQueue State.onPar
  dsimp only
  rw [h]

theorem onQueue_self {s : State} {b : Bus} {f : TransferQueue → TransferQueue} (h : f (s.queueOf b) = s.queueOf b) :
    s.onQueue b f = s := by
  unfold State.queueOf at h
  have same : s.par.queues.set b s.par.queues[b] = s.par.queues := Vector.set_getElem_self _
  unfold State.onQueue State.onPar
  dsimp only
  rw [h, same]

/-- The queue of a bus is not served while a command is in hand or the spacing runs. -/
theorem pump_busy {s : State} {b : Bus} (h : (s.queueOf b).inHand ≠ none ∨ (s.queueOf b).spacingDue ≠ none) : s.pump b = s :=
  if_neg fun ⟨hi, hs⟩ => h.elim (· hi) (· hs)

theorem enqueue_busy {s : State} {b : Bus} (h : (s.queueOf b).inHand ≠ none ∨ (s.queueOf b).spacingDue ≠ none)
    (priority : Bool) (e : TransferEntry) :
    s.enqueue b priority e = s.onQueue b fun q => q.join s.yieldRank priority e := by
  refine pump_busy ?_
  rw [queueOf_onQueue]
  have kept : ∀ q : TransferQueue, (q.join s.yieldRank priority e).inHand = q.inHand ∧
      (q.join s.yieldRank priority e).spacingDue = q.spacingDue := by
    intro q
    unfold TransferQueue.join
    split
    · exact ⟨rfl, rfl⟩
    · split <;> exact ⟨rfl, rfl⟩
  rwa [(kept _).1, (kept _).2]

/-- Nothing leaves a queue where no waiting entry is to go. -/
theorem TransferQueue.remove_none {q : TransferQueue} {gone : TransferEntry → Bool} (h : ∀ e ∈ q.waiting, gone e = false) :
    q.remove gone = q := by
  have kept : ∀ l : List TransferEntry, (∀ e ∈ l, e ∈ q.waiting) → (l.filter fun e => !gone e) = l := fun l hl =>
    List.filter_eq_self.mpr fun e he => by rw [h e (hl e he)]; rfl
  unfold TransferQueue.remove
  rw [kept q.priority fun e he => List.mem_append_left _ he, kept q.ordinary fun e he => List.mem_append_right _ he]

theorem goOnline_notBarred (q : TransferQueue) (id c : Nat) : q.bars (goOnlineEntry id c) = false := rfl

/-- A GO_ONLINE joins a queue with no entry waiting. -/
theorem join_goOnline_empty {q : TransferQueue} (hp : q.priority = []) (ho : q.ordinary = []) (rank : TransferEntry → Nat)
    (yielded : Bool) (id c : Nat) :
    q.join rank yielded (goOnlineEntry id c) =
      { q with priority := if yielded then [goOnlineEntry id c] else [],
               ordinary := if yielded then [] else [goOnlineEntry id c] } := by
  unfold TransferQueue.join
  rw [goOnline_notBarred]
  cases yielded <;> simp [TransferQueue.remove, hp, ho]

/-- A GO_ONLINE joins the priority lane between those yielded before and those yielded after it. -/
theorem join_goOnline_between {q : TransferQueue} {earlier later : List TransferEntry} {rank : TransferEntry → Nat} {id c : Nat}
    (hp : q.priority = earlier ++ later) (hq : ∀ e ∈ q.waiting, e.cabinet ≠ c)
    (he : ∀ e ∈ earlier, rank e ≤ rank (goOnlineEntry id c)) (hl : ∀ e ∈ later, rank (goOnlineEntry id c) < rank e) :
    q.join rank true (goOnlineEntry id c) = { q with priority := earlier ++ goOnlineEntry id c :: later } := by
  have kept : q.remove (TransferEntry.isOf c) = q :=
    TransferQueue.remove_none fun e h => by simpa [TransferEntry.isOf] using hq e h
  have stop : (later.takeWhile fun x => decide (rank x ≤ rank (goOnlineEntry id c))) = [] := by
    cases later with
    | nil => rfl
    | cons x rest => exact List.takeWhile_cons_of_neg (by simpa using hl x List.mem_cons_self)
  have first : (q.priority.takeWhile fun x => decide (rank x ≤ rank (goOnlineEntry id c))) = earlier := by
    rw [hp, List.takeWhile_append_of_pos (by simpa using he), stop, List.append_nil]
  unfold TransferQueue.join
  rw [goOnline_notBarred, if_neg Bool.false_ne_true, if_pos rfl, show (goOnlineEntry id c).cabinet = c from rfl, kept]
  dsimp only
  rw [first, hp, List.drop_left]

theorem onQueue_join_empty {s : State} {b : Bus} (hp : (s.queueOf b).priority = []) (ho : (s.queueOf b).ordinary = [])
    (rank : TransferEntry → Nat) (yielded : Bool) (id c : Nat) :
    (s.onQueue b fun q => q.join rank yielded (goOnlineEntry id c)) = s.onQueue b fun q =>
      { q with priority := if yielded then [goOnlineEntry id c] else [],
               ordinary := if yielded then [] else [goOnlineEntry id c] } :=
  onQueue_congr (join_goOnline_empty hp ho rank yielded id c)

theorem onQueue_join_between {s : State} {b : Bus} {earlier later : List TransferEntry} {rank : TransferEntry → Nat} {id c : Nat}
    (hp : (s.queueOf b).priority = earlier ++ later) (hq : ∀ e ∈ (s.queueOf b).waiting, e.cabinet ≠ c)
    (he : ∀ e ∈ earlier, rank e ≤ rank (goOnlineEntry id c)) (hl : ∀ e ∈ later, rank (goOnlineEntry id c) < rank e) :
    (s.onQueue b fun q => q.join rank true (goOnlineEntry id c)) =
      s.onQueue b fun q => { q with priority := earlier ++ goOnlineEntry id c :: later } :=
  onQueue_congr (join_goOnline_between hp hq he hl)

/-! ### Ends and returns of permits (R132, R140, R147) -/

/-- The end of a permit that no visit holds. -/
theorem endPermit_eq {s : State} {id : Nat} {p : Permit} (hp : s.permit id = some p) (hh : p.holder = 0) (r : PermitResult) :
    s.endPermit id r = ((((s.onQueue p.bus fun q =>
      { priority := q.priority.filter fun e => e.permit != some id, ordinary := q.ordinary.filter fun e => e.permit != some id,
        inHand := q.inHand.map fun h => if h.entry.permit = some id then { h with used := false } else h,
        spacingDue := q.spacingDue }).onPar fun x => { x with permits := x.permits.filter fun q => q.id != id }).raise .permitEnded
      p.subject (p.kind.code + p.state.code * 256) r.code).trigger p.bus) := by
  unfold State.endPermit
  rw [hp]
  dsimp only
  rw [if_pos hh, dequeue_voidInHand]
  simp [bne]

/-- The start of a return while the queue is not served. -/
theorem startReturn_busy {s : State} {p : Permit} {c : Nat} (hc : p.cabinet = some c)
    (hb : (s.queueOf p.bus).inHand ≠ none ∨ (s.queueOf p.bus).spacingDue ≠ none)
    (hw : ∀ e ∈ (s.queueOf p.bus).waiting, e.permit ≠ some p.id) :
    let t := s.onPermit p.id fun q => { q with state := .returning }
    s.startReturn p = (t.onQueue p.bus fun q => q.join t.yieldRank p.yielded (goOnlineEntry p.id c)).trigger p.bus := by
  intro t
  have kept : s.dequeue p.bus (fun e => e.permit == some p.id) = s :=
    onQueue_self (TransferQueue.remove_none fun e he => by simpa using hw e he)
  unfold State.startReturn
  rw [kept, hc]
  exact enqueue_busy (s := t.trigger p.bus) hb _ _

end Sys2Proof.Machine

namespace Sys2Proof.Machine

/-! ### RETURN_PERMIT of a withdrawal (R132, R140) -/

theorem queueOf_onPermit (s : State) (id : Nat) (f : Permit → Permit) (b : Bus) : (s.onPermit id f).queueOf b = s.queueOf b := rfl

theorem permit_recompute (s : State) (b : Bus) (id : Nat) : (s.recompute b).permit id = s.permit id := by
  unfold State.permit
  rw [State.recompute_par]

theorem permitStateOctet_some {s : State} {id : Nat} {p : Permit} (h : s.permit id = some p) :
    s.permitStateOctet id = [BitVec.ofNat 8 p.state.code] := by
  rw [State.permitStateOctet, h]
  exact octets_one _

theorem permitStateOctet_none {s : State} {id : Nat} (h : s.permit id = none) : s.permitStateOctet id = [0xFF#8] := by
  rw [State.permitStateOctet, h]
  rfl

section
variable {tag : Byte} {p : Permit} {c : Nat} {s : State}

theorem permitTouches_cabinet (hc : p.cabinet = some c) (hlock : s.lockOf c = none) :
    ∀ x ∈ s.permitTouches p, s.lockOf x = none := by
  unfold State.permitTouches
  rw [hc]
  simpa using hlock

theorem ready_triggers (hr : s.Ready) : s.agenda = [] ∧ s.hold = 0 ∧ s.triggers = Vector.replicate 4 false :=
  ⟨hr.1.1.2, hr.1.2.1, hr.1.2.2⟩

/-- A withdrawal that was neither sent nor adopted ends at once. -/
theorem returnPermit_unsent (hr : s.Ready) (hconf : s.configured = true) (hp : s.permit p.id = some p) (hid : p.id ≤ 255)
    (hh : p.holder = 0) (hst : p.state = .granted) (hk : p.kind = .withdraw) (hc : p.cabinet = some c)
    (hall : ∀ q ∈ s.par.permits, q.bus = p.bus → q.id = p.id) (hlock : s.lockOf c = none)
    (hseq : (s.seqOf p.bus).state = .normal) (hsent : p.sent = false) (had : p.adopted = false) :
    request .returnPermit tag [0#8, BitVec.ofNat 8 p.id] s =
      .next (((((s.onQueue p.bus fun q =>
          { q with priority := q.priority.filter fun e => e.permit != some p.id,
                   ordinary := q.ordinary.filter fun e => e.permit != some p.id,
                   inHand := q.inHand.map fun h => if h.entry.permit = some p.id then { h with used := false } else h }).onPar
          fun x => { x with permits := x.permits.filter fun q => q.id != p.id }).raise .permitEnded
          { bus := p.bus.val + 1, cabinet := c, permit := p.id } 256 1).recompute p.bus).answered 0x32#8 tag .ok
          (octets 1 p.id ++ [0xFF#8])) := by
  have effect : s.returnPermit p = some (s.endPermit p.id .returned) := by
    simp [State.returnPermit, hk, hst, Permit.neverSent, hsent, had]
  have subject : p.subject = { bus := p.bus.val + 1, cabinet := c, permit := p.id } := by
    simp [Permit.subject, busCode, hc, Permit.slot, hk, hh]
  rw [endPermit_eq hp hh, subject, hk, hst] at effect
  obtain ⟨ha, hold, ht⟩ := ready_triggers hr
  refine request_returnPermit hr hconf hp hid (permitTouches_cabinet hc hlock) effect (settle_returning ha hold ht ?_ ?_) ?_ ?_
  · intro q hq hb
    obtain ⟨hq, hne⟩ := List.mem_filter.mp hq
    exact absurd (hall q hq hb) (by simpa using hne)
  · change (s.seqOf p.bus).state ≠ .returnWait
    rw [hseq]
    nofun
  · rw [State.recompute_agenda]
    exact ha
  · refine permitStateOctet_none ?_
    rw [permit_recompute]
    exact List.find?_eq_none.mpr fun q hq => by simpa using (List.mem_filter.mp hq).2

/-- A withdrawal whose return begins: RETURNING, and its bus recomputed. -/
theorem returnPermit_returns {t : State} (hr : s.Ready) (hconf : s.configured = true) (hp : s.permit p.id = some p)
    (hid : p.id ≤ 255) (hc : p.cabinet = some c) (hlock : s.lockOf c = none) (effect : s.returnPermit p = some (t.trigger p.bus))
    (ha : t.agenda = []) (hh : t.hold = 0) (ht : t.triggers = Vector.replicate 4 false) (hall : t.AllReturning p.bus)
    (hseq : (t.seqOf p.bus).state ≠ .returnWait) {q : Permit} (hq : t.permit p.id = some q) (hst : q.state = .returning) :
    request .returnPermit tag [0#8, BitVec.ofNat 8 p.id] s =
      .next ((t.recompute p.bus).answered 0x32#8 tag .ok (octets 1 p.id ++ [2#8])) := by
  refine request_returnPermit hr hconf hp hid (permitTouches_cabinet hc hlock) effect (settle_returning ha hh ht hall hseq)
    (by rw [State.recompute_agenda, ha]) ?_
  rw [permitStateOctet_some (by rw [permit_recompute, hq]), hst]
  rfl

/-- A withdrawal that was sent or adopted goes RETURNING, its GO_ONLINE behind the command in hand. -/
theorem returnPermit_sent (hr : s.Ready) (hconf : s.configured = true) (hp : s.permit p.id = some p) (hid : p.id ≤ 255)
    (hst : p.state = .granted) (hk : p.kind = .withdraw) (hc : p.cabinet = some c)
    (hall : ∀ q ∈ s.par.permits, q.bus = p.bus → q.id = p.id) (hlock : s.lockOf c = none)
    (hseq : (s.seqOf p.bus).state = .normal) {h : InHand} (hsent : p.sent = true ∨ p.adopted = true)
    (hin : (s.queueOf p.bus).inHand = some h) (hpri : (s.queueOf p.bus).priority = []) (hord : (s.queueOf p.bus).ordinary = []) :
    request .returnPermit tag [0#8, BitVec.ofNat 8 p.id] s =
      .next ((((s.onPermit p.id fun q => { q with returnOrdered := true, state := .returning }).onQueue p.bus fun q =>
        { q with priority := if p.yielded then [goOnlineEntry p.id c] else [],
                 ordinary := if p.yielded then [] else [goOnlineEntry p.id c] }).recompute p.bus).answered 0x32#8 tag .ok
        (octets 1 p.id ++ [2#8])) := by
  have effect : s.returnPermit p = some ((s.onPermit p.id fun q => { q with returnOrdered := true }).startReturn p) := by
    have : p.neverSent = false := by rcases hsent with e | e <;> simp [Permit.neverSent, e]
    simp [State.returnPermit, hk, hst, this]
  have started := startReturn_busy (s := s.onPermit p.id fun q => { q with returnOrdered := true }) hc
    (.inl (by rw [queueOf_onPermit, hin]; nofun))
    (by rw [queueOf_onPermit, TransferQueue.waiting, hpri, hord]; nofun)
  dsimp only at started
  rw [onPermit_onPermit s p.id (f := fun q => { q with returnOrdered := true }) fun _ => rfl,
    onQueue_join_empty (s := s.onPermit p.id _) hpri hord] at started
  rw [started] at effect
  obtain ⟨ha, hh, ht⟩ := ready_triggers hr
  refine returnPermit_returns hr hconf hp hid hc hlock effect ha hh ht ?_ (show (s.seqOf p.bus).state ≠ _ by rw [hseq]; nofun)
    (q := { p with returnOrdered := true, state := .returning }) ?_ rfl
  · exact allReturning_onPermit (f := fun q => { q with returnOrdered := true, state := .returning }) (fun _ => rfl)
      fun q hq hb ne => absurd (hall q hq hb) ne
  · exact permit_onPermit_some hp (fun q => { q with returnOrdered := true, state := .returning }) fun _ => rfl

/-- The retry of a yielded return that was blocked joins the priority lane in the order of the yields. -/
theorem returnPermit_retried (hr : s.Ready) (hconf : s.configured = true) (hp : s.permit p.id = some p) (hid : p.id ≤ 255)
    (hst : p.state = .returnBlocked) (hk : p.kind = .withdraw) (hc : p.cabinet = some c) {y : Nat} (hy : p.yielded = true)
    (hseqy : p.yieldSequence = some y) (hall : s.AllReturning p.bus) (hlock : s.lockOf c = none)
    (hseq : (s.seqOf p.bus).state = .normal) {h : InHand} {earlier later : List TransferEntry}
    (hin : (s.queueOf p.bus).inHand = some h) (hpri : (s.queueOf p.bus).priority = earlier ++ later)
    (hw : ∀ e ∈ (s.queueOf p.bus).waiting, e.cabinet ≠ c ∧ e.permit ≠ some p.id)
    (he : ∀ e ∈ earlier, ∃ q, e.permit = some q.id ∧ s.permit q.id = some q ∧ ∃ z, q.yieldSequence = some z ∧ z < y)
    (hl : ∀ e ∈ later, ∃ q, e.permit = some q.id ∧ s.permit q.id = some q ∧ ∃ z, q.yieldSequence = some z ∧ y < z) :
    request .returnPermit tag [0#8, BitVec.ofNat 8 p.id] s =
      .next ((((s.onPermit p.id fun q => { q with state := .returning }).onQueue p.bus fun q =>
        { q with priority := earlier ++ goOnlineEntry p.id c :: later }).recompute p.bus).answered 0x32#8 tag .ok
        (octets 1 p.id ++ [2#8])) := by
  have effect : s.returnPermit p = some (s.startReturn p) := by simp [State.returnPermit, hk, hst]
  have found : (s.onPermit p.id fun q => { q with state := .returning }).permit p.id = some { p with state := .returning } :=
    permit_onPermit_some hp (fun q => { q with state := .returning }) fun _ => rfl
  have own : (s.onPermit p.id fun q => { q with state := .returning }).yieldRank (goOnlineEntry p.id c) = y := by
    simp [State.yieldRank, goOnlineEntry, found, hseqy]
  have rank : ∀ {e : TransferEntry} {q : Permit} {z : Nat}, e ∈ (s.queueOf p.bus).waiting → e.permit = some q.id →
      s.permit q.id = some q → q.yieldSequence = some z →
      (s.onPermit p.id fun q => { q with state := .returning }).yieldRank e = z := by
    intro e q z hin hq found hz
    have ne : q.id ≠ p.id := fun h => (hw e hin).2 (by rw [hq, h])
    simp [State.yieldRank, hq, permit_onPermit_other s ne (f := fun q => { q with state := .returning }) (fun _ => rfl), found, hz]
  have joined := onQueue_join_between (id := p.id) (s := s.onPermit p.id fun q => { q with state := .returning }) (b := p.bus)
    hpri (fun e h => (hw e h).1) (rank := (s.onPermit p.id fun q => { q with state := .returning }).yieldRank)
    (by
      intro e h
      obtain ⟨q, hq, found, z, hz, lt⟩ := he e h
      rw [own, rank (List.mem_append_left _ (by rw [hpri]; exact List.mem_append_left _ h)) hq found hz]
      exact lt.le)
    (by
      intro e h
      obtain ⟨q, hq, found, z, hz, lt⟩ := hl e h
      rwa [own, rank (List.mem_append_left _ (by rw [hpri]; exact List.mem_append_right _ h)) hq found hz])
  have started := startReturn_busy hc (.inl (by rw [hin]; nofun)) fun e h => (hw e h).2
  dsimp only at started
  rw [hy, joined] at started
  rw [started] at effect
  obtain ⟨ha, hh, ht⟩ := ready_triggers hr
  refine returnPermit_returns hr hconf hp hid hc hlock effect ha hh ht ?_ (show (s.seqOf p.bus).state ≠ _ by rw [hseq]; nofun)
    found rfl
  exact allReturning_onPermit (f := fun q => { q with state := .returning }) (fun _ => rfl) fun q hq hb _ => hall q hq hb

end

end Sys2Proof.Machine

namespace Sys2Proof.Machine

/-! ### A trigger met as one step of several -/

/-- The meeting of the one trigger begins. -/
theorem handNext_meet {t : State} {b : Bus} (rest : List Task) (hh : t.hold = 0) (ht : t.triggers = Vector.replicate 4 false) :
    handNext .meet rest ((t.trigger b).onAgenda fun _ => .meet :: rest) =
      (t.trigger b).onAgenda fun _ => .recompute b :: .meet :: rest := by
  have found : ((t.trigger b).onAgenda fun _ => []).firstTrigger = some b := State.firstTrigger_trigger ht b
  have hold : ((t.trigger b).onAgenda fun _ => []).hold = 0 := hh
  unfold handNext
  change ((((t.trigger b).onAgenda fun _ => []).meet).onAgenda _) = _
  rw [State.meet, if_pos hold, found]
  rfl

/-- The trigger of one bus met, with other signals waiting behind it, where the passes of the bus find nothing. -/
theorem hands_trigger {t : State} {b : Bus} (rest : List Task) (ha : t.agenda = []) (hh : t.hold = 0)
    (ht : t.triggers = Vector.replicate 4 false) (hp : ((t.recompute b).onHold (· + 1)).PassesRest b) :
    ∃ k ≤ 11, Hands k ((t.trigger b).onAgenda fun _ => .meet :: rest) ((t.recompute b).onAgenda fun _ => rest) := by
  have met : ((t.trigger b).onAgenda fun _ => .recompute b :: .meet :: rest).metBus b =
      (t.recompute b).onAgenda fun _ => .recompute b :: .meet :: rest := by
    rw [metBus_onAgenda, State.metBus_trigger (State.triggers_none ht b)]
  have none : (t.recompute b).agenda = [] := by rw [State.recompute_agenda, ha]
  have handed : ((t.trigger b).onAgenda fun _ => .recompute b :: .meet :: rest).handed b = (t.recompute b).onHold (· + 1) := by
    rw [State.handed, met]
    exact State.onAgenda_nil (s := (t.recompute b).onHold (· + 1)) none
  obtain ⟨k, hk, l, hands, hl⟩ := hands_rest ((t.trigger b).onAgenda fun _ => .recompute b :: .meet :: rest) b (.meet :: rest) rfl
    hh (handed ▸ hp)
  rw [met] at hands
  have idle : ∀ m, Hands 1 ((t.recompute b).onAgenda fun _ => .meet :: m) ((t.recompute b).onAgenda fun _ => m) := fun m =>
    .idle (doTask_meet_none (by rw [State.onAgenda_hold, State.recompute_hold, hh])
      (by rw [State.onAgenda_triggers, State.recompute_triggers, ht])) (.none _)
  have start := Hands.more .meet rest rfl ((handNext_meet rest hh ht).symm ▸ hands)
  rcases hl with rfl | rfl
  · exact ⟨_, by omega, start.trans (idle rest)⟩
  · exact ⟨_, by omega, (start.trans (idle (.meet :: rest))).trans (idle rest)⟩

end Sys2Proof.Machine

namespace Sys2Proof.Machine

/-! ### The return check (R145 step 1) -/

/-- The cabinets of a bus that a return would prepare. -/
def State.readyToReturn (s : State) (b : Bus) : List Nat :=
  ((s.cabinetsOf b).filter fun x => x.2.track.state == .online && !s.excluded x.1).map fun x => x.1

theorem returnSet_eq {s : State} {b : Bus} {u : BusUnit} {m : Nat} (hu : s.bus b = some u) (hm : s.masterOf b = some m) :
    s.returnSet b =
      if m ∈ s.readyToReturn b ∧ 0 ≤ (s.returnFigures b u.defn).margin then some (s.readyToReturn b) else none := by
  rw [State.returnSet, hu, hm]
  exact if_congr (by rw [List.contains_iff_mem]; rfl) rfl rfl

theorem readyToReturn_congr {s t : State} (hc : t.cabinets = s.cabinets) (he : ∀ c, t.excluded c = s.excluded c) (b : Bus) :
    t.readyToReturn b = s.readyToReturn b := by
  simp only [State.readyToReturn, State.cabinetsOf, State.definedCabinets, State.cabinet, hc, he]

theorem returnFigures_congr {s t : State} (hc : t.cabinets = s.cabinets) (hs : t.scs = s.scs)
    (he : ∀ c, t.excluded c = s.excluded c) (b : Bus) (d : BusRec) : t.returnFigures b d = s.returnFigures b d := by
  simp only [State.returnFigures, State.figuresFrom, State.readingOf, State.cabinetsOf, State.definedCabinets, State.cabinet, hc, hs,
    he]

theorem masterOf_congr {s t : State} (hc : t.cabinets = s.cabinets) (b : Bus) : t.masterOf b = s.masterOf b := by
  simp only [State.masterOf, State.cabinetsOf, State.definedCabinets, State.cabinet, hc]

/-- A WITHDRAW permit that is live and not waiting keeps its cabinet out (R114). -/
theorem excluded_eq (s : State) (c : Nat) :
    (!s.excluded c) = s.par.permits.all fun q => !(q.kind == .withdraw && q.cabinet == some c && q.state != .waiting) := by
  have states : ∀ x : PermitState, [PermitState.granted, .returning, .returnBlocked].contains x = (x != .waiting) := by
    intro x
    cases x <;> rfl
  unfold State.excluded State.withdrawnIn
  rw [List.not_any_eq_all_not]
  simp only [states]

/-- A change of permits that are no withdrawals excludes no cabinet. -/
theorem excluded_onPermit {s : State} {id : Nat} {f : Permit → Permit}
    (hf : ∀ q ∈ s.par.permits, q.id = id → q.kind ≠ .withdraw ∧ (f q).kind ≠ .withdraw) (c : Nat) :
    (s.onPermit id f).excluded c = s.excluded c := by
  unfold State.excluded State.withdrawnIn State.onPermit
  rw [State.onPar_par, List.any_map]
  rw [Bool.eq_iff_iff, List.any_eq_true, List.any_eq_true]
  refine exists_congr fun q => and_congr_right fun hq => ?_
  rw [Function.comp_apply]
  split
  next h =>
    obtain ⟨h1, h2⟩ := hf q hq h
    simp [h1, h2]
  next => rfl

theorem readyToReturn_nodup (s : State) (b : Bus) : (s.readyToReturn b).Nodup := by
  have indices : (s.definedCabinets.map Prod.fst).Sublist cabinetIndices := by
    unfold State.definedCabinets
    induction cabinetIndices with
    | nil => simp
    | cons c rest ih =>
      cases h : s.cabinet c with
      | none => simpa [h] using ih.trans (List.sublist_cons_self c rest)
      | some k => simpa [h] using ih
  have sub : (s.readyToReturn b).Sublist (s.definedCabinets.map Prod.fst) :=
    List.Sublist.map _ (List.filter_sublist.trans List.filter_sublist)
  exact (sub.trans indices).nodup (List.nodup_range' ..)

end Sys2Proof.Machine

namespace Sys2Proof.Machine

/-! ### PREPARE for each cabinet of a set (R143, R145 step 2) -/

@[simp] theorem seqOf_onSeq (s : State) (b : Bus) (f : Sequencer → Sequencer) : (s.onSeq b f).seqOf b = f (s.seqOf b) := by
  simp [State.seqOf, State.onSeq]

theorem onSeq_onSeq (s : State) (b : Bus) (f g : Sequencer → Sequencer) :
    (s.onSeq b f).onSeq b g = s.onSeq b fun q => g (f q) := by
  simp [State.onSeq, State.onPar]

/-- The entry of a BYPASS_PREPARE. -/
def prepareEntry (c : Nat) : TransferEntry := { cabinet := c, command := .prepare, permit := none }

/-- A PREPARE joins the ordinary lane behind the PREPAREs of other cabinets. -/
theorem join_prepare {q : TransferQueue} {set : List Nat} {c : Nat} (hp : q.priority = []) (ho : q.ordinary = set.map prepareEntry)
    (hc : c ∉ set) (rank : TransferEntry → Nat) :
    q.join rank false (prepareEntry c) = { q with ordinary := (set ++ [c]).map prepareEntry } := by
  have free : ∀ e ∈ q.ordinary, (!e.isOf c) = true := by
    intro e he
    rw [ho] at he
    obtain ⟨x, hx, rfl⟩ := List.mem_map.mp he
    have : x ≠ c := fun h => hc (h ▸ hx)
    simpa [TransferEntry.isOf, prepareEntry] using this
  have bars : q.bars (prepareEntry c) = false := by
    have none : (q.waiting.any fun x => x.isOf c && !x.command.ofBypass) = false := by
      rw [List.any_eq_false, TransferQueue.waiting, hp, List.nil_append]
      intro e he
      have := free e he
      simp_all
    exact (congrArg (_ && ·) none).trans (Bool.and_false _)
  have before : (q.ordinary.takeWhile fun x => !x.isOf c) = q.ordinary := List.takeWhile_eq_self_iff.mpr free
  unfold TransferQueue.join
  rw [bars, if_neg Bool.false_ne_true, if_neg Bool.false_ne_true]
  dsimp only
  rw [show (prepareEntry c).cabinet = c from rfl, before, List.drop_length, hp, ho, List.map_append]
  rfl

/-- The PREPAREs of a set join one after another while the queue is not served. -/
theorem foldl_prepare (b : Bus) (set : List Nat) : ∀ (before : List Nat) (s : State), (before ++ set).Nodup →
    ((s.queueOf b).inHand ≠ none ∨ (s.queueOf b).spacingDue ≠ none) → (s.queueOf b).priority = [] →
    (s.queueOf b).ordinary = before.map prepareEntry →
    set.foldl (fun s c => s.bypassCommand b c .prepare) s =
      s.onQueue b fun q => { q with ordinary := (before ++ set).map prepareEntry } := by
  induction set with
  | nil =>
    intro before s _ _ _ ho
    exact (onQueue_self (s := s) (by rw [List.append_nil, ← ho])).symm
  | cons c rest ih =>
    intro before s nd busy hp ho
    have new : c ∉ before := fun h => (List.nodup_append.mp nd).2.2 c h c List.mem_cons_self rfl
    have joined : s.bypassCommand b c .prepare = s.onQueue b fun q => { q with ordinary := (before ++ [c]).map prepareEntry } :=
      (enqueue_busy busy false (prepareEntry c)).trans (onQueue_congr (join_prepare hp ho new _))
    rw [List.foldl_cons, joined, ih (before ++ [c])]
    · rw [onQueue_onQueue, List.append_assoc]
      rfl
    · rwa [List.append_assoc]
    · rwa [queueOf_onQueue]
    · rwa [queueOf_onQueue]
    · rw [queueOf_onQueue]

theorem prepareAll_busy {s : State} {b : Bus} {set : List Nat} (nd : set.Nodup)
    (busy : (s.queueOf b).inHand ≠ none ∨ (s.queueOf b).spacingDue ≠ none) (hp : (s.queueOf b).priority = [])
    (ho : (s.queueOf b).ordinary = []) :
    s.prepareAll b set = (s.onSeq b fun q =>
      { q with prepared := set.map fun c => { cabinet := c, handed := false, accepted := false }, syncDue := none,
               transferDue := none }).onQueue b fun q => { q with ordinary := set.map prepareEntry } :=
  foldl_prepare b set [] _ nd busy hp ho

/-- A return goes on to RE_PREPARING with a PREPARE for each cabinet of a set. -/
def State.rePrepare (s : State) (b : Bus) (set : List Nat) : State :=
  (s.onSeq b fun q =>
    { q with state := .rePreparing, syncDue := none, transferDue := none,
             prepared := set.map fun c => { cabinet := c, handed := false, accepted := false } }).onQueue b fun q =>
    { q with ordinary := set.map prepareEntry }

theorem rePrepare_rest (s : State) (b : Bus) (set : List Nat) :
    (s.rePrepare b set).par.permits = s.par.permits ∧ (s.rePrepare b set).agenda = s.agenda ∧
      (s.rePrepare b set).hold = s.hold ∧ (s.rePrepare b set).triggers = s.triggers := ⟨rfl, rfl, rfl, rfl⟩

theorem rePrepare_state (s : State) (b : Bus) (set : List Nat) : ((s.rePrepare b set).seqOf b).state = .rePreparing := by
  unfold State.rePrepare State.seqOf State.onQueue State.onSeq
  simp

theorem returnCheck_prepares {s : State} {b : Bus} {set : List Nat} (wait : (s.seqOf b).state = .returnWait)
    (found : s.returnSet b = some set) (nd : set.Nodup)
    (busy : (s.queueOf b).inHand ≠ none ∨ (s.queueOf b).spacingDue ≠ none) (hp : (s.queueOf b).priority = [])
    (ho : (s.queueOf b).ordinary = []) :
    s.returnCheck b = (s.rePrepare b set).trigger b := by
  rw [State.returnCheck, if_pos wait, found]
  have all := prepareAll_busy (s := s.seqTo b .rePreparing) nd busy hp ho
  have fused := onSeq_onSeq s b (fun q => { q with state := .rePreparing }) fun q =>
    { q with prepared := set.map fun c => { cabinet := c, handed := false, accepted := false }, syncDue := none,
             transferDue := none }
  refine all.trans ?_
  rw [State.seqTo, State.rePrepare, ← fused]
  rfl

/-! ### RETURN_PERMIT of a bypass (R132, R145) -/

/-- RETURN_WAIT entered for a permit whose return is ordered. -/
def State.returnWaiting (s : State) (p : Permit) : State :=
  (s.onPermit p.id fun q => { q with returnOrdered := true, state := .returning }).onSeq p.bus fun q =>
    { q with state := .returnWait, returnSince := some s.now }

theorem enterReturnWait_eq (s : State) (p : Permit) :
    s.enterReturnWait p.bus p.id = ((s.returnWaiting p).trigger p.bus).push [.returnCheck p.bus] := by
  unfold State.enterReturnWait State.seqTo
  dsimp only
  rw [onSeq_onSeq]
  rfl

section
variable {tag : Byte} {p : Permit} {s : State}

theorem permitTouches_bus (hc : p.cabinet = none) (hlock : ∀ x ∈ s.cabinetsOf p.bus, s.lockOf x.1 = none) :
    ∀ x ∈ s.permitTouches p, s.lockOf x = none := by
  unfold State.permitTouches
  rw [hc]
  simpa using hlock

/-- A bypass whose transfer is under way is marked return-ordered. -/
theorem returnPermit_marks (hr : s.Ready) (hconf : s.configured = true) (hp : s.permit p.id = some p) (hid : p.id ≤ 255)
    (hst : p.state = .granted) (hk : p.kind = .busBypass) (hc : p.cabinet = none) (ho : p.returnOrdered = false)
    (hseq : (s.seqOf p.bus).state = .preparing ∨ (s.seqOf p.bus).state = .closing)
    (hlock : ∀ x ∈ s.cabinetsOf p.bus, s.lockOf x.1 = none) :
    request .returnPermit tag [0#8, BitVec.ofNat 8 p.id] s = .next
      ((s.onPermit p.id fun q => { q with returnOrdered := true }).answered 0x32#8 tag .ok (octets 1 p.id ++ [1#8])) := by
  have effect : s.returnPermit p = some (s.onPermit p.id fun q => { q with returnOrdered := true }) := by
    rcases hseq with h | h <;> simp [State.returnPermit, hk, hst, ho, h]
  obtain ⟨ha, -, ht⟩ := ready_triggers hr
  have agenda : (s.onPermit p.id fun q => { q with returnOrdered := true }).agenda = [] := ha
  refine request_returnPermit hr hconf hp hid (permitTouches_bus hc hlock) effect
    ((settle_meet_none (State.push_meet_agenda agenda) ht).trans (State.onAgenda_nil agenda)) agenda ?_
  rw [permitStateOctet_some (permit_onPermit_some hp (fun q => { q with returnOrdered := true }) fun _ => rfl), hst]
  rfl

/-- What the check of RETURN_WAIT reads is not changed as RETURN_WAIT is entered for a bypass, nor by a recomputation. -/
theorem returnWaiting_excluded (hone : ∀ q ∈ s.par.permits, q.id = p.id → q = p) (hk : p.kind = .busBypass) (c : Nat) :
    (s.returnWaiting p).excluded c = s.excluded c :=
  excluded_onPermit (f := fun q => { q with returnOrdered := true, state := .returning })
    (fun q hq h => by rw [hone q hq h, hk]; exact ⟨nofun, nofun⟩) c

/-- The one permit of the bus is on its way back. -/
theorem returnWaiting_allReturning (hall : s.par.permits.filter (fun q => q.bus == p.bus) = [p]) :
    (s.returnWaiting p).AllReturning p.bus :=
  allReturning_onPermit (f := fun q => { q with returnOrdered := true, state := .returning }) (fun _ => rfl)
    fun _ hq hb ne => absurd (congrArg Permit.id (permit_only hall hq hb)) ne

theorem returnSet_congr {t : State} {b : Bus} {u w : BusUnit} {m : Nat} (hu : s.bus b = some u) (hw : t.bus b = some w)
    (hd : w.defn = u.defn) (hm : s.masterOf b = some m) (hc : t.cabinets = s.cabinets) (hs : t.scs = s.scs)
    (he : ∀ c, t.excluded c = s.excluded c) : t.returnSet b = s.returnSet b := by
  rw [returnSet_eq hw ((masterOf_congr hc b).trans hm), returnSet_eq hu hm, readyToReturn_congr hc he, returnFigures_congr hc hs he,
    hd]

/-- The return of a bypass on maintenance bypass waits where the return-check figures do not qualify. -/
theorem returnPermit_waits (hr : s.Ready) (hconf : s.configured = true) (hp : s.permit p.id = some p) (hid : p.id ≤ 255)
    (hst : p.state = .granted) (hk : p.kind = .busBypass) (hc : p.cabinet = none) (ho : p.returnOrdered = false)
    {u : BusUnit} {m : Nat} (hu : s.bus p.bus = some u) (hm : s.masterOf p.bus = some m)
    (hseq : (s.seqOf p.bus).state = .onMaintBypass) (hall : s.par.permits.filter (fun q => q.bus == p.bus) = [p])
    (hone : ∀ q ∈ s.par.permits, q.id = p.id → q = p) (hlock : ∀ x ∈ s.cabinetsOf p.bus, s.lockOf x.1 = none)
    (hset : s.returnSet p.bus = none) :
    request .returnPermit tag [0#8, BitVec.ofNat 8 p.id] s = .next
      (((s.returnWaiting p).recompute p.bus).answered 0x32#8 tag .ok (octets 1 p.id ++ [2#8])) := by
  have effect : s.returnPermit p = some (((s.returnWaiting p).trigger p.bus).push [.returnCheck p.bus]) := by
    rw [← enterReturnWait_eq]
    simp [State.returnPermit, hk, hst, ho, hseq]
  obtain ⟨ha, hh, ht⟩ := ready_triggers hr
  have excluded := returnWaiting_excluded hone hk
  have agenda : ((s.returnWaiting p).trigger p.bus).agenda = [] := ha
  have idle : (((s.returnWaiting p).trigger p.bus).onAgenda fun _ => []).returnCheck p.bus =
      ((s.returnWaiting p).trigger p.bus).onAgenda fun _ => [] :=
    returnCheck_noSet ((returnSet_congr (t := ((s.returnWaiting p).trigger p.bus).onAgenda fun _ => []) hu hu rfl hm rfl rfl
      excluded).trans hset)
  have rest : (((s.returnWaiting p).recompute p.bus).onHold (· + 1)).PassesRest p.bus := by
    refine passesRest_returning (returnWaiting_allReturning hall).handed (returnCheck_noSet ?_)
    refine (returnSet_congr hu (recompute_bus (s := s.returnWaiting p) hu) rfl hm ?_ ?_ fun c => ?_).trans hset
    · exact State.recompute_cabinets _ _
    · exact State.recompute_scs _ _
    · refine Eq.trans ?_ (excluded c)
      have par : ((s.returnWaiting p).recompute p.bus).par = (s.returnWaiting p).par := State.recompute_par _ _
      change ((s.returnWaiting p).recompute p.bus).excluded c = _
      unfold State.excluded State.withdrawnIn
      rw [par]
  obtain ⟨k, hk', hands⟩ := hands_trigger (t := s.returnWaiting p) [] ha hh ht rest
  have settled : ((((s.returnWaiting p).trigger p.bus).push [.returnCheck p.bus]).push [.meet]).settle =
      (s.returnWaiting p).recompute p.bus := by
    rw [State.push_push, State.push_eq agenda]
    refine (Hands.settle (Hands.idle (t := .returnCheck p.bus) idle hands) (by unfold settleBound; omega) rfl).trans ?_
    exact State.onAgenda_nil (by rw [State.recompute_agenda]; exact ha)
  refine request_returnPermit hr hconf hp hid (permitTouches_bus hc hlock) effect settled (by rw [State.recompute_agenda]; exact ha) ?_
  rw [permitStateOctet_some (by
    rw [permit_recompute]
    exact permit_onPermit_some hp (fun q => { q with returnOrdered := true, state := .returning }) fun _ => rfl)]
  rfl

/-- The return of a bypass on maintenance bypass prepares the cabinets that the return-check figures qualify. -/
theorem returnPermit_prepares (hr : s.Ready) (hconf : s.configured = true) (hp : s.permit p.id = some p) (hid : p.id ≤ 255)
    (hst : p.state = .granted) (hk : p.kind = .busBypass) (hc : p.cabinet = none) (ho : p.returnOrdered = false)
    {u : BusUnit} {m : Nat} (hu : s.bus p.bus = some u) (hm : s.masterOf p.bus = some m)
    (hseq : (s.seqOf p.bus).state = .onMaintBypass) (hall : s.par.permits.filter (fun q => q.bus == p.bus) = [p])
    (hone : ∀ q ∈ s.par.permits, q.id = p.id → q = p) (hlock : ∀ x ∈ s.cabinetsOf p.bus, s.lockOf x.1 = none) {set : List Nat}
    (hset : s.returnSet p.bus = some set) (hnd : set.Nodup) (hpri : (s.queueOf p.bus).priority = [])
    (hord : (s.queueOf p.bus).ordinary = [])
    (hbusy : (s.queueOf p.bus).inHand ≠ none ∨ (s.queueOf p.bus).spacingDue ≠ none) :
    request .returnPermit tag [0#8, BitVec.ofNat 8 p.id] s = .next
      ((((s.returnWaiting p).rePrepare p.bus set).recompute p.bus).answered 0x32#8 tag .ok (octets 1 p.id ++ [2#8])) := by
  have effect : s.returnPermit p = some (((s.returnWaiting p).trigger p.bus).push [.returnCheck p.bus]) := by
    rw [← enterReturnWait_eq]
    simp [State.returnPermit, hk, hst, ho, hseq]
  obtain ⟨ha, hh, ht⟩ := ready_triggers hr
  have agenda : ((s.returnWaiting p).trigger p.bus).agenda = [] := ha
  have prepared : ((s.returnWaiting p).trigger p.bus).returnCheck p.bus = ((s.returnWaiting p).rePrepare p.bus set).trigger p.bus := by
    have wait : (((s.returnWaiting p).trigger p.bus).seqOf p.bus).state = .returnWait := by
      change ((s.returnWaiting p).seqOf p.bus).state = _
      rw [State.returnWaiting, seqOf_onSeq]
    have found : ((s.returnWaiting p).trigger p.bus).returnSet p.bus = some set :=
      (returnSet_congr (t := (s.returnWaiting p).trigger p.bus) hu hu rfl hm rfl rfl (returnWaiting_excluded hone hk)).trans hset
    rw [returnCheck_prepares wait found hnd hbusy hpri hord]
    exact State.trigger_trigger ((s.returnWaiting p).rePrepare p.bus set) p.bus
  have found : ((s.returnWaiting p).rePrepare p.bus set).permit p.id = some { p with returnOrdered := true, state := .returning } :=
    permit_onPermit_some hp (fun q => { q with returnOrdered := true, state := .returning }) fun _ => rfl
  have all : ((s.returnWaiting p).rePrepare p.bus set).AllReturning p.bus := returnWaiting_allReturning hall
  obtain ⟨-, ra, rh, rt⟩ := rePrepare_rest (s.returnWaiting p) p.bus set
  have state : (((s.returnWaiting p).rePrepare p.bus set).seqOf p.bus).state ≠ .returnWait := by
    rw [rePrepare_state]
    nofun
  have ra := ra.trans ha
  have rh := rh.trans hh
  have rt := rt.trans ht
  generalize (s.returnWaiting p).rePrepare p.bus set = t at *
  obtain ⟨k, hk', hands⟩ := hands_trigger (t := t) [] ra rh rt (passesRest_handed all state)
  have step : handNext (.returnCheck p.bus) [.meet] (((s.returnWaiting p).trigger p.bus).onAgenda fun _ => [.returnCheck p.bus, .meet]) =
      (t.trigger p.bus).onAgenda fun _ => [.meet] := by
    unfold handNext
    change ((((s.returnWaiting p).trigger p.bus).onAgenda fun _ => []).returnCheck p.bus).onAgenda _ = _
    rw [State.onAgenda_nil agenda, prepared]
    unfold State.onAgenda
    rw [show (t.trigger p.bus).agenda = [] from ra]
    rfl
  have settled : ((((s.returnWaiting p).trigger p.bus).push [.returnCheck p.bus]).push [.meet]).settle = t.recompute p.bus := by
    rw [State.push_push, State.push_eq agenda]
    refine (Hands.settle (Hands.more (.returnCheck p.bus) [.meet] rfl (step ▸ hands)) (by unfold settleBound; omega) rfl).trans ?_
    exact State.onAgenda_nil (by rw [State.recompute_agenda, ra])
  refine request_returnPermit hr hconf hp hid (permitTouches_bus hc hlock) effect settled (by rw [State.recompute_agenda, ra]) ?_
  rw [permitStateOctet_some (by rw [permit_recompute, found])]
  rfl

end

end Sys2Proof.Machine

namespace Sys2Proof.Machine

/-! ### The next withdrawal to yield (R141) -/

/-- A permit of the bus that may be yielded: a YIELD withdrawal, GRANTED, its cabinet not ISOLATED. -/
def State.canYield (s : State) (b : Bus) (p : Permit) : Bool :=
  p.bus == b && p.kind == .withdraw && p.policy == some .yield && p.state == .granted &&
    p.cabinet.any fun c => s.tracked c != some .isolated

theorem canYield_iff {s : State} {b : Bus} {p : Permit} :
    s.canYield b p = true ↔ p.bus = b ∧ p.kind = .withdraw ∧ p.policy = some .yield ∧ p.state = .granted ∧
      ∃ c, p.cabinet = some c ∧ s.tracked c ≠ some .isolated := by
  simp [State.canYield, Option.any_eq_true, and_assoc]

/-- The later grant of two. -/
def laterGrant (best : Option Permit) (p : Permit) : Option Permit :=
  match best with
  | none => some p
  | some q => if q.grantSequence.getD 0 < p.grantSequence.getD 0 then some p else best

theorem yieldCandidate_eq (s : State) (b : Bus) :
    s.yieldCandidate b = (s.par.permits.filter (s.canYield b)).foldl laterGrant none := rfl

theorem laterGrant_spec (best : Option Permit) (p : Permit) :
    ∃ o, laterGrant best p = some o ∧ (o = p ∨ best = some o) ∧ p.grantSequence.getD 0 ≤ o.grantSequence.getD 0 ∧
      ∀ q, best = some q → q.grantSequence.getD 0 ≤ o.grantSequence.getD 0 := by
  cases best with
  | none => exact ⟨p, rfl, .inl rfl, le_rfl, fun q hq => absurd hq.symm (Option.some_ne_none q)⟩
  | some o =>
    have only : ∀ {n : Nat}, o.grantSequence.getD 0 ≤ n → ∀ q, some o = some q → q.grantSequence.getD 0 ≤ n := by
      intro n h q hq
      rwa [← Option.some.inj hq]
    by_cases later : o.grantSequence.getD 0 < p.grantSequence.getD 0
    · exact ⟨p, if_pos later, .inl rfl, le_rfl, only later.le⟩
    · exact ⟨o, if_neg later, .inr rfl, not_lt.mp later, only le_rfl⟩

/-- The permit found is one of those looked at, and none of them has a later grant. -/
theorem foldl_laterGrant_some (l : List Permit) : ∀ (best : Option Permit) (r : Permit), l.foldl laterGrant best = some r →
    (r ∈ l ∨ best = some r) ∧ (∀ q ∈ l, q.grantSequence.getD 0 ≤ r.grantSequence.getD 0) ∧
      ∀ q, best = some q → q.grantSequence.getD 0 ≤ r.grantSequence.getD 0 := by
  induction l with
  | nil =>
    intro best r h
    rw [List.foldl_nil] at h
    exact ⟨.inr h, fun q hq => absurd hq List.not_mem_nil, fun q hq => by rw [h] at hq; rw [Option.some.inj hq]⟩
  | cons p rest ih =>
    intro best r h
    obtain ⟨o, step, which, hp, hbest⟩ := laterGrant_spec best p
    rw [List.foldl_cons, step] at h
    obtain ⟨found, least, first⟩ := ih (some o) r h
    have ho := first o rfl
    refine ⟨?_, List.forall_mem_cons.mpr ⟨hp.trans ho, least⟩, fun q hq => (hbest q hq).trans ho⟩
    rcases found with h | h
    · exact .inl (List.mem_cons_of_mem p h)
    · rw [← Option.some.inj h]
      exact which.imp (fun (e : o = p) => by rw [e]; exact List.mem_cons_self) id

theorem foldl_laterGrant_none (l : List Permit) : ∀ best : Option Permit, l.foldl laterGrant best = none → l = [] := by
  induction l with
  | nil => exact fun _ _ => rfl
  | cons p rest ih =>
    intro best h
    obtain ⟨o, step, -⟩ := laterGrant_spec best p
    rw [List.foldl_cons, step] at h
    have start : ∀ (l : List Permit) (o : Permit), l.foldl laterGrant (some o) ≠ none := by
      intro l
      induction l with
      | nil => exact fun o => Option.some_ne_none o
      | cons p rest ih =>
        intro o
        obtain ⟨x, step, -⟩ := laterGrant_spec (some o) p
        rw [List.foldl_cons, step]
        exact ih x
    exact absurd h (start rest o)

theorem yieldCandidate_some {s : State} {b : Bus} {p : Permit} (h : s.yieldCandidate b = some p) :
    (p ∈ s.par.permits ∧ s.canYield b p = true) ∧
      ∀ q ∈ s.par.permits, s.canYield b q = true → q.grantSequence.getD 0 ≤ p.grantSequence.getD 0 := by
  obtain ⟨found, least, -⟩ := foldl_laterGrant_some _ _ _ h
  exact ⟨List.mem_filter.mp (found.resolve_right fun e => absurd e.symm (Option.some_ne_none p)),
    fun q hq hy => least q (List.mem_filter.mpr ⟨hq, hy⟩)⟩

theorem yieldCandidate_none {s : State} {b : Bus} (h : s.yieldCandidate b = none) {q : Permit} (hq : q ∈ s.par.permits) :
    s.canYield b q = false := by
  rw [← Bool.not_eq_true]
  exact List.filter_eq_nil_iff.mp (foldl_laterGrant_none _ _ h) q hq

/-! ### The yield loop ends with enough credit or with none left to yield (R141) -/

/-- How many withdrawals of the bus may be yielded. -/
def State.yieldCount (s : State) (b : Bus) : Nat := (s.par.permits.filter (s.canYield b)).length

theorem canYield_congr {s t : State} (hc : t.cabinets = s.cabinets) (b : Bus) : t.canYield b = s.canYield b := by
  funext q
  simp only [State.canYield, State.tracked, State.cabinet, hc]

theorem yieldCount_congr {s t : State} (hp : t.par.permits = s.par.permits) (hc : t.cabinets = s.cabinets) (b : Bus) :
    t.yieldCount b = s.yieldCount b := by
  rw [State.yieldCount, State.yieldCount, hp, canYield_congr hc]

/-- A change of permits by their id, counted on the permits as they were. -/
theorem yieldCount_onPermit (s : State) (id : Nat) (f : Permit → Permit) (b : Bus) :
    (s.onPermit id f).yieldCount b = (s.par.permits.filter fun q => s.canYield b (if q.id = id then f q else q)).length := by
  have same : (s.onPermit id f).canYield b = s.canYield b := rfl
  unfold State.yieldCount
  rw [same]
  unfold State.onPermit
  rw [State.onPar_par, List.filter_map, List.length_map]
  rfl

theorem handIn_keeps (s : State) (r : LinkRequest) : (s.handIn r).par = s.par ∧ (s.handIn r).cabinets = s.cabinets := by
  have arbitrate : ∀ x : State, x.arbitrate.par = x.par ∧ x.arbitrate.cabinets = x.cabinets := by
    intro x
    unfold State.arbitrate
    split
    · split <;> exact ⟨rfl, rfl⟩
    · exact ⟨rfl, rfl⟩
  unfold State.handIn
  split
  · exact ⟨rfl, rfl⟩
  · cases r.requester <;> exact arbitrate _

theorem yieldCount_noteSent (s : State) (a : Bus) (e : TransferEntry) (b : Bus) : (s.noteSent a e).yieldCount b = s.yieldCount b := by
  unfold State.noteSent
  split
  · rw [yieldCount_onPermit]
    refine congrArg List.length (List.filter_congr fun q _ => ?_)
    split <;> rfl
  · rfl
  · rfl
  · rfl

theorem yieldCount_pump (s : State) (a b : Bus) : (s.pump a).yieldCount b = s.yieldCount b := by
  unfold State.pump
  split
  · split
    · rfl
    · dsimp only
      rw [yieldCount_congr (congrArg Par.permits (handIn_keeps _ _).1) (handIn_keeps _ _).2, yieldCount_noteSent]
      rfl
  · rfl

/-- A permit of the bus that can yield no more once changed lowers the count. -/
theorem yieldCount_lower {s : State} {b : Bus} {p : Permit} (hp : p ∈ s.par.permits) (hy : s.canYield b p = true) :
    (s.par.permits.filter fun q => s.canYield b q && q.id != p.id).length < s.yieldCount b := by
  have split : (s.par.permits.filter fun q => s.canYield b q && q.id != p.id) =
      (s.par.permits.filter (s.canYield b)).filter fun q => q.id != p.id := by
    rw [List.filter_filter]
    simp only [Bool.and_comm]
  rw [split]
  exact List.length_filter_lt_length_iff_exists.mpr ⟨p, List.mem_filter.mpr ⟨hp, hy⟩, by simp⟩

theorem yieldCount_startReturn (s : State) (p : Permit) (b : Bus) :
    (s.startReturn p).yieldCount b = (s.par.permits.filter fun q => s.canYield b q && q.id != p.id).length := by
  have started : (s.startReturn p).yieldCount b =
      (s.onPermit p.id fun q => { q with state := .returning }).yieldCount b := yieldCount_pump _ _ _
  rw [started, yieldCount_onPermit]
  refine congrArg List.length (List.filter_congr fun q _ => ?_)
  by_cases h : q.id = p.id <;> simp [h, State.canYield]

theorem yieldCount_endPermit {s : State} {id : Nat} {p : Permit} (hp : s.permit id = some p) (r : PermitResult) (b : Bus) :
    (s.endPermit id r).yieldCount b = (s.par.permits.filter fun q => s.canYield b q && q.id != id).length := by
  have ended : (s.endPermit id r).par.permits = s.par.permits.filter (fun q => q.id != id) ∧
      (s.endPermit id r).cabinets = s.cabinets := by
    unfold State.endPermit
    rw [hp]
    dsimp only
    split <;> simp [State.push, State.trigger, State.raise, State.voidInHand, State.dequeue, State.onQueue]
  rw [State.yieldCount, ended.1, canYield_congr ended.2, List.filter_filter]

/-- The marks of a yield and its notice. -/
theorem yieldMarked_keeps {s : State} {p : Permit} (hp : p ∈ s.par.permits) :
    let y := (s.onPermit p.id fun q =>
      { q with yielded := true, yieldSequence := some (s.nextYield p.bus), returnOrdered := true }).raiseYield p 1
    y.par.permits = s.par.permits.map (fun q => if q.id = p.id then
      { q with yielded := true, yieldSequence := some (s.nextYield p.bus), returnOrdered := true } else q) ∧
      y.cabinets = s.cabinets ∧ ∃ q, y.permit p.id = some q := by
  intro y
  have par : y.par = (s.onPermit p.id fun q =>
      { q with yielded := true, yieldSequence := some (s.nextYield p.bus), returnOrdered := true }).par := by
    unfold y State.raiseYield
    split <;> rfl
  have cabinets : y.cabinets = s.cabinets := by
    unfold y State.raiseYield
    split <;> rfl
  refine ⟨congrArg Par.permits par, cabinets, ?_⟩
  obtain ⟨r, hr⟩ := Option.isSome_iff_exists.mp (List.find?_isSome.mpr ⟨p, hp, beq_self_eq_true p.id⟩ :
    (s.permit p.id).isSome)
  refine ⟨_, Eq.trans ?_ (permit_onPermit_some hr (fun q =>
    { q with yielded := true, yieldSequence := some (s.nextYield p.bus), returnOrdered := true }) fun _ => rfl)⟩
  unfold State.permit
  rw [par]

/-- A yield lowers the count. -/
theorem yieldCount_yieldOne {s : State} {b : Bus} {p : Permit} (hp : p ∈ s.par.permits) (hy : s.canYield b p = true) :
    (s.yieldOne p).yieldCount b < s.yieldCount b := by
  refine lt_of_eq_of_lt ?_ (yieldCount_lower hp hy)
  unfold State.yieldOne
  dsimp only
  obtain ⟨permits, cabinets, found⟩ := yieldMarked_keeps hp
  generalize State.raiseYield _ p 1 = y at *
  have counted : (y.par.permits.filter fun q => y.canYield b q && q.id != p.id).length =
      (s.par.permits.filter fun q => s.canYield b q && q.id != p.id).length := by
    rw [permits, canYield_congr cabinets, List.filter_map, List.length_map]
    refine congrArg List.length (List.filter_congr fun q _ => ?_)
    by_cases h : q.id = p.id <;> simp [h]
  rw [← counted]
  split
  · exact yieldCount_endPermit found.choose_spec _ b
  · exact yieldCount_startReturn y _ b

/-- The credit suffices (R141). -/
def Figures.suffices (f : Figures) (d : BusRec) : Prop := 0 ≤ f.margin ∧ f.enoughTime d = true

theorem yieldLoop_ends {b : Bus} {d : BusRec} (n : Nat) : ∀ s : State, s.yieldCount b ≤ n →
    ((yieldLoop b d n s).pendingCredit b d).suffices d ∨ (yieldLoop b d n s).yieldCandidate b = none := by
  induction n with
  | zero =>
    intro s h
    refine .inr ?_
    rw [yieldCandidate_eq]
    have : s.par.permits.filter (s.canYield b) = [] := List.length_eq_zero_iff.mp (Nat.le_zero.mp h)
    exact congrArg (List.foldl laterGrant none) this
  | succ n ih =>
    intro s h
    unfold yieldLoop
    dsimp only
    split
    next enough => exact .inl enough
    next =>
      split
      next none => exact .inr none
      next p found =>
        obtain ⟨⟨hp, hy⟩, -⟩ := yieldCandidate_some found
        exact ih _ (Nat.le_of_lt_succ (Nat.lt_of_lt_of_le (yieldCount_yieldOne hp hy) h))

end Sys2Proof.Machine

namespace Sys2Proof.Machine

/-! ### The yield pass (R141) -/

theorem suffices_iff (f : Figures) (d : BusRec) :
    f.suffices d ↔ ¬ (f.margin < 0 ∨ (0 < d.minAutonomy ∧ f.autonomy < d.minAutonomy)) := by
  simp only [Figures.suffices, Figures.enoughTime, Bool.or_eq_true, beq_iff_eq, decide_eq_true_eq]
  omega

theorem deficitNow_iff {s : State} {b : Bus} {u : BusUnit} (hu : s.bus b = some u) :
    s.deficitNow b = true ↔ (s.seqOf b).state = .normal ∧ s.known b = true ∧
      ((s.strict b u.defn).margin < 0 ∨
        (0 < u.defn.minAutonomy ∧ (s.strict b u.defn).autonomy < u.defn.minAutonomy)) := by
  rw [State.deficitNow, hu, ← inDeficit_iff]
  simp [and_assoc]

theorem busOnBattery_iff (s : State) (b : Bus) :
    s.busOnBattery b = true ↔ ∃ x ∈ s.cabinetsOf b, x.2.track.state = .onBattery := by
  simp [State.busOnBattery]

theorem yieldWithdrawals_deficit {s : State} {b : Bus} {u : BusUnit} (hu : s.bus b = some u) (h : s.deficitNow b = true) :
    s.yieldWithdrawals b = yieldLoop b u.defn s.par.permits.length s := by
  rw [State.yieldWithdrawals, hu]
  exact if_pos h

theorem yieldWithdrawals_noDeficit {s : State} {b : Bus} (h : s.deficitNow b ≠ true) : s.yieldWithdrawals b = s := by
  unfold State.yieldWithdrawals
  split
  · rfl
  · exact if_neg h

/-- The yield pass of a bus in DEFICIT ends with enough credit, or with no withdrawal left to yield. -/
theorem yieldWithdrawals_ends {s : State} {b : Bus} {u : BusUnit} (hu : s.bus b = some u) (h : s.deficitNow b = true) {p : Permit}
    (hp : p ∈ (s.yieldWithdrawals b).par.permits) (hy : (s.yieldWithdrawals b).canYield b p = true) :
    ((s.yieldWithdrawals b).pendingCredit b u.defn).suffices u.defn := by
  rw [yieldWithdrawals_deficit hu h] at hp hy ⊢
  refine (yieldLoop_ends _ s (List.length_filter_le _ _)).resolve_right fun none => ?_
  rw [yieldCandidate_none none hp] at hy
  cases hy

/-- The one granted test of a bus on battery or in DEFICIT is yielded. -/
theorem yieldTests_one {s : State} {b : Bus} {u : BusUnit} {p : Permit} (hu : s.bus b = some u)
    (hp : s.par.permits.filter (fun q => q.bus == b && q.isTest && q.state == .granted) = [p])
    (h : s.busOnBattery b = true ∨ s.deficitNow b = true) :
    s.yieldTests b = (s.raise .permitYielded
      { bus := b.val + 1, cabinet := p.cabinet.getD 0, slot := p.slot, permit := p.id, visit := p.holder }
      (s.strict b u.defn).noticeValue (if s.busOnBattery b then 2 else 1)).push [.testAbort .yield] := by
  have bus : p.bus = b := by
    have : p ∈ s.par.permits.filter (fun q => q.bus == b && q.isTest && q.state == .granted) := by
      rw [hp]
      exact List.mem_singleton_self p
    have := (List.mem_filter.mp this).2
    simp only [Bool.and_eq_true, beq_iff_eq] at this
    exact this.1.1
  unfold State.yieldTests
  rw [if_pos (by simpa using h), hp, List.foldl_cons, List.foldl_nil, State.raiseYield, Permit.subject, bus, hu]
  rfl

/-! ### A replaced bus record that brings the DEFICIT -/

/-- A bus recomputed: its passes are handed on. -/
theorem handNext_recompute {t : State} {b : Bus} (rest : List Task) (ha : t.agenda = []) (ht : t.triggers = Vector.replicate 4 false)
    (hb : (t.bus b).isSome) :
    handNext (.recompute b) rest ((t.trigger b).onAgenda fun _ => .recompute b :: rest) = (t.recompute b).onAgenda fun _ =>
      [.openHold, .yieldTests b, .yieldWithdrawals b, .grantAdoptions b, .grantHeads b, .returnCheck b, .closeHold] ++ rest := by
  have none : (t.trigger b).agenda = [] := ha
  have clear : (t.trigger b).onTriggers (fun v => v.set b false) = t := State.trigger_cleared (State.triggers_none ht b)
  unfold handNext
  change ((((t.trigger b).onAgenda fun _ => []).recomputeBus b).onAgenda _) = _
  rw [State.onAgenda_nil none, State.recomputeBus, clear, if_pos hb, State.push_eq (by rw [State.recompute_agenda, ha])]
  rfl

/-- Withdrawals yielded inside the handing of a bus, where its other passes find nothing: the bus is recomputed once more. -/
theorem settle_yields {t y : State} {b : Bus} (ha : t.agenda = []) (hh : t.hold = 0) (ht : t.triggers = Vector.replicate 4 false)
    (hb : (t.bus b).isSome) (tests : ((t.recompute b).onHold (· + 1)).yieldTests b = (t.recompute b).onHold (· + 1))
    (yields : ((t.recompute b).onHold (· + 1)).yieldWithdrawals b = (y.trigger b).onHold (· + 1))
    (hya : y.agenda = []) (hyh : y.hold = 0) (hyt : y.triggers = Vector.replicate 4 false) (all : y.AllReturning b)
    (seq : (y.seqOf b).state ≠ .returnWait) :
    ((t.trigger b).push [.meet]).settle = y.recompute b := by
  obtain ⟨k, hk, again⟩ := hands_trigger (t := y) [.meet] hya hyh hyt (passesRest_handed all seq)
  have last : Hands 1 ((y.recompute b).onAgenda fun _ => [.meet]) ((y.recompute b).onAgenda fun _ => []) :=
    .idle (doTask_meet_none (by rw [State.onAgenda_hold, State.recompute_hold, hyh])
      (by rw [State.onAgenda_triggers, State.recompute_triggers, hyt])) (.none _)
  have wait : ((y.trigger b).onHold (· + 1)).waitQueue b = [] := waitQueue_returning (s := y) all
  have granted : Hands _ (((y.trigger b).onHold (· + 1)).onAgenda fun _ =>
      [.grantAdoptions b, .grantHeads b, .returnCheck b, .closeHold, .meet]) _ :=
    .idle (grantAdoptions_none wait) (.idle (grantHeads_none wait) (.idle (t := .returnCheck b) (returnCheck_other seq)
      (.closeHold (again.trans last))))
  have noTask : ((t.recompute b).onHold (· + 1)).agenda = [] := (State.recompute_agenda t b).trans ha
  have yieldStep : handNext (.yieldWithdrawals b) [.grantAdoptions b, .grantHeads b, .returnCheck b, .closeHold, .meet]
      (((t.recompute b).onHold (· + 1)).onAgenda fun _ =>
        [.yieldWithdrawals b, .grantAdoptions b, .grantHeads b, .returnCheck b, .closeHold, .meet]) =
      ((y.trigger b).onHold (· + 1)).onAgenda fun _ =>
        [.grantAdoptions b, .grantHeads b, .returnCheck b, .closeHold, .meet] := by
    unfold handNext
    change ((((t.recompute b).onHold (· + 1)).onAgenda fun _ => []).yieldWithdrawals b).onAgenda _ = _
    rw [State.onAgenda_nil noTask, yields]
    unfold State.onAgenda
    rw [show ((y.trigger b).onHold (· + 1)).agenda = [] from hya]
    rfl
  have yielded := Hands.more (.yieldWithdrawals b) _ rfl (yieldStep.symm ▸ granted)
  have tested : Hands _ (((t.recompute b).onHold (· + 1)).onAgenda fun _ => [.yieldTests b, .yieldWithdrawals b,
      .grantAdoptions b, .grantHeads b, .returnCheck b, .closeHold, .meet]) _ :=
    .idle (t := .yieldTests b) (by rw [State.onAgenda_nil noTask]; exact tests) yielded
  have opened := Hands.openHold tested
  have recomputed := Hands.more (.recompute b) [.meet] rfl ((handNext_recompute [.meet] ha ht hb).symm ▸ opened)
  have met := Hands.more .meet [] rfl ((handNext_meet [] hh ht).symm ▸ recomputed)
  rw [State.push_eq (show (t.trigger b).agenda = [] from ha), met.settle (by unfold settleBound; omega) rfl]
  exact State.onAgenda_nil (by rw [State.recompute_agenda, hya])

end Sys2Proof.Machine

namespace Sys2Proof.Machine

/-! ### The yield of a withdrawal that was sent (R141) -/

theorem strict_congr {s t : State} (hc : t.cabinets = s.cabinets) (hs : t.scs = s.scs) (he : ∀ c, t.excluded c = s.excluded c)
    (b : Bus) (d : BusRec) : t.strict b d = s.strict b d := by
  simp only [State.strict, State.figuresFrom, State.onlineSet, State.readingOf, State.cabinetsOf, State.definedCabinets,
    State.cabinet, hc, hs, he]

/-- A change of permits that keeps kind, cabinet and state excludes the same cabinets. -/
theorem excluded_onPermit_keeps (s : State) (id : Nat) {f : Permit → Permit}
    (hf : ∀ q, (f q).kind = q.kind ∧ (f q).cabinet = q.cabinet ∧ (f q).state = q.state) (c : Nat) :
    (s.onPermit id f).excluded c = s.excluded c := by
  unfold State.excluded State.withdrawnIn State.onPermit
  rw [State.onPar_par, List.any_map]
  congr 1
  funext q
  obtain ⟨hk, hc, hs⟩ := hf q
  rw [Function.comp_apply]
  split
  · rw [hk, hc, hs]
  · rfl

theorem onQueue_join_yielded {s : State} {b : Bus} (hp : (s.queueOf b).priority = []) (ho : (s.queueOf b).ordinary = [])
    (rank : TransferEntry → Nat) (id c : Nat) :
    (s.onQueue b fun q => q.join rank true (goOnlineEntry id c)) =
      s.onQueue b fun q => { q with priority := [goOnlineEntry id c] } := by
  refine onQueue_congr ((join_goOnline_empty hp ho rank true id c).trans ?_)
  rw [ho]
  rfl

theorem nextYield_one {s : State} {b : Bus} {p : Permit} (h : s.par.permits.filter (fun q => q.bus == b) = [p]) :
    s.nextYield b = p.yieldSequence.getD 0 + 1 := by
  simp [State.nextYield, h]

/-- The marks of a withdrawal that is yielded and on its way back. -/
def Permit.yieldedReturn (p : Permit) (sequence : Nat) : Permit :=
  { p with yielded := true, yieldSequence := some sequence, returnOrdered := true, state := .returning }

/-- The only permit of its bus yielded, while the queue is not served: its GO_ONLINE waits in the priority lane. -/
def State.yieldedAlone (s : State) (p : Permit) (c : Nat) (d : BusRec) : State :=
  ((s.raise .permitYielded p.subject (s.strict p.bus d).noticeValue 1).onPermit p.id
    (Permit.yieldedReturn · (p.yieldSequence.getD 0 + 1))).onQueue p.bus fun q => { q with priority := [goOnlineEntry p.id c] }

theorem yieldOne_sent {s : State} {p : Permit} {c : Nat} {u : BusUnit} (hu : s.bus p.bus = some u)
    (hall : s.par.permits.filter (fun q => q.bus == p.bus) = [p]) (hc : p.cabinet = some c)
    (hsent : p.sent = true ∨ p.adopted = true) (hpri : (s.queueOf p.bus).priority = []) (hord : (s.queueOf p.bus).ordinary = [])
    (hbusy : (s.queueOf p.bus).inHand ≠ none ∨ (s.queueOf p.bus).spacingDue ≠ none) :
    s.yieldOne p = (s.yieldedAlone p c u.defn).trigger p.bus := by
  have sent : p.neverSent = false := by rcases hsent with e | e <;> simp [Permit.neverSent, e]
  let mark : Permit → Permit := fun q =>
    { q with yielded := true, yieldSequence := some (p.yieldSequence.getD 0 + 1), returnOrdered := true }
  have strict : (s.onPermit p.id mark).strict p.bus u.defn = s.strict p.bus u.defn :=
    strict_congr (s := s) (t := s.onPermit p.id mark) rfl rfl (excluded_onPermit_keeps s p.id fun _ => ⟨rfl, rfl, rfl⟩) _ _
  have noticed : (s.onPermit p.id mark).raiseYield p 1 =
      (s.raise .permitYielded p.subject (s.strict p.bus u.defn).noticeValue 1).onPermit p.id mark := by
    rw [State.raiseYield, show (s.onPermit p.id mark).bus p.bus = some u from hu, ← strict]
    rfl
  have empty : (s.queueOf p.bus).waiting = [] := by rw [TransferQueue.waiting, hpri, hord]; rfl
  have started := startReturn_busy (p := { p with yielded := true })
    (s := (s.raise .permitYielded p.subject (s.strict p.bus u.defn).noticeValue 1).onPermit p.id mark) hc hbusy
    fun e he => absurd (empty ▸ (show e ∈ (s.queueOf p.bus).waiting from he)) List.not_mem_nil
  dsimp only at started
  rw [onPermit_onPermit _ p.id (f := mark) fun _ => rfl] at started
  unfold State.yieldOne
  rw [nextYield_one hall]
  refine (if_neg (by rw [sent]; nofun)).trans ?_
  rw [show (s.onPermit p.id _).raiseYield p 1 = _ from noticed, started]
  refine congrArg (State.trigger · p.bus) (onQueue_join_yielded ?_ ?_ _ p.id c)
  · exact hpri
  · exact hord

theorem yieldedAlone_rest (s : State) (p : Permit) (c : Nat) (d : BusRec) :
    (s.yieldedAlone p c d).agenda = s.agenda ∧ (s.yieldedAlone p c d).hold = s.hold ∧
      (s.yieldedAlone p c d).triggers = s.triggers ∧ (s.yieldedAlone p c d).seqOf p.bus = s.seqOf p.bus :=
  ⟨rfl, rfl, rfl, rfl⟩

theorem yieldedAlone_allReturning {s : State} {p : Permit} (hall : s.par.permits.filter (fun q => q.bus == p.bus) = [p])
    (c : Nat) (d : BusRec) : (s.yieldedAlone p c d).AllReturning p.bus :=
  allReturning_onPermit (s := s.raise .permitYielded p.subject (s.strict p.bus d).noticeValue 1)
    (f := (Permit.yieldedReturn · (p.yieldSequence.getD 0 + 1))) (fun _ => rfl)
    fun _ hq hb ne => absurd (congrArg Permit.id (permit_only hall hq hb)) ne

/-! ### What the yield pass reads is kept by the recomputation before it -/

theorem recompute_deficitNow {s : State} {b : Bus} {u : BusUnit} (hu : s.bus b = some u) :
    (s.recompute b).deficitNow b = s.deficitNow b := by
  have known : (s.recompute b).known b = s.known b := by
    have cabinets : (s.recompute b).cabinetsOf b = s.cabinetsOf b := by
      have := congrArg (State.cabinetsOf · b) (figuresOff_recompute s b); exact this
    rw [State.known, State.known, recompute_bus hu, hu, cabinets]
    rfl
  rw [State.deficitNow, State.deficitNow, recompute_bus hu, hu, seqOf_recompute, known]
  dsimp only
  rw [recompute_strict]

theorem recompute_pendingCredit (s : State) (a b : Bus) (d : BusRec) : (s.recompute a).pendingCredit b d = s.pendingCredit b d := by
  have := congrArg (State.pendingCredit · b d) (figuresOff_recompute s a); exact this

/-- The only permit of its bus is the one to yield where it may be. -/
theorem yieldCandidate_only {s : State} {p : Permit} (hall : s.par.permits.filter (fun q => q.bus == p.bus) = [p])
    (hp : p ∈ s.par.permits) (hy : s.canYield p.bus p = true) : s.yieldCandidate p.bus = some p := by
  cases found : s.yieldCandidate p.bus with
  | none =>
    rw [yieldCandidate_none found hp] at hy
    cases hy
  | some q =>
    obtain ⟨⟨hq, can⟩, -⟩ := yieldCandidate_some found
    rw [permit_only hall hq (canYield_iff.mp can).1]

/-- The yield pass of a bus in DEFICIT whose only permit is a withdrawal that was sent. -/
theorem yieldWithdrawals_sent {s : State} {p : Permit} {c : Nat} {u : BusUnit} (hu : s.bus p.bus = some u)
    (hall : s.par.permits.filter (fun q => q.bus == p.bus) = [p]) (hp : p ∈ s.par.permits) (hy : s.canYield p.bus p = true)
    (hc : p.cabinet = some c) (hsent : p.sent = true ∨ p.adopted = true) (hpri : (s.queueOf p.bus).priority = [])
    (hord : (s.queueOf p.bus).ordinary = []) (hbusy : (s.queueOf p.bus).inHand ≠ none ∨ (s.queueOf p.bus).spacingDue ≠ none)
    (deficit : s.deficitNow p.bus = true) (short : ¬ (s.pendingCredit p.bus u.defn).suffices u.defn) :
    s.yieldWithdrawals p.bus = (s.yieldedAlone p c u.defn).trigger p.bus := by
  obtain ⟨n, hn⟩ : ∃ n, s.par.permits.length = n + 1 := Nat.exists_eq_succ_of_ne_zero (List.length_pos_of_mem hp).ne'
  have all : ((s.yieldedAlone p c u.defn).trigger p.bus).AllReturning p.bus := yieldedAlone_allReturning hall c u.defn
  rw [yieldWithdrawals_deficit hu deficit, hn, yieldLoop]
  refine (if_neg short).trans ?_
  rw [yieldCandidate_only hall hp hy]
  dsimp only
  rw [yieldOne_sent hu hall hc hsent hpri hord hbusy]
  exact yieldLoop_none (yieldCandidate_returning all) _ _

/-- The same inside the handing of the bus. -/
theorem yieldWithdrawals_sent_held {s : State} {p : Permit} {c : Nat} {u : BusUnit} (hu : s.bus p.bus = some u)
    (hall : s.par.permits.filter (fun q => q.bus == p.bus) = [p]) (hp : p ∈ s.par.permits) (hy : s.canYield p.bus p = true)
    (hc : p.cabinet = some c) (hsent : p.sent = true ∨ p.adopted = true) (hpri : (s.queueOf p.bus).priority = [])
    (hord : (s.queueOf p.bus).ordinary = []) (hbusy : (s.queueOf p.bus).inHand ≠ none ∨ (s.queueOf p.bus).spacingDue ≠ none)
    (deficit : s.deficitNow p.bus = true) (short : ¬ (s.pendingCredit p.bus u.defn).suffices u.defn) :
    (s.onHold (· + 1)).yieldWithdrawals p.bus = ((s.yieldedAlone p c u.defn).trigger p.bus).onHold (· + 1) := by
  have held : (s.onHold (· + 1)).yieldedAlone p c u.defn = (s.yieldedAlone p c u.defn).onHold (· + 1) := rfl
  have yields := yieldWithdrawals_sent (s := s.onHold (· + 1)) hu hall hp hy hc hsent hpri hord hbusy deficit short
  rw [held] at yields
  exact yields

/-- A bus record that brings the DEFICIT: recomputed, the withdrawal yielded, and recomputed again. -/
theorem settle_replaced {t : State} {p : Permit} {c : Nat} {u : BusUnit} (ha : t.agenda = []) (hh : t.hold = 0)
    (ht : t.triggers = Vector.replicate 4 false) (hu : t.bus p.bus = some u)
    (hall : t.par.permits.filter (fun q => q.bus == p.bus) = [p]) (hp : p ∈ t.par.permits) (hy : t.canYield p.bus p = true)
    (hc : p.cabinet = some c) (hsent : p.sent = true ∨ p.adopted = true) (hpri : (t.queueOf p.bus).priority = [])
    (hord : (t.queueOf p.bus).ordinary = []) (hbusy : (t.queueOf p.bus).inHand ≠ none ∨ (t.queueOf p.bus).spacingDue ≠ none)
    (deficit : t.deficitNow p.bus = true) (short : ¬ (t.pendingCredit p.bus u.defn).suffices u.defn) :
    ((t.trigger p.bus).push [.meet]).settle = ((t.recompute p.bus).yieldedAlone p c u.defn).recompute p.bus := by
  have par : (t.recompute p.bus).par = t.par := t.recompute_par p.bus
  have queue : (t.recompute p.bus).queueOf p.bus = t.queueOf p.bus := by rw [State.queueOf, State.queueOf, par]
  obtain ⟨seq, -, -⟩ := (deficitNow_iff hu).mp deficit
  obtain ⟨ra, rh, rt, rs⟩ := yieldedAlone_rest (t.recompute p.bus) p c u.defn
  refine settle_yields ha hh ht (by rw [hu]; rfl) (yieldTests_noTest ?_) ?_ (ra.trans ((t.recompute_agenda _).trans ha))
    (rh.trans ((t.recompute_hold _).trans hh)) (rt.trans ((t.recompute_triggers _).trans ht))
    (yieldedAlone_allReturning (by rw [par, hall]) c u.defn) (by rw [rs, seqOf_recompute, seq]; nofun)
  · change (t.recompute p.bus).par.permits.filter _ = []
    rw [par, List.filter_eq_nil_iff]
    intro q hq
    simp only [Bool.and_eq_true, beq_iff_eq]
    rintro ⟨⟨hb, test⟩, -⟩
    rw [permit_only hall hq hb, Permit.isTest, (canYield_iff.mp hy).2.1] at test
    cases test
  · obtain ⟨w, bus, hd⟩ : ∃ w, (t.recompute p.bus).bus p.bus = some w ∧ w.defn = u.defn := ⟨_, recompute_bus hu, rfl⟩
    have can := (congrFun (canYield_congr (t.recompute_cabinets p.bus) p.bus) p).trans hy
    have deficit := (recompute_deficitNow hu).trans deficit
    rw [← recompute_pendingCredit t p.bus, ← hd] at short
    rw [← queue] at hpri hord hbusy
    rw [← par] at hall hp
    rw [← hd]
    exact yieldWithdrawals_sent_held bus hall hp can hc hsent hpri hord hbusy deficit short

end Sys2Proof.Machine

namespace Sys2Proof.Machine

/-! ### RETURN_PERMIT and the yield pass -/

theorem octets_pair (a b : Byte) : octets 2 (a.toNat * 256 + b.toNat) = [a, b] := by
  have high : BitVec.ofNat 8 ((a.toNat * 256 + b.toNat) / 256) = a := BitVec.eq_of_toNat_eq (by simp; omega)
  have low : BitVec.ofNat 8 (a.toNat * 256 + b.toNat) = b := BitVec.eq_of_toNat_eq (by simp; omega)
  simp [octets, high, low]

/-- The settings of a DEFINE_BUS body within their ranges are stored as they are (R7, Table 1-2). -/
theorem busRecOperand_inRange {b : Bus} {rs hd au sp sy t1 t0 : Byte} (h1 : rs.toNat ≤ 3) (h2 : hd.toNat ≤ 50)
    (h3 : au.toNat ≤ 120) (h4 : 1 ≤ sp.toNat) (h5 : sp.toNat ≤ 60) (h6 : 1 ≤ sy.toNat) (h7 : sy.toNat ≤ 30)
    (h8 : 5 ≤ t1.toNat * 256 + t0.toNat) (h9 : t1.toNat * 256 + t0.toNat ≤ 300) :
    busRecOperand [0#8, BitVec.ofNat 8 b.val, rs, hd, au, sp, sy, t1, t0] =
      ({ reserve := rs.toNat, headroom := hd.toNat, minAutonomy := au.toNat, spacing := sp.toNat, syncTimeout := sy.toNat,
         transferTimeout := t1.toNat * 256 + t0.toNat }, false) := by
  have kept : ∀ {low high v : Nat}, low ≤ v → v ≤ high → clamp low high v = { value := v, moved := false } := by
    intro low high v hl hh
    have same : clampTo low high v = v := by
      unfold clampTo
      omega
    simp [clamp, same]
  simp [busRecOperand, field, quantity, kept, h1, h2, h3, h4, h5, h6, h7, h8, h9]

/-- The cabinets that the return check prepares, as R145 gives them. -/
theorem readyToReturn_eq (s : State) (b : Bus) :
    s.readyToReturn b = ((s.cabinetsOf b).filter fun x => x.2.track.state == .online &&
      s.par.permits.all fun q => !(q.kind == .withdraw && q.cabinet == some x.1 && q.state != .waiting)).map fun x => x.1 := by
  unfold State.readyToReturn
  simp only [excluded_eq]

/-- DEFINE_BUS that brings the DEFICIT returns the sent YIELD withdrawal of the bus. -/
theorem defineBus_yields {tag rs hd au sp sy t1 t0 : Byte} {s : State} {p : Permit} {c : Nat} {u : BusUnit} {new : BusRec}
    (hr : s.Ready) (hu : s.bus p.bus = some u) (hall : s.par.permits.filter (fun q => q.bus == p.bus) = [p])
    (hp : p ∈ s.par.permits) (hy : s.canYield p.bus p = true) (hc : p.cabinet = some c) (hh : p.holder = 0)
    (hsent : p.sent = true ∨ p.adopted = true) (hpri : (s.queueOf p.bus).priority = []) (hord : (s.queueOf p.bus).ordinary = [])
    (hbusy : (s.queueOf p.bus).inHand ≠ none ∨ (s.queueOf p.bus).spacingDue ≠ none)
    (hnew : busRecOperand [0#8, BitVec.ofNat 8 p.bus.val, rs, hd, au, sp, sy, t1, t0] = (new, false))
    (deficit : (s.seqOf p.bus).state = .normal ∧ (s.setBus p.bus (some { u with defn := new })).known p.bus = true ∧
      ((s.strict p.bus new).margin < 0 ∨ (0 < new.minAutonomy ∧ (s.strict p.bus new).autonomy < new.minAutonomy)))
    (short : (s.pendingCredit p.bus new).margin < 0 ∨
      (0 < new.minAutonomy ∧ (s.pendingCredit p.bus new).autonomy < new.minAutonomy)) :
    request .defineBus tag [0#8, BitVec.ofNat 8 p.bus.val, rs, hd, au, sp, sy, t1, t0] s =
      .next (((((((s.setBus p.bus (some { u with defn := new })).recompute p.bus).raise .permitYielded
        { bus := p.bus.val + 1, cabinet := c, permit := p.id } (s.strict p.bus new).noticeValue 1).onPermit p.id
          (Permit.yieldedReturn · (p.yieldSequence.getD 0 + 1))).onQueue p.bus fun q =>
            { q with priority := [goOnlineEntry p.id c] }).recompute p.bus).answered 0x11#8 tag .ok
        (octets 1 p.bus.val ++ new.octets)) := by
  have index : field [0#8, BitVec.ofNat 8 p.bus.val, rs, hd, au, sp, sy, t1, t0] 1 1 = p.bus.val := by
    simp [field, quantity]
    omega
  have taken := handleDefineBus_host s (body := [0#8, BitVec.ofNat 8 p.bus.val, rs, hd, au, sp, sy, t1, t0]) rfl rfl index
  rw [hnew] at taken
  dsimp only at taken
  rw [defineBus_replaced hu] at taken
  obtain ⟨ha, hold, ht⟩ := ready_triggers hr
  have bus : (s.setBus p.bus (some { u with defn := new })).bus p.bus = some { u with defn := new } := State.bus_setBus_same s _ _
  have settled := settle_replaced (t := s.setBus p.bus (some { u with defn := new })) ha hold ht bus hall hp hy hc hsent hpri hord
    hbusy ((deficitNow_iff bus).mpr deficit) (fun h => (suffices_iff _ _).mp h short)
  have subject : p.subject = { bus := p.bus.val + 1, cabinet := c, permit := p.id } := by
    simp [Permit.subject, busCode, hc, Permit.slot, (canYield_iff.mp hy).2.1, hh]
  have strict : ((s.setBus p.bus (some { u with defn := new })).recompute p.bus).strict p.bus new = s.strict p.bus new :=
    recompute_strict _ _ _ _
  have agenda : ((((s.setBus p.bus (some { u with defn := new })).recompute p.bus).yieldedAlone p c new).recompute p.bus).agenda =
      [] := by
    rw [State.recompute_agenda, (yieldedAlone_rest _ p c new).1, State.recompute_agenda]
    exact ha
  rw [State.yieldedAlone, subject, strict] at settled agenda
  exact request_answer (k := .defineBus) hr (Nat.le_of_ble_eq_true rfl) taken settled agenda

/-- Settles O32: each return read off the permit table, the queue and the sequencer; then the yield pass. -/
theorem returnPermitReturns : Obligations.ReturnPermitReturns := by
  refine ⟨?_, ?_, ?_⟩
  · intro tag p s hr hconf hp hid hh hst body
    refine ⟨?_, ?_, ?_⟩
    · intro c hk hc hall hlock hseq
      exact ⟨fun hsent had => returnPermit_unsent hr hconf hp hid hh hst hk hc hall hlock hseq hsent had,
        fun h hsent hin hpri hord => returnPermit_sent hr hconf hp hid hst hk hc hall hlock hseq hsent hin hpri hord⟩
    · intro hk hc ho hseq hlock
      exact returnPermit_marks hr hconf hp hid hst hk hc ho hseq hlock
    · intro u m hk hc ho hu hseq hall hone hlock hm set margin waiting
      have ready : s.readyToReturn p.bus = set := readyToReturn_eq s p.bus
      have check := returnSet_eq hu hm
      rw [ready] at check
      refine ⟨fun fails => ?_, fun hmem hmargin hpri hord hbusy => ?_⟩
      · rw [if_neg (by rintro ⟨h1, h2⟩; rcases fails with f | f; exacts [f h1, absurd f (not_lt.mpr h2)])] at check
        exact returnPermit_waits hr hconf hp hid hst hk hc ho hu hm hseq hall hone hlock check
      · rw [if_pos ⟨hmem, hmargin⟩] at check
        exact returnPermit_prepares hr hconf hp hid hst hk hc ho hu hm hseq hall hone hlock check
          (ready ▸ readyToReturn_nodup s p.bus) hpri hord hbusy
  · intro tag p c y h earlier later s hr hconf hp hid hk hc hst hy hseqy hlock hall hseq hin hpri hw he hl
    exact returnPermit_retried hr hconf hp hid hst hk hc hy hseqy hall hlock hseq hin hpri hw he hl
  · intro b u s hu short deficit yields onBattery value
    have can : ∀ {t : State} {p : Permit}, yields t p ↔ p ∈ t.par.permits ∧ t.canYield b p = true := fun {t p} =>
      and_congr_right fun _ => canYield_iff.symm
    have now : s.deficitNow b = true ↔ deficit s u.defn := deficitNow_iff hu
    refine ⟨?_, ?_, ?_, ?_, ?_, ?_⟩
    · intro p found
      obtain ⟨first, last⟩ := yieldCandidate_some found
      exact ⟨can.mpr first, fun q hq => last q (can.mp hq).1 (can.mp hq).2⟩
    · intro none p hp
      obtain ⟨mem, yes⟩ := can.mp hp
      rw [yieldCandidate_none none mem] at yes
      cases yes
    · intro hd p hp
      obtain ⟨mem, yes⟩ := can.mp hp
      exact (suffices_iff _ _).mp (yieldWithdrawals_ends hu (now.mpr hd) mem yes)
    · exact fun hd => yieldWithdrawals_noDeficit fun h => hd (now.mp h)
    · intro p hp h
      have one := yieldTests_one hu hp (h.imp (busOnBattery_iff s b).mpr now.mpr)
      rw [if_congr (busOnBattery_iff s b) rfl rfl] at one
      exact one
    · intro tag rs hd au sp sy t1 t0 p c hr hall hone hy hc hh hsent hpri hord hbusy new h1 h2 h3 h4 h5 h6 h7 h8 h9 brings
      obtain ⟨hp, rfl, can⟩ : p ∈ s.par.permits ∧ p.bus = b ∧ s.canYield b p = true :=
        ⟨hy.1, hy.2.1, canYield_iff.mpr hy.2⟩
      have done := defineBus_yields (tag := tag) (rs := rs) (hd := hd) (au := au) (sp := sp) (sy := sy) (t1 := t1) (t0 := t0) hr hu hall hp
        can hc hh hsent hpri hord hbusy (busRecOperand_inRange h1 h2 h3 h4 h5 h6 h7 h8 h9) brings.1 brings.2
      have octets : new.octets = [rs, hd, au, sp, sy, t1, t0] := by
        simp [BusRec.octets, new, octets_one, octets_pair]
      rw [show BusRec.octets _ = _ from octets] at done
      exact done

end Sys2Proof.Machine

namespace Sys2Proof.Machine

/-! ### Signals handed on to their end (log 10) -/

/-- No signal waits, no handing-on is open and no trigger is unmet (log 10). -/
abbrev State.AtRest (s : State) : Prop := s.agenda = [] ∧ s.hold = 0 ∧ s.triggers = Vector.replicate 4 false

theorem State.Quiet.atRest {s : State} (h : s.Quiet) : s.AtRest := ⟨h.1.2, h.2⟩

theorem State.AtRest.setCabinet {s : State} (h : s.AtRest) (c : Nat) (o : Option Cabinet) : (s.setCabinet c o).AtRest := by
  rwa [State.AtRest, State.setCabinet_agenda, State.setCabinet_hold, State.setCabinet_triggers]

theorem State.AtRest.recompute {s : State} (h : s.AtRest) (b : Bus) : (s.recompute b).AtRest := by
  rwa [State.AtRest, State.recompute_agenda, State.recompute_hold, State.recompute_triggers]

/-- The signals `l`, handed on from `s` with all that they give rise to, take it to `t`; they are at most `n`. -/
def Brings (n : Nat) (l : List Task) (s t : State) : Prop := ∃ k ≤ n, Hands k (s.onAgenda fun _ => l) t ∧ t.agenda = []

theorem Brings.nothing {s : State} (h : s.agenda = []) : Brings 0 [] s s := by
  refine ⟨0, le_rfl, ?_, h⟩
  rw [State.onAgenda_nil h]
  exact .none s

theorem Brings.mono {m n : Nat} {l : List Task} {s t : State} (h : Brings m l s t) (hn : m ≤ n) : Brings n l s t := by
  obtain ⟨k, hk, hands, ha⟩ := h
  exact ⟨k, hk.trans hn, hands, ha⟩

/-- Signals that wait behind others stay behind what those give rise to. -/
theorem Hands.frame {k : Nat} {s t : State} (h : Hands k s t) (rest : List Task) :
    Hands k (s.onAgenda (· ++ rest)) (t.onAgenda (· ++ rest)) := by
  induction h with
  | none s => exact .none _
  | @more k s u task l ha r ih =>
    refine .more task (l ++ rest) (by rw [State.onAgenda_agenda, ha]; rfl) ?_
    have e : handNext task (l ++ rest) (s.onAgenda (· ++ rest)) = (handNext task l s).onAgenda (· ++ rest) := by
      simp [handNext, State.onAgenda]
    rwa [e]

theorem Brings.append {j k : Nat} {l m : List Task} {s t u : State} (a : Brings j l s t) (b : Brings k m t u) :
    Brings (j + k) (l ++ m) s u := by
  obtain ⟨j', hj, first, ha⟩ := a
  obtain ⟨k', hk, second, hb⟩ := b
  have framed := first.frame m
  rw [show t.onAgenda (· ++ m) = t.onAgenda fun _ => m from State.push_eq ha m] at framed
  exact ⟨j' + k', by omega, framed.trans second, hb⟩

/-- One signal, and what it gives rise to. -/
theorem Brings.task {n : Nat} {t : Task} {l : List Task} {s u v : State} (ha : s.agenda = []) (hu : u.agenda = [])
    (hd : doTask t s = u.push l) (b : Brings n l u v) : Brings (n + 1) [t] s v := by
  obtain ⟨k, hk, hands, hv⟩ := b
  refine ⟨k + 1, by omega, .more t [] rfl ?_, hv⟩
  have e : handNext t [] (s.onAgenda fun _ => [t]) = u.onAgenda fun _ => l := by
    unfold handNext
    rw [show (s.onAgenda fun _ => [t]).onAgenda (fun _ => []) = s.onAgenda fun _ => [] from rfl, State.onAgenda_nil ha, hd,
      State.push_eq hu]
    simp [State.onAgenda]
  rwa [e]

/-- One signal that gives rise to no other. -/
theorem Brings.single {t : Task} {s u : State} (ha : s.agenda = []) (hu : u.agenda = []) (hd : doTask t s = u) :
    Brings 1 [t] s u := by
  refine Brings.task (l := []) ha hu ?_ (Brings.nothing hu)
  rw [hd, State.push_eq hu, State.onAgenda_nil hu]

theorem Brings.settle {n : Nat} {l : List Task} {s t : State} (ha : s.agenda = []) (b : Brings n l s t) (hn : n ≤ settleBound) :
    (s.push l).settle = t := by
  obtain ⟨k, hk, hands, ht⟩ := b
  rw [State.push_eq ha]
  exact hands.settle (hk.trans hn) ht

/-- A command whose work leaves signals that come to an end. -/
theorem run_brings {n : Nat} {l : List Task} {s u t : State} {work : State → State} (h : s.Running) (hu : u.agenda = [])
    (hw : work s = u.push l) (b : Brings n l u t) (hn : n ≤ settleBound) : run work s = .next t := by
  rw [run_running h, hw, b.settle hu hn]

/-! ### The meeting of triggers -/

/-- With no trigger unmet nothing is to be met. -/
theorem Brings.rest {s : State} (h : s.AtRest) : Brings 1 [.meet] s s :=
  .single h.1 h.1 (doTask_meet_none h.2.1 h.2.2)

/-- One trigger is met: its bus is recomputed, where the passes of the bus find nothing. -/
theorem Brings.recompute {s : State} {b : Bus} (h : s.AtRest) (hp : ((s.recompute b).onHold (· + 1)).PassesRest b) :
    Brings 11 [.meet] (s.trigger b) (s.recompute b) := by
  obtain ⟨ha, hh, ht⟩ := h
  obtain ⟨k, hk, hands⟩ := hands_trigger (b := b) [] ha hh ht hp
  have hr : (s.recompute b).agenda = [] := by rw [State.recompute_agenda, ha]
  rw [State.onAgenda_nil hr] at hands
  exact ⟨k, hk, hands, hr⟩

/-- Every trigger is met, where no permit is live and every sequencer is NORMAL. -/
theorem Brings.meets {s : State} (ha : s.agenda = []) (hh : s.hold = 0) (hn : s.NoTransfers) : Brings 41 [.meet] s s.met := by
  obtain ⟨k, hk, hands, -, -⟩ := hands_meet 4 (s.onAgenda fun _ => [.meet]) [] (unmet_le _) rfl hh hn
  have agenda : s.met.agenda = [] := by rw [State.met_agenda, ha]
  refine ⟨k, by omega, ?_, agenda⟩
  rwa [State.met_onAgenda, show (s.met.onAgenda fun _ => [Task.meet]).onAgenda (fun _ => []) = s.met.onAgenda fun _ => [] from rfl,
    State.onAgenda_nil agenda] at hands

/-- The passes of a bus find nothing where no permit is live and the sequencer is NORMAL, as they are handed the bus. -/
theorem passesRest_recomputed {s : State} {b : Bus} (hp : s.par.permits = []) (hn : (s.seqOf b).state = .normal) :
    ((s.recompute b).onHold (· + 1)).PassesRest b := by
  refine passesRest_of_none ?_ ?_
  · change (s.recompute b).par.permits = []
    rw [State.recompute_par, hp]
  · change ((s.recompute b).seqOf b).state = .normal
    rw [seqOf_recompute, hn]

/-! ### Selection and drain on an almost empty controller (R31, R35) -/

/-- Nothing is selected where nothing waits. -/
theorem Clc.Empty.select {l : Clc} (h : l.Empty) : l.select = none := by
  obtain ⟨hs, ht, hq⟩ := h
  have slots : ∀ b : Bus, l.slots[b] = none := fun b => by simp [hs]
  simp [Clc.select, slots, ht, hq, busesAfter]

theorem arbitrate_empty {s : State} (h : s.clc.Empty) : s.arbitrate = s := by
  unfold State.arbitrate
  split
  · rw [h.select]
  · rfl

/-- The link freed with nothing waiting (R25 to R30). -/
def State.idled (s : State) (low : Bool) : State :=
  s.onClc fun l => { l with link := .idle, stretchWait := false, stuckTimer := low }

theorem linkIdle_eq {s : State} (hl : s.clc.link ≠ .down) (low : Bool) : s.linkIdle low = (s.idled low).arbitrate := if_neg hl

theorem linkIdle_empty {s : State} (hl : s.clc.link ≠ .down) (h : s.clc.Empty) (low : Bool) : s.linkIdle low = s.idled low := by
  rw [linkIdle_eq hl]
  exact arbitrate_empty h

/-- A line that still reads low keeps the link from being free, whatever waits (R17, R29). -/
theorem linkIdle_low {s : State} (hl : s.clc.link ≠ .down) : s.linkIdle true = s.idled true := by
  rw [linkIdle_eq hl, State.arbitrate, if_neg]
  exact fun h => Bool.noConfusion h.2

theorem Brings.linkIdle {s : State} (ha : s.agenda = []) (hl : s.clc.link ≠ .down) (h : s.clc.Empty) (low : Bool) :
    Brings 1 [.linkIdle low] s (s.idled low) := .single ha ha (linkIdle_empty hl h low)

/-! ### The end of an attempt (R32, R33) -/

/-- The part with no transaction in flight. -/
def State.landed (s : State) : State := s.onClc fun l => { l with inFlight := none }

/-- What an attempt that is not made again hands on (R32). -/
def LinkRequest.handed (r : LinkRequest) (x : TxOutcome × ReplyFields) : List Task := r.toTracker x.1 x.2 ++ r.toRequester x.1 x.2

theorem endAttempt_final {s : State} {f : InFlight} (hf : s.clc.inFlight = some f) {o : TxOutcome} (ho : f.request.again o = false)
    (x : ReplyFields) : s.endAttempt o x = s.landed.push (f.request.handed (o, x)) := by
  unfold State.endAttempt
  rw [hf]
  dsimp only
  rw [ho]
  rfl

/-- An attempt in flight ends with a final outcome, and the link is freed. -/
theorem run_finish {n : Nat} {s t : State} {f : InFlight} {x : TxOutcome × ReplyFields} (hq : s.Quiet) (hf : s.clc.inFlight = some f)
    (ho : f.request.again x.1 = false) (b : Brings n (f.request.handed x ++ [.linkIdle false]) s.landed t) (hn : n ≤ settleBound) :
    run (fun s => s.finish x) s = .next t := by
  refine run_brings (u := s.landed) hq.1 hq.1.2 ?_ b hn
  rw [State.finish, endAttempt_final hf ho, State.push_push]

/-- Where nothing waits the link is IDLE afterwards. -/
theorem run_finish_empty {n : Nat} {s t : State} {f : InFlight} {x : TxOutcome × ReplyFields} (hq : s.Quiet)
    (hf : s.clc.inFlight = some f) (ho : f.request.again x.1 = false) (b : Brings n (f.request.handed x) s.landed t)
    (hn : n < settleBound) (hl : t.clc.link ≠ .down) (he : t.clc.Empty) :
    run (fun s => s.finish x) s = .next (t.idled false) := by
  have ha : t.agenda = [] := b.choose_spec.2.2
  exact run_finish hq hf ho (b.append (.linkIdle ha hl he false)) hn

/-- A COMPLETE of the class in flight. -/
theorem flying_some {l : Clc} {f : InFlight} {ofClass : TxClass → Bool} (hf : l.inFlight = some f)
    (hc : ofClass f.request.cls = true) : l.flying ofClass = some f.request := by
  simp [Clc.flying, hf, hc]

/-- Two commands whose work is the same on a part that runs. -/
theorem run_congr {s : State} {v w : State → State} (h : s.Running) (e : v s = w s) : run v s = run w s := by
  rw [run_running h, run_running h, e]

section
variable {s : State} {f : InFlight} (h : s.Running) (hf : s.clc.inFlight = some f)
include h hf

theorem exec_freezeComplete (hc : f.request.cls.isFreeze = true) (ending : FreezeEnd) :
    exec (.freezeComplete ending) s = run (fun s => s.finish (freezeResult ending)) s := by
  change execFreezeComplete ending s = _
  refine run_congr h ?_
  rw [flying_some hf hc]

theorem exec_pollComplete (hc : f.request.cls.isPoll = true) (ending : AttemptEnd PollReply) :
    exec (.pollComplete ending) s = run (fun s => s.finish (pollResult f.request ending)) s := by
  change execPollComplete ending s = _
  refine run_congr h ?_
  rw [flying_some hf hc]

theorem exec_commandComplete (hc : f.request.cls.isCommand = true) (ending : AttemptEnd CommandReply) :
    exec (.commandComplete ending) s = run (fun s => s.finish (commandResult f.request ending)) s := by
  change execCommandComplete ending s = _
  refine run_congr h ?_
  rw [flying_some hf hc]

theorem exec_testReadComplete (hc : f.request.cls.isTestRead = true) (ending : AttemptEnd TestReadReply) :
    exec (.testReadComplete ending) s = run (fun s => s.finish (testReadResult f.request ending)) s := by
  change execTestReadComplete ending s = _
  refine run_congr h ?_
  rw [flying_some hf hc]

end

end Sys2Proof.Machine

namespace Sys2Proof.Machine

/-! ### An attempt begins (R17, R35) -/

/-- The attempt that a selected request makes. -/
def State.flight (s : State) (r : LinkRequest) : InFlight :=
  { request := { r with address := s.attemptAddress r, begun := true }, rate := s.floor.linkRate, stretchMs := s.floor.stretchMs }

theorem arbitrate_selects {s : State} {r : LinkRequest} {l : Clc} (hl : s.clc.link = .idle) (ht : s.clc.stuckTimer = false)
    (h : s.clc.select = some (r, l)) :
    s.arbitrate = s.onClc fun _ => { l with link := .own, inFlight := some (s.flight r) } := by
  rw [State.arbitrate, if_pos ⟨hl, ht⟩, h]
  rfl

/-- A request that is no COMMAND may always be selected. -/
theorem eligible_other {l : Clc} {r : LinkRequest} (h : r.isCommand = false) : l.eligible r = true := by
  simp [Clc.eligible, h]

/-- The head of the scan queue is selected where nothing else waits. -/
theorem select_scan {l : Clc} {r : LinkRequest} {rest : List LinkRequest} (hs : l.slots = Vector.replicate 4 none)
    (ht : l.testSlot = none) (hq : l.scanQueue = r :: rest) (hr : r.isCommand = false) :
    l.select = some (r, { l with scanQueue := rest }) := by
  have slots : ∀ b : Bus, l.slots[b] = none := fun b => by simp [hs]
  simp [Clc.select, slots, ht, hq, busesAfter, eligible_other hr]

/-! ### A second of uptime (R182; logs 3 and 8) -/

theorem second_eq {s : State} (hr : s.power = .running) (hu : s.clock.uptime < 2 ^ 32 - 1) :
    s.second = State.lineRisen { s with clock := { s.clock with uptime := s.clock.uptime + 1 } } := by
  have next : nextUptime s.clock.uptime = s.clock.uptime + 1 := if_pos hu
  rw [State.second, if_pos hr]
  unfold State.onClock
  simp only [next]

/-- Settles O2: no line has risen, nothing waits, or the FREEZE at the head of the scan queue begins. -/
theorem idleStepCountsASecond : Obligations.IdleStepCountsASecond := by
  intro s hp
  refine ⟨by rw [step, hp], fun h => if_neg h, fun hr hu => ?_⟩
  intro later
  have counted : s.second = later.lineRisen := second_eq hr hu
  refine ⟨fun h => ?_, fun hl ht => ?_⟩
  · have kept : ¬ (later.clc.link = .idle ∧ later.clc.stuckTimer = true) := by
      rintro ⟨h1, h2⟩
      exact h.elim (fun h => h h1) (fun h => Bool.noConfusion (h.symm.trans h2))
    rw [counted, State.lineRisen, if_neg kept]
  · have risen : s.second = (later.onClc fun l => { l with stuckTimer := false }).arbitrate := by
      rw [counted, State.lineRisen, if_pos ⟨hl, ht⟩]
    refine ⟨fun he => ?_, fun r rest n hs hn hq hc => ?_⟩
    · rw [risen]
      exact arbitrate_empty he
    · have selected := select_scan (l := { s.clc with stuckTimer := false }) hs hn hq (by rw [LinkRequest.isCommand, hc])
      rw [risen, arbitrate_selects (s := later.onClc fun l => { l with stuckTimer := false }) hl rfl selected]
      unfold State.flight State.attemptAddress
      rw [hc]
      rfl

/-! ### The scanner takes a final outcome (R62, R63) -/

/-- The outcome of a request that is no POLL, and not the last of its pass. -/
theorem scanFinal_other {s : State} {r : LinkRequest} (hc : r.counted = true) (hp : r.cls.isPoll = false) (ho : 2 ≤ s.scs.outstanding)
    (o : TxOutcome) (echo : Nat) (value : BitVec 32) :
    s.scanFinal r o echo value = s.onScs fun x => { x with outstanding := x.outstanding - 1 } := by
  have more : ¬ (s.onScs fun x => { x with outstanding := x.outstanding - 1 }).scs.outstanding = 0 := by
    simp only [State.onScs_scs]
    omega
  unfold State.scanFinal
  rw [if_pos hc]
  cases h : r.cls with
  | poll p => rw [h] at hp; nomatch hp
  | freeze n => exact if_neg more
  | command c => exact if_neg more
  | testRead slot => exact if_neg more

/-- FREEZE as the last outcome of its pass: the pass ends. -/
theorem scanFinal_freeze_last {s : State} {r : LinkRequest} {n : Nat} (hc : r.counted = true) (hf : r.cls = .freeze n)
    (ho : s.scs.outstanding = 1) (o : TxOutcome) (echo : Nat) (value : BitVec 32) :
    s.scanFinal r o echo value = (s.onScs fun x => { x with outstanding := 0 }).passEnd := by
  have last : (s.onScs fun x => { x with outstanding := x.outstanding - 1 }) = s.onScs fun x => { x with outstanding := 0 } := by
    simp [State.onScs, ho]
  unfold State.scanFinal
  rw [if_pos hc, hf]
  dsimp only
  rw [last]
  exact if_pos rfl

/-- A pass that is not the last of its round. -/
theorem passEnd_within {s : State} (h : s.scs.passCount + 1 < s.scs.timing.average) :
    s.passEnd = s.onScs fun x => { x with passCount := x.passCount + 1 } := if_neg (Nat.not_le.mpr h)

/-- What a FREEZE hands on: its outcome to the scanner alone (R32). -/
theorem handed_freeze {r : LinkRequest} {n : Nat} (hs : r.requester = .scan) (hf : r.cls = .freeze n) (x : TxOutcome × ReplyFields) :
    r.handed x = [.scanFinal r x.1 x.2.echo x.2.value] := by
  simp [LinkRequest.handed, LinkRequest.toTracker, LinkRequest.tracked, LinkRequest.toRequester, hs, hf]

/-- Settles O40: FREEZE hands its outcome to the scanner, and the link is IDLE. -/
theorem freezeEndsItsPart : Obligations.FreezeEndsItsPart := by
  intro ending f n s hq he hl hf hs hc hcount idle
  have ends : ∀ t : State, s.landed.scanFinal f.request (freezeResult ending).1 (freezeResult ending).2.echo
      (freezeResult ending).2.value = t → t.agenda = [] → t.clc = s.landed.clc →
      exec (.freezeComplete ending) s = .next (t.idled false) := by
    intro t hd ha ht
    rw [exec_freezeComplete hq.1 hf (by rw [hc]; rfl)]
    refine run_finish_empty (n := 1) hq hf (by simp [LinkRequest.again, LinkRequest.retried, hc]) ?_ (by decide) ?_ ?_
    · rw [handed_freeze hs hc]
      exact .single hq.1.2 ha hd
    · rw [ht]
      change s.clc.link ≠ .down
      rw [hl]
      decide
    · rw [ht]
      exact he
  refine ⟨fun h => ends _ (scanFinal_other (s := s.landed) hcount (by rw [hc]; rfl) h _ _ _) hq.1.2 rfl, fun h hp => ?_⟩
  exact ends _ ((scanFinal_freeze_last (s := s.landed) hcount hc h _ _ _).trans (passEnd_within hp)) hq.1.2 rfl

end Sys2Proof.Machine

namespace Sys2Proof.Machine

/-! ### Updates of different parts of the state -/

theorem onScs_congr {s : State} {f g : Scs → Scs} (h : f s.scs = g s.scs) : s.onScs f = s.onScs g := by
  rw [State.onScs, h]
  rfl

/-- Storing a cabinet and changing the cabinet link are independent. -/
theorem onClc_setCabinet (s : State) (c : Nat) (o : Option Cabinet) (f : Clc → Clc) :
    (s.setCabinet c o).onClc f = (s.onClc f).setCabinet c o := by
  unfold State.setCabinet
  split <;> rfl

theorem raise_setCabinet (s : State) (c : Nat) (o : Option Cabinet) (kind : NoticeKind) (subject : Subject) (value result : Nat) :
    (s.raise kind subject value result).setCabinet c o = (s.setCabinet c o).raise kind subject value result := by
  unfold State.setCabinet
  split <;> rfl

theorem State.seqOf_setCabinet (s : State) (c : Nat) (o : Option Cabinet) (b : Bus) : (s.setCabinet c o).seqOf b = s.seqOf b := by
  rw [State.seqOf, State.setCabinet_par, State.seqOf]

theorem recompute_onClc (s : State) (b : Bus) (f : Clc → Clc) : (s.onClc f).recompute b = (s.recompute b).onClc f := by
  unfold State.recompute
  rw [show (s.onClc f).bus b = s.bus b from rfl]
  cases s.bus b with
  | none => rfl
  | some u =>
    unfold State.raiseBus
    dsimp only
    rw [show (s.onClc f).strict b u.defn = s.strict b u.defn from rfl,
      show (s.onClc f).securityOf b u.defn = s.securityOf b u.defn from rfl]
    split_ifs <;> rfl

/-! ### The tracker takes an attempt (R38, R40, R41) -/

/-- The record after a failure that changes the count alone (R40). -/
def Track.failed (t : Track) : Track := { t with failures := min (t.failures + 1) 15 }

/-- The record after a success that tells nothing new (R38). -/
def Track.heard (t : Track) (now : Nat) : Track := { t with failures := 0, lastSuccess := some now }

/-- A state word the tracker already holds, or none, tells nothing new of a reachable cabinet: no overlay is in force and
neither check of a first report waits (R39). -/
def Track.Knows (t : Track) (word : Option StateWord) : Prop :=
  t.unreachable = false ∧ ∀ w ∈ word, t.lastWord = some w ∧ t.overlay = none ∧ t.firstReportPending = false ∧
    t.bypassCheckPending = false

theorem trackFailure_below {s : State} {c : Nat} {k : Cabinet} (hk : s.cabinet c = some k)
    (h : k.track.unreachable = true ∨ k.track.failed.failures < s.floor.unreachableThreshold) (o : TxOutcome) :
    s.trackFailure c o = s.setCabinet c (some { k with track := k.track.failed }) := by
  have below : ¬ (s.floor.unreachableThreshold ≤ k.track.failed.failures ∧ k.track.failed.unreachable = false) := by
    rintro ⟨h1, h2⟩
    exact h.elim (fun h => Bool.noConfusion (h.symm.trans h2)) (Nat.not_lt.mpr h1)
  unfold State.trackFailure
  rw [hk]
  exact if_neg below

theorem Brings.failure {s : State} {c : Nat} {k : Cabinet} {o : TxOutcome} (ha : s.agenda = []) (hk : s.cabinet c = some k)
    (h : k.track.unreachable = true ∨ k.track.failed.failures < s.floor.unreachableThreshold) (ho : o.isFailure = true)
    (isTestRead : Bool) (word : Option StateWord) :
    Brings 1 [.trackAttempt c o isTestRead word] s (s.setCabinet c (some { k with track := k.track.failed })) := by
  refine .single ha ((State.setCabinet_agenda ..).trans ha) ?_
  change s.trackAttempt c o isTestRead word = _
  rw [State.trackAttempt, if_pos ho, trackFailure_below hk h]

/-- The report of a state word already known changes nothing (R39). -/
theorem report_known {t : Track} {w : StateWord} (h : t.Knows (some w)) (s : State) (c now : Nat) :
    s.report c (t.heard now) w = .quiet (t.heard now) := by
  obtain ⟨-, h⟩ := h
  obtain ⟨hw, ho, hf, hb⟩ := h w rfl
  have differ : StateWord.flagsDiffer (some w) w = false := by simp [StateWord.flagsDiffer]
  cases t
  simp only at hw ho hf hb
  subst hw ho hf hb
  simp [State.report, Track.heard, Track.examine, TrackWork.quiet, differ]

/-- A success that tells nothing new of the cabinet (R38). -/
theorem trackSuccess_known {s : State} {c : Nat} {k : Cabinet} {word : Option StateWord} (hk : s.cabinet c = some k)
    (h : k.track.Knows word) (source : Source) :
    s.trackSuccess c word source = s.completeTrack c k source (.quiet (k.track.heard s.now)) := by
  have reachable : (TrackWork.quiet (k.track.heard s.now)).recover s.now = .quiet (k.track.heard s.now) :=
    if_neg (by simp [TrackWork.quiet, Track.heard, h.1])
  unfold State.trackSuccess
  rw [hk]
  cases word with
  | none => exact congrArg (s.completeTrack c k source) reachable
  | some w =>
    have report := report_known h s c s.now
    exact congrArg (s.completeTrack c k source) ((congrArg (TrackWork.recover · s.now) report).trans reachable)

/-- Work that leaves the tracked state: the record, and a CABINET_STATE where an alert gives its cause (R48). -/
theorem completeTrack_same {t : Track} {k : Cabinet} (h : t.state = k.track.state) (s : State) (c : Nat) (source : Source) :
    s.completeTrack c k source (.quiet t) =
      (if source.cause = 0 then s.setCabinet c (some { k with track := t })
       else (s.setCabinet c (some { k with track := t })).raise .cabinetState { bus := k.defn.bus.val + 1, cabinet := c }
         (source.cause * 65536 + k.track.state.code * 256 + k.track.state.code) source.code).push [.meet] := by
  have settled : t.settle k.track.state = t := if_neg (by rw [h]; simp)
  unfold State.completeTrack
  simp only [TrackWork.quiet, h, settled, State.raiseTrack, handOn, busCode]
  by_cases hc : source.cause = 0 <;> simp [hc]

/-- A reply that tells nothing new of its cabinet is a success and no more (R38). -/
theorem Brings.success {s : State} {c : Nat} {k : Cabinet} {o : TxOutcome} {word : Option StateWord} (h : s.AtRest)
    (hk : s.cabinet c = some k) (hw : k.track.Knows word) (ho : o.isFailure = false) (isTestRead : Bool) :
    Brings 2 [.trackAttempt c o isTestRead word] s (s.setCabinet c (some { k with track := k.track.heard s.now })) := by
  have rest := h.setCabinet c (some { k with track := k.track.heard s.now })
  refine .task h.1 rest.1 ?_ (.rest rest)
  change s.trackAttempt c o isTestRead word = _
  rw [State.trackAttempt, ho, if_neg Bool.false_ne_true, trackSuccess_known hk hw,
    completeTrack_same (k := k) (t := k.track.heard s.now) rfl]
  cases isTestRead <;> rfl

/-! ### The scanner judges a POLL (R63) -/

/-- The entries of a pair. -/
def ActiveEntry.reads (c : Nat) (p : Point) (e : ActiveEntry) : Bool := decide (e.entry.cabinet = c ∧ e.entry.point = p)

/-- A poll that gave no sample: the last outcome of its entry, and the failure count (R63). -/
def Scs.missed (x : Scs) (c : Nat) (p : Point) (o : LastOutcome) : Scs :=
  { x with
    active := x.active.map fun e => if e.reads c p then { e with reading := { e.reading with lastOutcome := o } } else e,
    scanFailures := if x.active.any (ActiveEntry.reads c p) then min (x.scanFailures + 1) 65535 else x.scanFailures }

/-- A poll that gave a sample (R63). -/
def Scs.sampled (x : Scs) (c : Nat) (p : Point) (v : Int) : Scs :=
  { x with active := x.active.map fun e => if e.reads c p then
      { e with reading := { e.reading with lastOutcome := .ok }, samples := e.samples.add v } else e }

theorem ActiveEntry.reads_eq (e : ActiveEntry) (c : Nat) (p : Point) :
    (e.entry.cabinet == c && e.entry.point == p) = e.reads c p := by
  rw [ActiveEntry.reads, Bool.decide_and]
  rfl

theorem map_unread {l : List ActiveEntry} {c : Nat} {p : Point} (h : l.any (ActiveEntry.reads c p) = false)
    (f : ActiveEntry → ActiveEntry) : l.map (fun e => if e.reads c p then f e else e) = l := by
  have unread : ∀ e ∈ l, e.reads c p = false := by simpa using h
  refine (List.map_congr_left fun e he => ?_).trans l.map_id
  rw [unread e he]
  rfl

theorem judge_missed {x : Scs} {o : TxOutcome} {echo : Nat} (ho : pollOutcome o (echo == x.passSequence) ≠ .ok) (c : Nat) (p : Point)
    (value : BitVec 32) : x.judge c p o echo value = x.missed c p (pollOutcome o (echo == x.passSequence)) := by
  unfold Scs.judge Scs.missed
  simp only [ActiveEntry.reads_eq, if_neg ho]
  cases h : x.active.any (ActiveEntry.reads c p) with
  | true => rfl
  | false => rw [map_unread h]; rfl

theorem judge_sampled (x : Scs) (c : Nat) (p : Point) (value : BitVec 32) :
    x.judge c p .ok x.passSequence value = x.sampled c p (p.valueOf value) := by
  unfold Scs.judge Scs.sampled
  simp only [ActiveEntry.reads_eq, pollOutcome, beq_self_eq_true, if_true]
  cases h : x.active.any (ActiveEntry.reads c p) with
  | true => rfl
  | false => rw [map_unread h]; rfl

/-- The outcome of a POLL that is not the last of its pass. -/
theorem scanFinal_poll {s : State} {r : LinkRequest} {p : Point} (hc : r.counted = true) (hp : r.cls = .poll p)
    {o : TxOutcome} {echo : Nat} {value : BitVec 32} {x : Scs} (hj : s.scs.judge r.cabinet p o echo value = x)
    (ho : 2 ≤ x.outstanding) :
    s.scanFinal r o echo value = s.onScs fun _ => { x with outstanding := x.outstanding - 1 } := by
  have more : ¬ ((s.onScs fun y => y.judge r.cabinet p o echo value).onScs fun y => { y with outstanding := y.outstanding - 1 }
      ).scs.outstanding = 0 := by
    simp only [State.onScs_scs, hj]
    omega
  unfold State.scanFinal
  rw [if_pos hc, hp]
  refine (if_neg more).trans ?_
  simp only [State.onScs, hj]

/-! ### The end of a POLL (R32) -/

theorem handed_poll {r : LinkRequest} {p : Point} (hs : r.requester = .scan) (hp : r.cls = .poll p) (hc : r.credited = true)
    (x : TxOutcome × ReplyFields) :
    r.handed x = [.trackAttempt r.cabinet x.1 false x.2.word] ++ [.scanFinal r x.1 x.2.echo x.2.value] := by
  simp [LinkRequest.handed, LinkRequest.toTracker, LinkRequest.tracked, LinkRequest.isTestRead, LinkRequest.toRequester, hs, hp, hc]

/-- A POLL that is not the last of its pass ends: the tracker, then the scanner take it. -/
theorem Brings.poll {n : Nat} {s t : State} {r : LinkRequest} {p : Point} {x : TxOutcome × ReplyFields} {y : Scs}
    (hs : r.requester = .scan) (hp : r.cls = .poll p) (hcount : r.counted = true) (hcred : r.credited = true)
    (track : Brings n [.trackAttempt r.cabinet x.1 false x.2.word] s t)
    (hj : t.scs.judge r.cabinet p x.1 x.2.echo x.2.value = y) (ho : 2 ≤ y.outstanding) :
    Brings (n + 1) (r.handed x) s (t.onScs fun _ => { y with outstanding := y.outstanding - 1 }) := by
  have ha : t.agenda = [] := track.choose_spec.2.2
  rw [handed_poll hs hp hcred]
  exact track.append (.single ha ha (scanFinal_poll hcount hp hj ho))

/-- The link waits for nothing, and an attempt that is not made again ends on it. -/
theorem run_finish_poll {n : Nat} {s t : State} {f : InFlight} {p : Point} {x : TxOutcome × ReplyFields} {y : Scs} (hq : s.Quiet)
    (he : s.clc.Empty) (hl : s.clc.link = .own) (hf : s.clc.inFlight = some f) (hs : f.request.requester = .scan)
    (hp : f.request.cls = .poll p) (hcount : f.request.counted = true) (hcred : f.request.credited = true)
    (track : Brings n [.trackAttempt f.request.cabinet x.1 false x.2.word] s.landed t) (hn : n ≤ 1000)
    (hclc : t.clc = s.landed.clc) (hj : t.scs.judge f.request.cabinet p x.1 x.2.echo x.2.value = y) (ho : 2 ≤ y.outstanding) :
    run (fun s => s.finish x) s = .next ((t.onScs fun _ => { y with outstanding := y.outstanding - 1 }).idled false) := by
  refine run_finish_empty hq hf (by simp [LinkRequest.again, LinkRequest.retried, hp]) (.poll hs hp hcount hcred track hj ho)
    (by unfold settleBound; omega) ?_ ?_
  · rw [State.onScs_clc, hclc]
    change s.clc.link ≠ .down
    rw [hl]
    decide
  · rw [State.onScs_clc, hclc]
    exact he

/-- A reply of a POLL with a matching check and a well-formed state word (R19, R21, R24). -/
theorem pollResult_reply {r : LinkRequest} {reply : PollReply} {check : Byte} {w : StateWord}
    (hw : StateWord.ofByte reply.stateWord = some w)
    (hc : check = crc8 (r.header :: reply.stateWord :: reply.echo :: octets 4 reply.value.toNat)) :
    pollResult r (.reply reply check) =
      (.ok, { ReplyFields.none with word := some w, echo := reply.echo.toNat, value := reply.value }) := by
  refine (if_pos hc).trans ?_
  rw [hw]

/-! ### A failure that makes a cabinet UNREACHABLE (R40, R48, R49) -/

/-- What a change of tracked state hands on (R49). -/
def changeTasks (c : Nat) (b : Bus) (old new : Tracked) : List Task :=
  [.openHold, .ageingOnChange c old new, .testOnChange c b new, .permitOnChange c old new, .closeHold]

/-- Work that changes the tracked state, and does not make it ONLINE: the record, CABINET_STATE, and the change handed on. -/
theorem completeTrack_changed {t : Track} {k : Cabinet} (h : k.track.state ≠ t.state) (ho : t.state ≠ .online) (s : State) (c : Nat)
    (source : Source) :
    s.completeTrack c k source (.quiet t) =
      (((s.setCabinet c (some { k with track := t })).raise .cabinetState { bus := k.defn.bus.val + 1, cabinet := c }
        (source.cause * 65536 + k.track.state.code * 256 + t.state.code) source.code).trigger k.defn.bus).push
        (changeTasks c k.defn.bus k.track.state t.state) := by
  have settled : t.settle k.track.state = t := if_neg fun x => ho x.1
  unfold State.completeTrack
  simp only [TrackWork.quiet, settled, State.raiseTrack, handOn, busCode, changeTasks]
  simp [h]

/-- A change that nothing takes up is handed on, and the triggers are met. -/
theorem Brings.handOn {n : Nat} {s t : State} {c : Nat} {b : Bus} {old new : Tracked} (ha : s.agenda = [])
    (ageing : doTask (.ageingOnChange c old new) (s.onHold (· + 1)) = s.onHold (· + 1))
    (test : doTask (.testOnChange c b new) (s.onHold (· + 1)) = s.onHold (· + 1))
    (permit : doTask (.permitOnChange c old new) (s.onHold (· + 1)) = s.onHold (· + 1)) (meets : Brings n [.meet] s t) :
    Brings (n + 5) (changeTasks c b old new) s t := by
  have ha' : (s.onHold (· + 1)).agenda = [] := ha
  have opened : Brings 1 [.openHold] s (s.onHold (· + 1)) := .single ha ha rfl
  have closed : doTask .closeHold (s.onHold (· + 1)) = s.push [.meet] := by
    simp [doTask, State.closeHold, State.push, State.onHold, State.onAgenda]
  have first := (opened.append (.single ha' ha' ageing)).append (.single ha' ha' test)
  exact ((first.append (.single ha' ha' permit)).append (.task ha' ha closed meets)).mono (by omega)

/-- A change away from battery is handed on for nothing where no test runs, no permit is live and every sequencer is NORMAL, and
the triggers are met. -/
theorem Brings.change {s : State} {c : Nat} {b : Bus} {old new : Tracked} (ha : s.agenda = []) (hh : s.hold = 0)
    (hn : s.NoTransfers) (ht : s.test.subject = none) (hold : old ≠ .onBattery) (hnew : new ≠ .onBattery) :
    Brings 46 (changeTasks c b old new) s s.met := by
  obtain ⟨ageing, test, permit⟩ := doTask_change_idle (s := s.onHold (· + 1)) hn ht c b hold hnew
  exact .handOn ha ageing test permit (.meets ha hh hn)

/-- The record of a cabinet as it becomes UNREACHABLE (R40). -/
def Track.lost (t : Track) (now : Nat) : Track := { t.failed with unreachable := true, unreachableSince := some now }

/-- The cabinet stored as UNREACHABLE, and the notices of it (R40, R48). -/
def State.toldLost (s : State) (c : Nat) (k : Cabinet) (o : TxOutcome) : State :=
  ((s.setCabinet c (some { k with track := k.track.lost s.now })).raise .cabinetUnreachable
    { bus := k.defn.bus.val + 1, cabinet := c } k.track.failed.failures o.failureCode).raise .cabinetState
    { bus := k.defn.bus.val + 1, cabinet := c } (k.track.state.code * 256 + 9) 3

theorem trackFailure_threshold {s : State} {c : Nat} {k : Cabinet} (hk : s.cabinet c = some k) (hu : k.track.unreachable = false)
    (h : s.floor.unreachableThreshold ≤ k.track.failed.failures) (o : TxOutcome) :
    s.trackFailure c o = ((s.toldLost c k o).trigger k.defn.bus).push (changeTasks c k.defn.bus k.track.state .unreachable) := by
  have reached : s.floor.unreachableThreshold ≤ k.track.failed.failures ∧ k.track.failed.unreachable = false := ⟨h, hu⟩
  have new : (k.track.lost s.now).state = .unreachable := rfl
  have old : k.track.state ≠ .unreachable := by
    unfold Track.state
    rw [if_neg (by rw [hu]; exact Bool.false_ne_true)]
    split
    · nofun
    next w _ =>
      split
      · nofun
      · nofun
      · cases w.mode <;> nofun
  unfold State.trackFailure
  rw [hk]
  refine (if_pos reached).trans ?_
  change State.completeTrack _ c k .threshold (.quiet (k.track.lost s.now)) = _
  rw [completeTrack_changed (by rw [new]; exact old) (by rw [new]; nofun), raise_setCabinet, new]
  change (State.trigger (State.raise _ _ _ (0 * 65536 + k.track.state.code * 256 + 9) 3) _).push _ = _
  rw [Nat.zero_mul, Nat.zero_add]
  rfl

/-- A cabinet that becomes UNREACHABLE has its bus recomputed where nothing else takes the change up (R48, R49). -/
theorem Brings.lost {s : State} {c : Nat} {k : Cabinet} {o : TxOutcome} (hr : s.AtRest) (hk : s.cabinet c = some k)
    (hn : s.NoTransfers) (ht : s.test.subject = none) (hu : k.track.unreachable = false)
    (h : s.floor.unreachableThreshold ≤ k.track.failed.failures) (hb : k.track.state ≠ .onBattery) (ho : o.isFailure = true)
    (isTestRead : Bool) (word : Option StateWord) :
    Brings 47 [.trackAttempt c o isTestRead word] s ((s.toldLost c k o).recompute k.defn.bus) := by
  have stored : (s.setCabinet c (some { k with track := k.track.lost s.now })).NoTransfers :=
    ⟨by rw [State.setCabinet_par, hn.1], fun b => by rw [State.seqOf_setCabinet, hn.2 b]⟩
  have noTransfers : (s.toldLost c k o).NoTransfers := stored
  have rest : (s.toldLost c k o).AtRest := hr.setCabinet c (some { k with track := k.track.lost s.now })
  have idle : (s.toldLost c k o).test.subject = none := by
    change (s.setCabinet _ _).test.subject = none
    rwa [State.setCabinet_test]
  have fails : doTask (.trackAttempt c o isTestRead word) s = s.trackFailure c o := if_pos ho
  rw [trackFailure_threshold hk hu h] at fails
  generalize s.toldLost c k o = x at *
  rw [← State.met_trigger rest.2.2]
  exact .task (u := x.trigger k.defn.bus) hr.1 rest.1 fails (.change rest.1 rest.2.1 noTransfers idle hb (by nofun))

end Sys2Proof.Machine

namespace Sys2Proof.Machine

theorem recompute_idled (s : State) (b : Bus) (low : Bool) : (s.recompute b).idled low = (s.idled low).recompute b :=
  (recompute_onClc s b _).symm

theorem raise_idled (s : State) (kind : NoticeKind) (subject : Subject) (value result : Nat) (low : Bool) :
    (s.raise kind subject value result).idled low = (s.idled low).raise kind subject value result := rfl

theorem setCabinet_idled (s : State) (c : Nat) (o : Option Cabinet) (low : Bool) :
    (s.setCabinet c o).idled low = (s.idled low).setCabinet c o := onClc_setCabinet s c o _

theorem toldLost_idled (s : State) (c : Nat) (k : Cabinet) (o : TxOutcome) (low : Bool) :
    (s.toldLost c k o).idled low = (s.idled low).toldLost c k o := by
  unfold State.toldLost
  rw [show (s.idled low).now = s.now from rfl, ← setCabinet_idled]
  rfl

/-- A pass awaits one outcome fewer (R62). -/
def Scs.taken (x : Scs) : Scs := { x with outstanding := x.outstanding - 1 }

section
variable {n : Nat} {s t : State} {f : InFlight} {p : Point} (hq : s.Quiet) (he : s.clc.Empty) (hl : s.clc.link = .own)
  (hf : s.clc.inFlight = some f) (hs : f.request.requester = .scan) (hp : f.request.cls = .poll p)
  (hcount : f.request.counted = true) (hcred : f.request.credited = true) (ho : 2 ≤ s.scs.outstanding)
include hq he hl hf hs hp hcount hcred ho

/-- A POLL ends without a sample, and not as the last of its pass. -/
theorem exec_poll_missed {ending : AttemptEnd PollReply} {o : TxOutcome} {x : ReplyFields}
    (hx : pollResult f.request ending = (o, x)) (track : Brings n [.trackAttempt f.request.cabinet o false x.word] s.landed t)
    (hn : n ≤ 1000) (hclc : t.clc = s.landed.clc) (hscs : t.scs = s.scs)
    (hne : pollOutcome o (x.echo == s.scs.passSequence) ≠ .ok) :
    exec (.pollComplete ending) s = .next ((t.idled false).onScs fun y =>
      (y.missed f.request.cabinet p (pollOutcome o (x.echo == s.scs.passSequence))).taken) := by
  have judged := judge_missed hne f.request.cabinet p x.value
  rw [exec_pollComplete hq.1 hf (by rw [hp]; rfl), hx,
    run_finish_poll (y := s.scs.missed f.request.cabinet p _) hq he hl hf hs hp hcount hcred track hn hclc
      (by rw [hscs]; exact judged) ho, ← hscs]
  rfl

/-- A POLL ends with a sample, and not as the last of its pass. -/
theorem exec_poll_sampled {ending : AttemptEnd PollReply} {x : ReplyFields} (hx : pollResult f.request ending = (.ok, x))
    (track : Brings n [.trackAttempt f.request.cabinet .ok false x.word] s.landed t) (hn : n ≤ 1000)
    (hclc : t.clc = s.landed.clc) (hscs : t.scs = s.scs) (hecho : x.echo = s.scs.passSequence) :
    exec (.pollComplete ending) s = .next ((t.idled false).onScs fun y =>
      (y.sampled f.request.cabinet p (p.valueOf x.value)).taken) := by
  have judged := judge_sampled s.scs f.request.cabinet p x.value
  rw [exec_pollComplete hq.1 hf (by rw [hp]; rfl), hx,
    run_finish_poll (y := s.scs.sampled f.request.cabinet p _) hq he hl hf hs hp hcount hcred track hn hclc
      (by rw [hscs, hecho]; exact judged) ho, ← hscs]
  rfl

end

/-- Settles O41: what the tracker makes of the poll, then what the scanner does; the link is IDLE. -/
theorem pollIsTrackedAndJudged : Obligations.PollIsTrackedAndJudged := by
  intro f p c k s hq he hl hf hs hp hc hcount hcred hk ho idle entries listed missed
  subst hc
  have rest : s.landed.AtRest := hq.atRest
  have missed_eq : ∀ (l : LastOutcome) (t : State), t.scs = s.scs →
      (t.onScs fun y => (y.missed f.request.cabinet p l).taken) = missed l t := by
    intro l t ht
    refine onScs_congr ?_
    simp only [ht, Scs.missed, Scs.taken, ActiveEntry.reads, decide_eq_true_eq, entries, listed]
    rfl
  refine ⟨?_, ?_, ?_⟩
  · intro ending hend hbelow
    subst hend
    rw [exec_poll_missed (x := .none) hq he hl hf hs hp hcount hcred ho rfl (.failure (s := s.landed) rest.1 hk hbelow rfl false none)
      (by decide) (State.setCabinet_clc ..) (State.setCabinet_scs ..) (by nofun), setCabinet_idled]
    exact congrArg Host.Outcome.next (missed_eq .noAnswer _ (State.setCabinet_scs ..))
  · intro n subject hn ht hu hreach hbat
    have scs : ((s.landed.toldLost f.request.cabinet k .noAnswer).recompute k.defn.bus).scs = s.scs :=
      (State.recompute_scs ..).trans (State.setCabinet_scs ..)
    rw [exec_poll_missed (x := .none) hq he hl hf hs hp hcount hcred ho rfl
      (.lost (s := s.landed) rest hk hn ht hu hreach hbat rfl false none) (by decide)
      ((State.recompute_clc ..).trans (State.setCabinet_clc ..)) scs (by nofun), recompute_idled, toldLost_idled]
    exact congrArg Host.Outcome.next (missed_eq .noAnswer _ ((State.recompute_scs ..).trans (State.setCabinet_scs ..)))
  · intro word echo check value w hw hcheck hlast hu hov hfirst hby heard
    have knows : k.track.Knows (some w) := ⟨hu, fun v hv => by cases hv; exact ⟨hlast, hov, hfirst, hby⟩⟩
    have reply := pollResult_reply (reply := { stateWord := word, echo := echo, value := value }) hw hcheck
    have track := Brings.success (s := s.landed) (o := .ok) rest hk knows rfl false
    refine ⟨fun hecho => ?_, fun hecho => ?_⟩
    · rw [exec_poll_sampled hq he hl hf hs hp hcount hcred ho reply track (by decide) (State.setCabinet_clc ..)
        (State.setCabinet_scs ..) hecho, setCabinet_idled]
      refine congrArg Host.Outcome.next (onScs_congr ?_)
      simp only [Scs.sampled, Scs.taken, ActiveEntry.reads, decide_eq_true_eq, entries]
    · have stale : pollOutcome .ok (echo.toNat == s.scs.passSequence) = .staleFreeze := if_neg (by simpa using hecho)
      rw [exec_poll_missed hq he hl hf hs hp hcount hcred ho reply track (by decide) (State.setCabinet_clc ..)
        (State.setCabinet_scs ..) (by rw [stale]; nofun), setCabinet_idled, stale]
      exact congrArg Host.Outcome.next (missed_eq .staleFreeze _ (State.setCabinet_scs ..))

end Sys2Proof.Machine

namespace Sys2Proof.Machine

/-! ### Events that happen only under a condition (log 3) -/

theorem run_allowed {s : State} {work : State → State} (cond : State → Bool) (h : s.Running) (hc : cond s = true) :
    run (fun s => s.onlyIf (cond s) work) s = run work s := run_congr h (if_pos hc)

theorem run_disallowed {s : State} {work : State → State} (cond : State → Bool) (h : s.Running) (hc : cond s = false) :
    run (fun s => s.onlyIf (cond s) work) s = .next s := by
  have still : s.onlyIf (cond s) work = s := by rw [hc]; rfl
  rw [run_running h, still, settle_nil s h.2]

/-! ### The stretch timeout (R28) -/

/-- LCK waited for with the stuck-line timer running (R28). -/
def State.stretched (s : State) : State := s.onClc fun l => { l with inFlight := none, stretchWait := true, stuckTimer := true }

/-- The stretch timeout ends an attempt that is not made again. -/
theorem run_stretchTimeout {n : Nat} {s t : State} {f : InFlight} (hr : s.Running) (hf : s.clc.inFlight = some f)
    (hc : f.request.cls.isFreeze = false) (ho : f.request.again .stretchTimeout = false)
    (b : Brings n (f.request.handed (.stretchTimeout, .none)) s.stretched t) (hn : n ≤ settleBound) :
    exec .stretchTimeoutExpiry s = .next t := by
  change run State.stretchTimeout s = _
  refine run_brings (u := s.stretched) hr hr.2 ?_ b hn
  unfold State.stretchTimeout
  rw [hf]
  dsimp only
  rw [hc, endAttempt_final hf ho]
  rfl

/-- Settles O45: the POLL is a failure, LCK is waited for, and its rise frees the link. -/
theorem stretchTimeoutWaitsForTheClock : Obligations.StretchTimeoutWaitsForTheClock := by
  intro s hq
  refine ⟨fun f p c k hf hs hp hc hcount hcred hk ho hbelow => ?_, fun hl hw he => ?_, fun hw => ?_⟩
  · subst hc
    have rest : s.stretched.AtRest := hq.atRest
    have scs : (s.stretched.setCabinet f.request.cabinet (some { k with track := k.track.failed })).scs = s.scs :=
      State.setCabinet_scs ..
    have judged := judge_missed (x := s.scs) (o := .stretchTimeout) (echo := 0) (by nofun) f.request.cabinet p 0#32
    have polled := Brings.poll (y := s.scs.missed f.request.cabinet p .stretchTimeout) (x := (.stretchTimeout, .none)) hs hp hcount
      hcred (.failure (s := s.stretched) rest.1 hk hbelow rfl false none) (by rw [scs]; exact judged) ho
    rw [run_stretchTimeout hq.1 hf (by rw [hp]; rfl) (by simp [LinkRequest.again, LinkRequest.retried, hp]) polled (by decide)]
    refine congrArg Host.Outcome.next (onScs_congr ?_)
    simp only [scs, Scs.missed, ActiveEntry.reads, decide_eq_true_eq]
    rfl
  · refine (run_allowed (fun s => s.clc.link == .own && s.clc.stretchWait) hq.1 (by simp [hl, hw])).trans ?_
    exact run_brings (u := s) hq.1 hq.1.2 rfl (.linkIdle hq.1.2 (by rw [hl]; nofun) he false) (by decide)
  · exact run_disallowed (fun s => s.clc.link == .own && s.clc.stretchWait) hq.1 (by simp [hw])

/-! ### Alerts (R24, R25, R27) -/

theorem mem_definedCabinets {s : State} {c : Nat} {k : Cabinet} (h : (c, k) ∈ s.definedCabinets) : s.cabinet c = some k := by
  unfold State.definedCabinets at h
  simp only [List.mem_filterMap, Option.map_eq_some_iff, Prod.mk.injEq] at h
  obtain ⟨d, -, j, hj, rfl, rfl⟩ := h
  exact hj

/-- A mode field of 6 or 7 makes a state word malformed (R24). -/
theorem ofByte_malformed {word : Byte} (h : 5 < word.toNat % 8) : StateWord.ofByte word = none := by
  have bits : word.toNat % 8 = 6 ∨ word.toNat % 8 = 7 := by omega
  rcases bits with h | h <;> simp [StateWord.ofByte, h, Mode.ofBits]

/-- An alert that is not valid, or from an address that no cabinet holds, hands nothing on. -/
theorem alertTasks_dropped {s : State} {header word cause check : Byte}
    (h : header.toNat = 0 ∨ 31 < header.toNat ∨ check ≠ crc8 [header, word, cause] ∨ 5 < word.toNat % 8 ∨
      ∀ p ∈ s.definedCabinets, p.2.defn.address ≠ header.toNat) : s.alertTasks header word cause check = [] := by
  unfold State.alertTasks alertWord
  by_cases valid : 1 ≤ header.toNat ∧ header.toNat ≤ 31 ∧ check = crc8 [header, word, cause]
  · rw [if_pos valid]
    rcases h with h | h | h | h | h
    · omega
    · omega
    · exact absurd valid.2.2 h
    · rw [ofByte_malformed h]
    · have none : s.atAddress header.toNat = none := by
        rw [State.atAddress, List.find?_eq_none.mpr fun p hp => by simpa using h p hp, Option.map_none]
      rw [none]
      cases StateWord.ofByte word <;> rfl
  · rw [if_neg valid]

theorem alertTasks_valid {s : State} {header word cause check : Byte} {c : Nat} {k : Cabinet} {w : StateWord}
    (hc : s.definedCabinets.filter (fun p => p.2.defn.address == header.toNat) = [(c, k)]) (h1 : 1 ≤ header.toNat)
    (h31 : header.toNat ≤ 31) (hcheck : check = crc8 [header, word, cause]) (hw : StateWord.ofByte word = some w) :
    s.alertTasks header word cause check = [.trackAlert c w (alertCause cause)] := by
  have held : s.atAddress header.toNat = some c := by rw [State.atAddress, ← List.head?_filter, hc]; rfl
  unfold State.alertTasks alertWord
  rw [if_pos ⟨h1, h31, hcheck⟩, hw, held]

/-- A valid alert that tells nothing new is a success, and CABINET_STATE gives its cause (R38, R48). -/
theorem Brings.alert {s : State} {c : Nat} {k : Cabinet} {w : StateWord} (h : s.AtRest) (hk : s.cabinet c = some k)
    (hw : k.track.Knows (some w)) {cause : Nat} (hc : cause ≠ 0) :
    Brings 2 [.trackAlert c w cause] s ((s.setCabinet c (some { k with track := k.track.heard s.now })).raise .cabinetState
      { bus := k.defn.bus.val + 1, cabinet := c } (cause * 65536 + k.track.state.code * 256 + k.track.state.code) 2) := by
  have rest := h.setCabinet c (some { k with track := k.track.heard s.now })
  refine .task (u := (s.setCabinet c (some { k with track := k.track.heard s.now })).raise _ _ _ _) h.1 rest.1 ?_ (.rest rest)
  change s.trackSuccess c (some w) (.alert cause) = _
  rw [trackSuccess_known hk hw, completeTrack_same (k := k) (t := k.track.heard s.now) rfl]
  exact congrArg (State.push · [.meet]) (if_neg hc)

/-- The end of an alert: what it hands on, and then the link is idle. -/
theorem run_alertReceived {n : Nat} {s t : State} (hq : s.Quiet) (hl : s.clc.link = .alertIn) {header word cause check : Byte}
    {after : LineLevels} (b : Brings n (s.alertTasks header word cause check) s t) (hn : n ≤ 1000)
    (hclc : t.clc = s.clc) (he : s.clc.Empty ∨ lineLow after = true) :
    exec (.alertReceived header word cause { check := check, after := after }) s = .next (t.idled (lineLow after)) := by
  have ha : t.agenda = [] := b.choose_spec.2.2
  have link : t.clc.link ≠ .down := by
    rw [hclc, hl]
    nofun
  have freed : t.linkIdle (lineLow after) = t.idled (lineLow after) := by
    rcases he with he | he
    · exact linkIdle_empty link (hclc ▸ he) _
    · rw [he, linkIdle_low link]
  refine (run_allowed (fun s => s.clc.link == .alertIn) hq.1 (by simp [hl])).trans ?_
  exact run_brings (u := s) hq.1 hq.1.2 rfl (b.append (.single (t := .linkIdle _) ha ha freed)) (by unfold settleBound; omega)

/-- Settles O44: an alert's start, a lost attempt, and the end of an alert by what it hands on. -/
theorem alertsTakeTheLink : Obligations.AlertsTakeTheLink := by
  intro s hq
  refine ⟨fun hl => ?_, fun hl => ?_, fun f hf => ?_, ?_⟩
  · exact (run_allowed (fun s => s.clc.link == .idle) hq.1 (by simp [hl])).trans (run_done hq.1 hq.1.2)
  · exact run_disallowed (fun s => s.clc.link == .idle) hq.1 (by simp [hl])
  · change run State.loseLink s = _
    have lost : s.loseLink = s.onClc fun l =>
        { l.giveBack f.request with inFlight := none, link := .alertIn, alertRate := f.rate, stuckTimer := true } := by
      rw [State.loseLink, hf]
    rw [run_done hq.1 (by rw [lost]; exact hq.1.2), lost]
    refine congrArg Host.Outcome.next (congrArg s.onClc (funext fun l => ?_))
    unfold Clc.giveBack
    cases f.request.requester <;> rfl
  intro header word cause check after hl low idle he
  refine ⟨fun h => ?_, ?_⟩
  · have none := alertTasks_dropped h
    exact run_alertReceived (t := s) hq hl (by rw [none]; exact .nothing hq.1.2) (Nat.zero_le _) rfl he
  · intro c k w hc h1 h31 hcheck hw hlast hu hov hfirst hby given
    have hk : s.cabinet c = some k := mem_definedCabinets (List.mem_of_mem_filter (hc ▸ List.mem_singleton_self (c, k)))
    have knows : k.track.Knows (some w) := ⟨hu, fun v hv => by cases hv; exact ⟨hlast, hov, hfirst, hby⟩⟩
    have some_cause : given ≠ 0 := by
      simp only [given]
      split <;> omega
    have told := Brings.alert hq.atRest hk knows some_cause
    have tasks : s.alertTasks header word cause check = [.trackAlert c w given] := alertTasks_valid hc h1 h31 hcheck hw
    rw [← tasks] at told
    rw [run_alertReceived hq hl told (by decide) (State.setCabinet_clc ..) he]
    rw [raise_idled, setCabinet_idled]
    rfl

end Sys2Proof.Machine

namespace Sys2Proof.Machine

/-! ### Updates of the permits beside other parts of the state -/

theorem onQueue_setCabinet (s : State) (b : Bus) (c : Nat) (o : Option Cabinet) (f : TransferQueue → TransferQueue) :
    (s.onQueue b f).setCabinet c o = (s.setCabinet c o).onQueue b f := by
  unfold State.setCabinet
  split <;> rfl

theorem permit_setCabinet (s : State) (c : Nat) (o : Option Cabinet) (id : Nat) : (s.setCabinet c o).permit id = s.permit id := by
  rw [State.permit, State.setCabinet_par, State.permit]

theorem bus_setCabinet (s : State) (c : Nat) (o : Option Cabinet) (b : Bus) : (s.setCabinet c o).bus b = s.bus b := by
  rw [State.bus, State.setCabinet_buses, State.bus]

theorem queueOf_setCabinet (s : State) (c : Nat) (o : Option Cabinet) (b : Bus) : (s.setCabinet c o).queueOf b = s.queueOf b := by
  rw [State.queueOf, State.setCabinet_par, State.queueOf]

/-! ### Passes that find nothing where every withdrawal of the bus is under way -/

/-- Every live permit of the bus is a withdrawal past its wait that does not yield. -/
def State.Settled (s : State) (b : Bus) : Prop :=
  ∀ q ∈ s.par.permits, q.bus = b → q.kind = .withdraw ∧ q.state ≠ .waiting ∧ q.policy ≠ some .yield

theorem State.Settled.passesRest {s : State} {b : Bus} (h : s.Settled b) (hn : (s.seqOf b).state = .normal) : s.PassesRest b := by
  have noTest : s.par.permits.filter (fun q => q.bus == b && q.isTest && q.state == .granted) = [] := by
    rw [List.filter_eq_nil_iff]
    intro q hq
    simp only [Bool.and_eq_true, beq_iff_eq]
    rintro ⟨⟨hb, ht⟩, -⟩
    rw [Permit.isTest, (h q hq hb).1] at ht
    exact Bool.noConfusion ht
  have noWait : s.waitQueue b = [] := by
    rw [State.waitQueue, List.filter_eq_nil_iff]
    intro q hq
    simp only [Bool.and_eq_true, beq_iff_eq]
    exact fun hb => (h q hq hb.1).2.1 hb.2
  have noYield : s.yieldCandidate b = none := by
    cases hy : s.yieldCandidate b with
    | none => rfl
    | some p =>
      obtain ⟨⟨hp, hc⟩, -⟩ := yieldCandidate_some hy
      obtain ⟨hb, -, hpol, -⟩ := canYield_iff.mp hc
      exact absurd hpol (h p hp hb).2.2
  exact ⟨yieldTests_noTest noTest, yieldWithdrawals_none noYield, grantAdoptions_none noWait, grantHeads_none noWait,
    returnCheck_other (by rw [hn]; nofun)⟩

/-- The trigger of such a bus is met by its recomputation. -/
theorem Brings.settled {s : State} {b : Bus} (h : s.AtRest) (hs : s.Settled b) (hn : (s.seqOf b).state = .normal) :
    Brings 11 [.meet] (s.trigger b) (s.recompute b) := by
  refine .recompute h (State.Settled.passesRest ?_ ?_)
  · intro q hq
    change q ∈ (s.recompute b).par.permits at hq
    rw [State.recompute_par] at hq
    exact hs q hq
  · change ((s.recompute b).seqOf b).state = .normal
    rw [seqOf_recompute, hn]

/-- A signal that raises the trigger of such a bus, to be met. -/
theorem Brings.triggered {t : Task} {s x : State} {b : Bus} (ha : s.agenda = []) (hd : doTask t s = (x.trigger b).push [.meet])
    (h : x.AtRest) (hs : x.Settled b) (hn : (x.seqOf b).state = .normal) : Brings 12 [t] s (x.recompute b) :=
  .task (u := x.trigger b) ha h.1 hd (.settled h hs hn)

/-! ### The outcome of a transfer command (R138 to R140) -/

/-- The command in hand has left it, and the spacing runs (R138). -/
def State.handFree (s : State) (b : Bus) : State :=
  s.onQueue b fun q => { q with inHand := none, spacingDue := (s.bus b).map fun u => s.now + u.defn.spacing }

section
variable {s : State} {b : Bus} {h : InHand} (hh : (s.queueOf b).inHand = some h) (o : TxOutcome)
include hh

/-- An outcome that is used for nothing, and that of a BYPASS_CANCEL. -/
theorem transferFinal_unused (hu : h.used = false ∨ h.entry.command = .cancel) :
    s.transferFinal b o = (s.handFree b).push [.meet] := by
  unfold State.transferFinal
  rw [hh]
  rcases hu with hu | hu
  · dsimp only
    rw [hu]
    rfl
  · dsimp only
    rw [hu]
    cases h.used <;> rfl

theorem transferFinal_withdraw {p : Permit} (hu : h.used = true) (hc : h.entry.command = .withdraw)
    (he : h.entry.permit = some p.id) (hp : s.permit p.id = some p) :
    s.transferFinal b o = ((s.handFree b).withdrawFinal h.entry p o).push [.meet] := by
  have hp : (s.handFree b).permit p.id = some p := hp
  unfold State.handFree at hp ⊢
  simp only [State.transferFinal, hh, hu, hc, he, Option.bind_some, hp, if_true]

theorem transferFinal_goOnline {p : Permit} (hu : h.used = true) (hc : h.entry.command = .goOnline)
    (he : h.entry.permit = some p.id) (hp : s.permit p.id = some p) :
    s.transferFinal b o = ((s.handFree b).goOnlineFinal h.entry p o).push [.meet] := by
  have hp : (s.handFree b).permit p.id = some p := hp
  unfold State.handFree at hp ⊢
  simp only [State.transferFinal, hh, hu, hc, he, Option.bind_some, hp, if_true]

end

/-! ### Overlays (R42) -/

/-- The tracked state of a cabinet under an overlay (R37). -/
def Overlay.tracked : Overlay → Tracked
  | .withdrawing => .withdrawing
  | .returning => .returning

/-- The record with an overlay set (R42). -/
def Track.under (t : Track) (o : Overlay) (due : Nat) : Track := { t with overlay := some o, overlayDeadline := some due }

theorem setOverlay_quiet {s : State} {c : Nat} {k : Cabinet} {o : Overlay} {w : StateWord} {u : BusUnit} (hk : s.cabinet c = some k)
    (ho : k.track.overlay = none) (hw : k.track.lastWord = some w) (he : overlayEnd o w.mode = none)
    (hu : s.bus k.defn.bus = some u) :
    s.setOverlay c o = s.completeTrack c k .overlaySet (.quiet (k.track.under o (s.now + u.defn.transferTimeout))) := by
  have stays : (k.track.under o (s.now + u.defn.transferTimeout)).examine =
      (k.track.under o (s.now + u.defn.transferTimeout), []) := by
    simp [Track.examine, Track.under, hw, he]
  unfold State.setOverlay
  rw [hk]
  dsimp only
  rw [hu, ho]
  exact congrArg (s.completeTrack c k .overlaySet)
    (congrArg (fun x : Track × List OverlayResult => ({ TrackWork.quiet x.1 with results := [] ++ x.2 } : TrackWork)) stays)

/-- A change to a state that neither ends nor begins a return is nothing to the permits, with the sequencer NORMAL. -/
theorem permitOnChange_idle {s : State} {new : Tracked} (hs : new ≠ .standby) (ho : new ≠ .online) (c : Nat) (old : Tracked)
    (hn : ∀ b, s.busOf c = some b → (s.seqOf b).state = .normal) : s.permitOnChange c old new = s := by
  have kept : s.unblock c new = s := by
    unfold State.unblock
    cases s.withdrawPermit c with
    | none => rfl
    | some p => simp [hs, ho]
  unfold State.permitOnChange
  cases hb : s.busOf c with
  | none => rfl
  | some b => simp [kept, State.seqOnChange, hn b hb]

theorem testOnChange_idle {s : State} (h : s.test.subject = none) (c : Nat) (b : Bus) (new : Tracked) :
    s.testOnChange c b new = s := by
  unfold State.testOnChange
  rw [h]

/-- An overlay set for a cabinet whose last word leaves it in force: told as a change, and the bus recomputed. -/
theorem Brings.overlay {s : State} {c : Nat} {k : Cabinet} {o : Overlay} {w : StateWord} {u : BusUnit} (h : s.AtRest)
    (hk : s.cabinet c = some k) (hr : k.track.unreachable = false) (ho : k.track.overlay = none)
    (hw : k.track.lastWord = some w) (he : overlayEnd o w.mode = none) (hbat : w.mode ≠ .onBattery)
    (hu : s.bus k.defn.bus = some u) (hn : (s.seqOf k.defn.bus).state = .normal) (ht : s.test.subject = none)
    (hs : s.Settled k.defn.bus) :
    Brings 17 [.setOverlay c o] s
      (((s.setCabinet c (some { k with track := k.track.under o (s.now + u.defn.transferTimeout) })).raise .cabinetState
        { bus := k.defn.bus.val + 1, cabinet := c } (w.mode.tracked.code * 256 + o.tracked.code) 4).recompute k.defn.bus) := by
  have old : k.track.state = w.mode.tracked := by simp [Track.state, hr, hw, ho]
  have new : (k.track.under o (s.now + u.defn.transferTimeout)).state = o.tracked := by
    cases o <;> simp [Track.state, Track.under, hr, hw, Overlay.tracked]
  have differ : w.mode.tracked ≠ o.tracked := by cases w.mode <;> cases o <;> nofun
  have away : o.tracked ≠ .online ∧ o.tracked ≠ .standby ∧ o.tracked ≠ .onBattery := by
    cases o <;> exact ⟨nofun, nofun, nofun⟩
  have was : w.mode.tracked ≠ .onBattery := by
    intro hm
    cases he : w.mode <;> rw [he] at hm hbat
    case onBattery => exact hbat rfl
    all_goals exact nomatch hm
  have done : doTask (.setOverlay c o) s = _ := setOverlay_quiet hk ho hw he hu
  rw [completeTrack_changed (by rw [old, new]; exact differ) (by rw [new]; exact away.1), old, new] at done
  simp only [Source.cause, Source.code, Nat.zero_mul, Nat.zero_add] at done
  generalize hx : s.setCabinet c (some { k with track := k.track.under o (s.now + u.defn.transferTimeout) }) = x at *
  have rest : x.AtRest := hx ▸ h.setCabinet _ _
  have settled : x.Settled k.defn.bus := by
    rw [← hx, State.Settled, State.setCabinet_par]
    exact hs
  have seq : (x.seqOf k.defn.bus).state = .normal := by rw [← hx, State.seqOf_setCabinet, hn]
  have test : x.test.subject = none := by rw [← hx, State.setCabinet_test, ht]
  have bus : x.busOf c = some k.defn.bus := by
    obtain ⟨h1, h24⟩ := State.cabinet_range hk
    rw [← hx, State.busOf, State.cabinet_setCabinet_same s h1 h24]
    rfl
  have meets := Brings.settled (s := x.raise .cabinetState { bus := k.defn.bus.val + 1, cabinet := c }
    (w.mode.tracked.code * 256 + o.tracked.code) 4) rest settled seq
  refine .task (u := (x.raise _ _ _ _).trigger k.defn.bus) h.1 rest.1 done (.handOn rest.1 ?_ ?_ ?_ meets)
  · exact (if_neg away.2.2).trans (if_neg was)
  · change State.testOnChange _ _ _ _ = _
    rw [testOnChange_idle]
    exact test
  · refine permitOnChange_idle away.2.1 away.1 c _ fun b hb => ?_
    have same : b = k.defn.bus := Option.some.inj (hb.symm.trans bus)
    rw [same]
    exact seq

/-! ### The end of a COMMAND (R22, R32) -/

/-- A reply of a COMMAND with a matching check and a well-formed state word (R19, R22, R24). -/
theorem commandResult_reply {r : LinkRequest} {word result check : Byte} {w : StateWord} (hw : StateWord.ofByte word = some w)
    (hc : check = crc8 [r.header, word, result]) :
    commandResult r (.reply { stateWord := word, result := result } check) =
      (if result = 0#8 then .ok else .refused (min result.toNat 4), { ReplyFields.none with word := some w }) := by
  refine (if_pos hc).trans ?_
  rw [hw]
  rfl

theorem handed_transfer {r : LinkRequest} {b : Bus} {command : CabinetCommand} (hs : r.requester = .transfer b)
    (hp : r.cls = .command command) (hc : r.credited = true) (x : TxOutcome × ReplyFields) :
    r.handed x = [.trackAttempt r.cabinet x.1 false x.2.word] ++ [.transferFinal b x.1] := by
  simp [LinkRequest.handed, LinkRequest.toTracker, LinkRequest.tracked, LinkRequest.isTestRead, LinkRequest.toRequester, hs, hp, hc]

/-- An answered COMMAND of a transfer that tells nothing new of its cabinet, ended on a link for which nothing waits. -/
theorem exec_transfer_answered {n : Nat} {s t : State} {f : InFlight} {command : CabinetCommand} {b : Bus} {k : Cabinet}
    {word result check : Byte} {w : StateWord} (hq : s.Quiet) (he : s.clc.Empty) (hl : s.clc.link = .own)
    (hf : s.clc.inFlight = some f) (hs : f.request.requester = .transfer b) (hp : f.request.cls = .command command)
    (hcred : f.request.credited = true) (hk : s.cabinet f.request.cabinet = some k) (hw : StateWord.ofByte word = some w)
    (hc : check = crc8 [f.request.header, word, result]) (knows : k.track.Knows (some w))
    (ends : Brings n [.transferFinal b (if result = 0#8 then .ok else .refused (min result.toNat 4))]
      (s.landed.setCabinet f.request.cabinet (some { k with track := k.track.heard s.now })) t) (hn : n ≤ 1000)
    (hclc : t.clc = s.landed.clc) :
    exec (.commandComplete (.reply { stateWord := word, result := result } check)) s = .next (t.idled false) := by
  have success : (if result = 0#8 then TxOutcome.ok else .refused (min result.toNat 4)).isFailure = false := by split <;> rfl
  have final : f.request.again (if result = 0#8 then TxOutcome.ok else .refused (min result.toNat 4)) = false := by
    split <;> simp [LinkRequest.again]
  have track := Brings.success (s := s.landed) hq.atRest hk knows success false
  rw [exec_commandComplete hq.1 hf (by rw [hp]; rfl), commandResult_reply hw hc]
  refine run_finish_empty (n := 2 + n) hq hf final ?_ (by unfold settleBound; omega) ?_ ?_
  · rw [handed_transfer hs hp hcred]
    exact track.append ends
  · rw [hclc]
    change s.clc.link ≠ .down
    rw [hl]
    nofun
  · rw [hclc]
    exact he

theorem handFree_setCabinet (s : State) (c : Nat) (o : Option Cabinet) (b : Bus) :
    (s.setCabinet c o).handFree b = (s.handFree b).setCabinet c o := by
  unfold State.setCabinet
  split <;> rfl

/-- The one element of a list that a search looks for. -/
theorem find?_of_unique {α : Type} {l : List α} {a : α} {p : α → Bool} (ha : a ∈ l) (hp : p a = true)
    (hu : ∀ x ∈ l, p x = true → x = a) : l.find? p = some a := by
  cases h : l.find? p with
  | none => exact absurd hp (List.find?_eq_none.mp h a ha)
  | some x => exact congrArg some (hu x (List.mem_of_find?_eq_some h) (List.find?_some h))

/-- The permit of an id that no other permit has. -/
theorem permit_of_unique {s : State} {p : Permit} (hp : p ∈ s.par.permits) (hu : ∀ q ∈ s.par.permits, q.id = p.id → q = p) :
    s.permit p.id = some p := find?_of_unique hp (beq_self_eq_true p.id) fun q hq h => hu q hq (by simpa using h)

end Sys2Proof.Machine

namespace Sys2Proof.Machine

/-! ### Transfer commands of the one withdrawal of a bus (R139, R140) -/

/-- The one permit of the bus, by its id. -/
theorem permit_of_bus {s : State} {b : Bus} {p : Permit} (hall : s.par.permits.filter (fun q => q.bus == b) = [p])
    (hone : ∀ q ∈ s.par.permits, q.id = p.id → q = p) : s.permit p.id = some p ∧ p.bus = b := by
  have hp : p ∈ s.par.permits ∧ (p.bus == b) = true := List.mem_filter.mp (hall ▸ List.mem_singleton_self p)
  exact ⟨permit_of_unique hp.1 hone, by simpa using hp.2⟩

theorem settled_one {s : State} {b : Bus} {p : Permit} (hall : s.par.permits.filter (fun q => q.bus == b) = [p])
    (hkind : p.kind = .withdraw) (hstate : p.state ≠ .waiting) (hpol : p.policy ≠ some .yield) : s.Settled b := by
  intro q hq hb
  rw [permit_only hall hq hb]
  exact ⟨hkind, hstate, hpol⟩

theorem subject_withdraw {p : Permit} {b : Bus} {c : Nat} (hb : p.bus = b) (hkind : p.kind = .withdraw) (hcab : p.cabinet = some c)
    (hhold : p.holder = 0) : p.subject = { bus := b.val + 1, cabinet := c, permit := p.id } := by
  simp [Permit.subject, Permit.slot, busCode, hb, hkind, hcab, hhold]

section
variable {s : State} {b : Bus} {h : InHand} {p : Permit} (hh : (s.queueOf b).inHand = some h) (hu : h.used = true)
  (he : h.entry.permit = some p.id) (hp : s.permit p.id = some p)
include hh hu he hp

/-- An accepted command has its overlay set: told as a change, and the bus recomputed (R139, R140). -/
theorem Brings.accepted {k : Cabinet} {o : Overlay} {w : StateWord} {u : BusUnit} (rest : s.AtRest)
    (hc : h.entry.command = match o with | .withdrawing => .withdraw | .returning => .goOnline)
    (hk : s.cabinet h.entry.cabinet = some k) (hb : k.defn.bus = b) (hr : k.track.unreachable = false)
    (ho : k.track.overlay = none) (hw : k.track.lastWord = some w) (hend : overlayEnd o w.mode = none)
    (hbat : w.mode ≠ .onBattery) (hub : s.bus b = some u) (hn : (s.seqOf b).state = .normal) (ht : s.test.subject = none)
    (settled : s.Settled b) :
    Brings 19 [.transferFinal b .ok] s
      ((((s.handFree b).setCabinet h.entry.cabinet
        (some { k with track := k.track.under o (s.now + u.defn.transferTimeout) })).raise .cabinetState
        { bus := b.val + 1, cabinet := h.entry.cabinet } (w.mode.tracked.code * 256 + o.tracked.code) 4).recompute b) := by
  subst hb
  have begins : doTask (.transferFinal k.defn.bus .ok) s = (s.handFree k.defn.bus).push [.setOverlay h.entry.cabinet o, .meet] := by
    change s.transferFinal _ _ = _
    cases o with
    | withdrawing => rw [transferFinal_withdraw hh .ok hu hc he hp, State.withdrawFinal, State.push_push]; rfl
    | returning => rw [transferFinal_goOnline hh .ok hu hc he hp, State.goOnlineFinal, State.push_push]; rfl
  have seq : ((s.handFree k.defn.bus).seqOf k.defn.bus).state = .normal := hn
  have overlay := Brings.overlay (s := s.handFree k.defn.bus) rest hk hr ho hw hend hbat hub seq ht settled
  have rest' := (State.AtRest.setCabinet (s := s.handFree k.defn.bus) rest h.entry.cabinet
    (some { k with track := k.track.under o (s.now + u.defn.transferTimeout) }))
  exact .task (u := s.handFree k.defn.bus) rest.1 rest.1 begins (overlay.append (.rest (State.AtRest.recompute (s := State.raise _ _ _ _ _) rest' _)))

/-- A refused WITHDRAW ends its permit (R139, R147). -/
theorem Brings.withdrawRefused {c : Nat} (rest : s.AtRest) (hc : h.entry.command = .withdraw) (hb : p.bus = b)
    (hall : s.par.permits.filter (fun q => q.bus == b) = [p]) (hkind : p.kind = .withdraw) (hcab : p.cabinet = some c)
    (hhold : p.holder = 0) (hn : (s.seqOf b).state = .normal) (code : Nat) :
    Brings 12 [.transferFinal b (.refused code)] s
      ((((((s.handFree b).onQueue b fun q =>
          { q with priority := q.priority.filter fun e => e.permit != some p.id,
                   ordinary := q.ordinary.filter fun e => e.permit != some p.id }).onPar fun x =>
        { x with permits := x.permits.filter fun q => q.id != p.id }).raise .permitEnded
          { bus := b.val + 1, cabinet := c, permit := p.id } (p.state.code * 256)
          (if p.state = .granted then 5 else 1)).recompute b)) := by
  subst hb
  have ended := endPermit_eq (s := s.handFree p.bus) hp hhold (if p.state = .granted then .refusedByCabinet else .returned)
  have emptied : ((s.handFree p.bus).queueOf p.bus).inHand = none := by rw [State.handFree, queueOf_onQueue]
  have queue := onQueue_congr (s := s.handFree p.bus) (b := p.bus)
    (f := fun q => { priority := q.priority.filter fun e => e.permit != some p.id,
                     ordinary := q.ordinary.filter fun e => e.permit != some p.id,
                     inHand := q.inHand.map fun h => if h.entry.permit = some p.id then { h with used := false } else h,
                     spacingDue := q.spacingDue })
    (g := fun q => { q with priority := q.priority.filter fun e => e.permit != some p.id,
                            ordinary := q.ordinary.filter fun e => e.permit != some p.id })
    (by simp [emptied])
  have result : (if p.state = .granted then PermitResult.refusedByCabinet else .returned).code =
      if p.state = .granted then 5 else 1 := by split <;> rfl
  rw [queue, result, subject_withdraw rfl hkind hcab hhold, hkind, show PermitKind.withdraw.code = 0 from rfl, Nat.zero_add] at ended
  refine .triggered rest.1 ?_ rest ?_ hn
  · change s.transferFinal _ _ = _
    rw [transferFinal_withdraw hh (.refused code) hu hc he hp]
    exact congrArg (State.push · [.meet]) ended
  · intro q hq hb
    have hq : q ∈ s.par.permits ∧ (q.id != p.id) = true := List.mem_filter.mp hq
    rw [permit_only hall hq.1 hb] at hq
    simp at hq

/-- A refused GO_ONLINE makes its permit RETURN_BLOCKED (R140). -/
theorem Brings.goOnlineRefused {c : Nat} (rest : s.AtRest) (hc : h.entry.command = .goOnline) (hb : p.bus = b)
    (settled : s.Settled b) (hkind : p.kind = .withdraw) (hcab : p.cabinet = some c)
    (hhold : p.holder = 0) (hn : (s.seqOf b).state = .normal) (code : Nat) :
    Brings 12 [.transferFinal b (.refused code)] s
      ((((s.handFree b).onPermit p.id fun q => { q with state := .returnBlocked }).raise .returnBlocked
        { bus := b.val + 1, cabinet := c, permit := p.id } code 1).recompute b) := by
  subst hb
  have blocked : (s.handFree p.bus).blockReturn p code 1 =
      (((s.handFree p.bus).onPermit p.id fun q => { q with state := .returnBlocked }).raise .returnBlocked
        { bus := p.bus.val + 1, cabinet := c, permit := p.id } code 1).trigger p.bus := by
    rw [State.blockReturn, subject_withdraw rfl hkind hcab hhold]
    rfl
  refine .triggered rest.1 ?_ rest ?_ hn
  · change s.transferFinal _ _ = _
    rw [transferFinal_goOnline hh (.refused code) hu hc he hp]
    exact congrArg (State.push · [.meet]) blocked
  · intro q hq hb
    obtain ⟨r, hr, rfl⟩ := List.mem_map.mp hq
    by_cases same : r.id = p.id
    · rw [if_pos same] at hb ⊢
      exact ⟨(settled r hr hb).1, nofun, (settled r hr hb).2.2⟩
    · rw [if_neg same] at hb ⊢
      exact settled r hr hb

end

/-! ### An attempt made again (R33, R35) -/

theorem mem_waiting {l : Clc} {q : LinkRequest} (h : q ∈ l.waiting) : (∃ b : Bus, l.slots[b] = some q) ∨ l.testSlot = some q := by
  rcases List.mem_append.mp h with h | h
  · obtain ⟨o, ho, rfl⟩ := List.mem_filterMap.mp h
    obtain ⟨i, hi, he⟩ := Vector.mem_iff_getElem.mp (Vector.mem_toList_iff.mp ho)
    exact .inl ⟨⟨i, hi⟩, he⟩
  · exact .inr (by simpa using h)

/-- A request that alone waits may be selected. -/
theorem eligible_alone {l : Clc} {r : LinkRequest} (h : ∀ q ∈ l.waiting, q = r) : l.eligible r = true := by
  have no : (l.waiting.any fun q => q.requester != r.requester && q.isCommand && q.cabinet == r.cabinet && q.begun) = false := by
    rw [List.any_eq_false]
    intro q hq
    rw [h q hq]
    simp
  rw [Clc.eligible, no]
  simp

theorem slots_set (a b : Bus) (r : LinkRequest) :
    ((Vector.replicate 4 none).set b (some r) : Vector (Option LinkRequest) 4)[a] = if a = b then some r else none := by
  simp [Vector.getElem_set, Fin.ext_iff, eq_comm]

theorem mem_busesAfter (b t : Bus) : b ∈ busesAfter t := by
  revert b t
  decide

/-- A request of a bus's slot is selected where nothing else waits. -/
theorem select_slot {l : Clc} {b : Bus} {r : LinkRequest} (hs : l.slots = (Vector.replicate 4 none).set b (some r))
    (ht : l.testSlot = none) :
    l.select = some (r, { l with slots := Vector.replicate 4 none, turnBefore := l.turn, turn := b }) := by
  have slot : ∀ a : Bus, l.slots[a] = if a = b then some r else none := fun a => by rw [hs, slots_set]
  have alone : ∀ q ∈ l.waiting, q = r := by
    intro q hq
    rcases mem_waiting hq with ⟨a, ha⟩ | hq
    · rw [slot] at ha
      split at ha
      · exact (Option.some.inj ha).symm
      · exact nomatch ha
    · rw [ht] at hq
      exact nomatch hq
  have found : ((busesAfter l.turn).find? fun a => (l.slots[a]).any l.eligible) = some b := by
    refine find?_of_unique (mem_busesAfter b l.turn) ?_ fun a _ h => ?_
    · simp [slot, eligible_alone alone]
    · by_contra other
      simp [slot, other] at h
  have emptied : l.slots.set b none = Vector.replicate 4 none := by
    rw [hs, Vector.set_set]
    ext i hi
    simp
  unfold Clc.select
  rw [found]
  dsimp only
  rw [slot, if_pos rfl, emptied]
  rfl

/-- The link freed with one transfer request waiting: its attempt begins (R35). -/
theorem linkIdle_slot {s : State} {b : Bus} {r : LinkRequest} (hl : s.clc.link ≠ .down)
    (hs : s.clc.slots = (Vector.replicate 4 none).set b (some r)) (ht : s.clc.testSlot = none) :
    s.linkIdle false = s.onClc fun l =>
      { l with link := .own, stretchWait := false, stuckTimer := false, slots := Vector.replicate 4 none, turnBefore := l.turn,
               turn := b, inFlight := some (s.flight r) } := by
  rw [linkIdle_eq hl]
  exact arbitrate_selects (s := s.idled false) rfl rfl (select_slot (l := (s.idled false).clc) hs ht)

/-- The address of an attempt for a defined cabinet (R34). -/
theorem attemptAddress_credited {s : State} {r : LinkRequest} {k : Cabinet} (hf : r.cls.isFreeze = false) (hc : r.credited = true)
    (hk : s.cabinet r.cabinet = some k) : s.attemptAddress r = k.defn.address := by
  have address : (if r.credited then ((s.cabinet r.cabinet).map fun k => k.defn.address).getD r.address else r.address) =
      k.defn.address := by rw [if_pos hc, hk]; rfl
  unfold State.attemptAddress
  cases h : r.cls with
  | freeze n => rw [h] at hf; exact nomatch hf
  | poll p => exact address
  | command c => exact address
  | testRead slot => exact address

/-- An attempt in flight is to be made again: its request is back at the head of its queue, and the link is freed (R33). -/
theorem run_finish_again {n : Nat} {s t : State} {f : InFlight} {x : TxOutcome × ReplyFields} (hq : s.Quiet)
    (hf : s.clc.inFlight = some f) (ho : f.request.again x.1 = true)
    (b : Brings n (f.request.toTracker x.1 x.2 ++ [.linkIdle false])
      (s.landed.onClc fun l => l.giveBack { f.request with attempts := f.request.attempts + 1 }) t) (hn : n ≤ settleBound) :
    run (fun s => s.finish x) s = .next t := by
  refine run_brings (u := s.landed.onClc _) hq.1 hq.1.2 ?_ b hn
  unfold State.finish State.endAttempt
  rw [hf]
  dsimp only
  rw [if_pos ho, State.push_push]
  rfl

/-- A COMMAND that is not answered is made again up to three times (R33). -/
theorem commandResult_again {r : LinkRequest} {command : CabinetCommand} {ending : AttemptEnd CommandReply}
    (hc : r.cls = .command command) (ha : r.attempts < 2)
    (he : ending = .notAcknowledged ∨ ending = .checkNotAcknowledged ∨ ending = .bitMismatch) :
    ∃ o, commandResult r ending = (o, .none) ∧ o.isFailure = true ∧ r.again o = true := by
  rcases he with rfl | rfl | rfl
  · exact ⟨.noAnswer, rfl, rfl, by simp [LinkRequest.again, LinkRequest.retried, hc]; omega⟩
  · exact ⟨.checkFail, rfl, rfl, by simp [LinkRequest.again, LinkRequest.retried, hc]; omega⟩
  · exact ⟨.checkFail, rfl, rfl, by simp [LinkRequest.again, LinkRequest.retried, hc]; omega⟩

/-- The hand of the bus freed, written out. -/
theorem handFree_stored (s : State) (b : Bus) (c : Nat) (o : Option Cabinet) :
    (s.handFree b).setCabinet c o = (s.setCabinet c o).onQueue b fun q =>
      { q with inHand := none, spacingDue := (s.bus b).map fun u => s.now + u.defn.spacing } := onQueue_setCabinet ..

theorem handFree_idled (s : State) (b : Bus) (low : Bool) : (s.handFree b).idled low = (s.idled low).handFree b := rfl

theorem onPermit_idled (s : State) (id : Nat) (f : Permit → Permit) (low : Bool) :
    (s.onPermit id f).idled low = (s.idled low).onPermit id f := rfl

/-- An unanswered first or second attempt of a transfer COMMAND is made again at once where nothing else waits. -/
theorem exec_transfer_again {s : State} {f : InFlight} {command : CabinetCommand} {b : Bus} {k : Cabinet}
    {ending : AttemptEnd CommandReply} (hq : s.Quiet) (he : s.clc.Empty) (hl : s.clc.link = .own) (hf : s.clc.inFlight = some f)
    (hs : f.request.requester = .transfer b) (hp : f.request.cls = .command command) (hcred : f.request.credited = true)
    (hk : s.cabinet f.request.cabinet = some k)
    (hend : ending = .notAcknowledged ∨ ending = .checkNotAcknowledged ∨ ending = .bitMismatch) (ha : f.request.attempts < 2)
    (hbelow : k.track.unreachable = true ∨ k.track.failed.failures < s.floor.unreachableThreshold) :
    exec (.commandComplete ending) s = .next
      ((s.onClc fun l =>
        { l with link := .own, stretchWait := false, stuckTimer := false, turn := b,
                 inFlight := some { request := { f.request with attempts := f.request.attempts + 1, begun := true,
                                                                address := k.defn.address },
                                    rate := s.floor.linkRate, stretchMs := s.floor.stretchMs } }).setCabinet f.request.cabinet
        (some { k with track := k.track.failed })) := by
  let again : LinkRequest := { f.request with attempts := f.request.attempts + 1 }
  let back := s.landed.onClc fun l => l.giveBack again
  obtain ⟨o, hresult, hfail, hagain⟩ := commandResult_again hp ha hend
  have task : f.request.toTracker o .none = [.trackAttempt f.request.cabinet o false none] := by
    simp [LinkRequest.toTracker, LinkRequest.tracked, LinkRequest.isTestRead, hp, hcred, ReplyFields.none]
  have given : back.clc = { s.clc with inFlight := none, slots := (Vector.replicate 4 none).set b (some again),
                                       turn := s.clc.turnBefore } := by
    change s.landed.clc.giveBack again = _
    unfold Clc.giveBack
    rw [show again.requester = .transfer b from hs, ← he.1]
    rfl
  have tracked := Brings.failure (s := back) hq.1.2 hk hbelow hfail false none
  have clc := (back.setCabinet_clc f.request.cabinet (some { k with track := k.track.failed })).trans given
  have agenda := (back.setCabinet_agenda f.request.cabinet (some { k with track := k.track.failed })).trans hq.1.2
  have floor := back.setCabinet_floor f.request.cabinet (some { k with track := k.track.failed })
  have cabinet : (back.setCabinet f.request.cabinet (some { k with track := k.track.failed })).cabinet f.request.cabinet =
      some { k with track := k.track.failed } := by
    obtain ⟨h1, h24⟩ := State.cabinet_range hk
    exact State.cabinet_setCabinet_same back h1 h24 _
  have freed := onClc_setCabinet back f.request.cabinet (some { k with track := k.track.failed })
  generalize back.setCabinet f.request.cabinet (some { k with track := k.track.failed }) = x at *
  have flight : x.flight again = { request := { again with address := k.defn.address, begun := true }, rate := s.floor.linkRate,
                                   stretchMs := s.floor.stretchMs } := by
    rw [State.flight, attemptAddress_credited (r := again) (show again.cls.isFreeze = false by rw [show again.cls = _ from hp]; rfl)
      hcred cabinet, floor]
    rfl
  have idle := linkIdle_slot (b := b) (r := again) (s := x) (by rw [clc]; change s.clc.link ≠ _; rw [hl]; nofun)
    (by rw [clc]) (by rw [clc]; exact he.2.1)
  have ends := tracked.append (.single (t := .linkIdle false) (u := State.onClc x _) agenda agenda idle)
  rw [← task] at ends
  rw [exec_commandComplete hq.1 hf (by rw [hp]; rfl), hresult, run_finish_again (x := (o, .none)) hq hf hagain ends (by decide), freed,
    flight]
  refine congrArg (fun y => Host.Outcome.next (State.setCabinet y _ _)) ?_
  refine (congrArg (fun l : Clc => s.onClc fun _ => { l with
    link := .own, inFlight := some _, slots := Vector.replicate 4 none, turn := b, turnBefore := l.turn, stuckTimer := false,
    stretchWait := false }) given).trans ?_
  rw [← he.1]
  rfl

/-- Settles O42: what the tracker makes of the reply, then the outcome of the command in hand, or a new attempt. -/
theorem commandEndsOrIsMadeAgain : Obligations.CommandEndsOrIsMadeAgain := by
  intro f command b c k s hq he hl hf hs hp hc hcred hk
  subst hc
  have stored := State.AtRest.setCabinet (s := s.landed) hq.atRest f.request.cabinet (some { k with track := k.track.heard s.now })
  have hand := queueOf_setCabinet s.landed f.request.cabinet (some { k with track := k.track.heard s.now }) b
  refine ⟨?_, ?_, ?_⟩
  · intro word check w used hcommand hw hcheck hlast hu hov hfirst hby hhand
    have knows : k.track.Knows (some w) := ⟨hu, fun v hv => by cases hv; exact ⟨hlast, hov, hfirst, hby⟩⟩
    have ends := Brings.task (t := .transferFinal b .ok) (u := State.handFree _ b) stored.1 stored.1
      (transferFinal_unused ((congrArg TransferQueue.inHand hand).trans hhand) .ok (.inr rfl)) (.rest stored)
    rw [exec_transfer_answered hq he hl hf hs hp hcred hk hw hcheck knows ends (by decide) (State.setCabinet_clc ..),
      handFree_setCabinet, setCabinet_idled, handFree_idled, handFree_stored]
    rfl
  · intro word result check w p u hw hcheck hlast hu hov hfirst hby hbus hub hseq htest hall hone hkind hcab hhold hstate hpol
      ended heard subject due
    have knows : k.track.Knows (some w) := ⟨hu, fun v hv => by cases hv; exact ⟨hlast, hov, hfirst, hby⟩⟩
    have heard_eq : ∀ track : Track, heard track =
        ((s.landed.idled false).handFree b).setCabinet f.request.cabinet (some { k with track := track.heard s.now }) := by
      intro track
      rw [handFree_stored]
      change State.onQueue _ b _ = State.onQueue _ b fun q => { q with inHand := none, spacingDue := (s.bus b).map _ }
      rw [hub]
      rfl
    obtain ⟨hpermit, hpb⟩ := permit_of_bus hall fun q hq h => hone q hq (.inr h)
    generalize hx : s.landed.setCabinet f.request.cabinet (some { k with track := k.track.heard s.now }) = x at stored hand
    have par : x.par = s.par := by rw [← hx, State.setCabinet_par]; rfl
    have permit : x.permit p.id = some p := by rw [State.permit, par]; exact hpermit
    have settled : x.Settled b := by
      rw [State.Settled, par]
      exact settled_one hall hkind hstate hpol
    have seq : (x.seqOf b).state = .normal := by rw [State.seqOf, par]; exact hseq
    have test : x.test.subject = none := by rw [← hx, State.setCabinet_test]; exact htest
    have bus : x.bus b = some u := by rw [← hx, bus_setCabinet]; exact hub
    have now : x.now = s.now := by rw [← hx, State.now, State.setCabinet_clock]; rfl
    have clc : x.clc = s.landed.clc := by rw [← hx, State.setCabinet_clc]
    have cabinet : x.cabinet f.request.cabinet = some { k with track := k.track.heard s.now } := by
      obtain ⟨h1, h24⟩ := State.cabinet_range hk
      rw [← hx, State.cabinet_setCabinet_same _ h1 h24]
    have freed : (x.handFree b).idled false = heard k.track := by
      rw [← hx, handFree_setCabinet, setCabinet_idled, handFree_idled, heard_eq]
    have answers : ∀ (n : Nat) (t : State), n ≤ 1000 → Brings n [.transferFinal b
        (if result = 0#8 then .ok else .refused (min result.toNat 4))] x t → t.clc = x.clc → ended = .next (t.idled false) :=
      fun n t hn ends ht => exec_transfer_answered hq he hl hf hs hp hcred hk hw hcheck knows (hx ▸ ends) hn (ht.trans clc)
    refine ⟨fun hcommand hhand => ⟨fun hr hm => ?_, fun hr => ?_⟩, fun hcommand hhand => ⟨fun hr hm => ?_, fun hr => ?_⟩⟩
    all_goals have hin := (congrArg TransferQueue.inHand hand).trans hhand
    · have takes := Brings.accepted (o := .withdrawing) hin rfl rfl permit stored rfl cabinet hbus hu hov hlast
        (by rw [hm]; rfl) (by rw [hm]; nofun) bus seq test settled
      rw [← show (if result = 0#8 then TxOutcome.ok else .refused (min result.toNat 4)) = .ok from if_pos hr] at takes
      rw [answers _ _ (by decide) takes ((State.recompute_clc ..).trans (State.setCabinet_clc ..)), recompute_idled, raise_idled,
        setCabinet_idled, freed, heard_eq, heard_eq, State.setCabinet_setCabinet, now, hm]
      rfl
    · have ends := Brings.withdrawRefused hin rfl rfl permit stored rfl hpb (by rw [par]; exact hall) hkind hcab hhold seq
        (min result.toNat 4)
      rw [← show (if result = 0#8 then TxOutcome.ok else .refused (min result.toNat 4)) = .refused _ from if_neg hr] at ends
      rw [answers _ _ (by decide) ends (State.recompute_clc ..), recompute_idled, raise_idled, ← freed]
      rfl
    · have takes := Brings.accepted (o := .returning) hin rfl rfl permit stored rfl cabinet hbus hu hov hlast
        (by rw [hm]; rfl) (by rw [hm]; nofun) bus seq test settled
      rw [← show (if result = 0#8 then TxOutcome.ok else .refused (min result.toNat 4)) = .ok from if_pos hr] at takes
      rw [answers _ _ (by decide) takes ((State.recompute_clc ..).trans (State.setCabinet_clc ..)), recompute_idled, raise_idled,
        setCabinet_idled, freed, heard_eq, heard_eq, State.setCabinet_setCabinet, now, hm]
      rfl
    · have blocks := Brings.goOnlineRefused hin rfl rfl permit stored rfl hpb settled hkind hcab hhold seq (min result.toNat 4)
      rw [← show (if result = 0#8 then TxOutcome.ok else .refused (min result.toNat 4)) = .refused _ from if_neg hr] at blocks
      rw [answers _ _ (by decide) blocks (State.recompute_clc ..), recompute_idled, raise_idled, ← freed]
      rfl
  · intro ending hend hattempts hbelow
    rw [exec_transfer_again hq he hl hf hs hp hcred hk hend hattempts hbelow]
    rfl

end Sys2Proof.Machine

namespace Sys2Proof.Machine

/-! ### Requests of the test engine (R34, R98) -/

/-- The request of the test slot is selected where nothing else waits (R35). -/
theorem select_test {l : Clc} {r : LinkRequest} (hs : l.slots = Vector.replicate 4 none) (ht : l.testSlot = some r) :
    l.select = some (r, { l with testSlot := none }) := by
  have slots : ∀ b : Bus, l.slots[b] = none := fun b => by simp [hs]
  have alone : ∀ q ∈ l.waiting, q = r := by
    intro q hq
    rcases mem_waiting hq with ⟨b, hb⟩ | hq
    · rw [slots] at hb
      exact nomatch hb
    · rw [ht] at hq
      exact (Option.some.inj hq).symm
  have free : l.testSlot.filter l.eligible = some r := by rw [ht, Option.filter_some, if_pos (eligible_alone alone)]
  simp [Clc.select, slots, free, busesAfter]

/-- The link freed with the test slot alone waiting: its attempt begins (R35). -/
theorem linkIdle_test {s : State} {r : LinkRequest} (hl : s.clc.link ≠ .down) (hs : s.clc.slots = Vector.replicate 4 none)
    (ht : s.clc.testSlot = some r) :
    s.linkIdle false = s.onClc fun l =>
      { l with link := .own, stretchWait := false, stuckTimer := false, testSlot := none, inFlight := some (s.flight r) } := by
  rw [linkIdle_eq hl]
  exact arbitrate_selects (s := s.idled false) rfl rfl (select_test (l := (s.idled false).clc) hs ht)

/-- The test engine has a request in its slot. -/
def State.testAwaits (s : State) (what : TestRequest) (r : LinkRequest) : State :=
  (s.onTest fun t => { t with inHand := some what }).onClc fun l => { l with testSlot := some r }

/-- A request of the test engine joins the test slot while the link is taken (R34). -/
theorem testHand_waits {s : State} {u : TestUnit} (hu : s.test.subject = some u) (hl : s.clc.link = .own) (what : TestRequest)
    (cls : TxClass) :
    s.testHand what cls = s.testAwaits what (s.newRequest .test cls u.cabinet) := by
  have up : (s.onTest fun t => { t with inHand := some what }).clc.link ≠ .down := by
    rw [State.onTest_clc, hl]
    nofun
  unfold State.testHand
  rw [hu]
  dsimp only
  rw [State.handIn, if_neg up]
  refine if_neg ?_
  rintro ⟨h, -⟩
  exact nomatch hl.symm.trans h

/-- The attempt of a COMMAND that the test engine hands in for a defined cabinet. -/
def State.testFlight (s : State) (k : Cabinet) (c : Nat) (command : CabinetCommand) : InFlight :=
  { request := { requester := .test, cls := .command command, cabinet := c, attempts := 0, begun := true,
                 address := k.defn.address, credited := true, counted := true },
    rate := s.floor.linkRate, stretchMs := s.floor.stretchMs }

theorem flight_newRequest {s t : State} {c : Nat} {j k : Cabinet} (hj : t.cabinet c = some j) (hk : s.cabinet c = some k)
    (command : CabinetCommand) :
    s.flight (t.newRequest .test (.command command) c) = s.testFlight k c command := by
  have credited : (t.newRequest .test (.command command) c).credited = true := by simp [State.newRequest, hj]
  rw [State.flight, attemptAddress_credited rfl credited hk]
  simp [State.testFlight, State.newRequest, hj]

/-- The attempt of such a COMMAND has begun. -/
def State.testSends (s : State) (what : TestRequest) (k : Cabinet) (c : Nat) (command : CabinetCommand) : State :=
  (s.onTest fun t => { t with inHand := some what }).onClc fun l =>
    { l with link := .own, stretchWait := false, stuckTimer := false, inFlight := some (s.testFlight k c command) }

/-- A COMMAND handed in behind the end of an attempt begins as the link is freed. -/
theorem testHand_begins {s : State} {u : TestUnit} {k : Cabinet} (hu : s.test.subject = some u) (hl : s.clc.link = .own)
    (he : s.clc.Empty) (hk : s.cabinet u.cabinet = some k) (what : TestRequest) (command : CabinetCommand) :
    (s.testHand what (.command command)).linkIdle false = s.testSends what k u.cabinet command := by
  have slot : ∀ l : Clc, l.testSlot = none → { l with testSlot := none } = l := fun l h => by cases l; cases h; rfl
  have idle := linkIdle_test (s := s.testAwaits what (s.newRequest .test (.command command) u.cabinet))
    (by change s.clc.link ≠ _; rw [hl]; nofun) he.1 rfl
  rw [testHand_waits hu hl, idle, State.testSends, ← flight_newRequest (s := s) hk hk command]
  exact congrArg (fun l : Clc => State.onClc (s.onTest fun t => { t with inHand := some what }) fun _ =>
    { l with link := .own, stretchWait := false, stuckTimer := false,
             inFlight := some (s.flight (s.newRequest .test (.command command) u.cabinet)) }) (slot s.clc he.2.1)

/-! ### The end of a request of the test engine (R32) -/

theorem handed_test {r : LinkRequest} (hs : r.requester = .test) (hf : r.cls.isFreeze = false) (hc : r.credited = true)
    (x : TxOutcome × ReplyFields) :
    r.handed x = [.trackAttempt r.cabinet x.1 r.isTestRead x.2.word] ++ [.testFinal x.1 x.2.reading] := by
  have tracked : r.tracked = true := by
    unfold LinkRequest.tracked
    cases h : r.cls with
    | freeze n => rw [h] at hf; exact nomatch hf
    | poll p => exact hc
    | command c => exact hc
    | testRead slot => exact hc
  simp [LinkRequest.handed, LinkRequest.toTracker, tracked, LinkRequest.toRequester, hs]

/-- The part with a request of cabinet `c` ended, its cabinet heard (R38). -/
def State.credited (s : State) (c : Nat) (k : Cabinet) : State :=
  s.landed.setCabinet c (some { k with track := k.track.heard s.now })

/-- An answered request of the test engine: the tracker credits its cabinet, the engine takes the outcome, the link is freed. -/
theorem run_finish_test {n : Nat} {s t : State} {f : InFlight} {k : Cabinet} {x : TxOutcome × ReplyFields} (hq : s.Quiet)
    (hf : s.clc.inFlight = some f) (hs : f.request.requester = .test) (hfz : f.request.cls.isFreeze = false)
    (hcred : f.request.credited = true) (hk : s.cabinet f.request.cabinet = some k) (knows : k.track.Knows x.2.word)
    (ho : x.1.isFailure = false)
    (ends : Brings n ([.testFinal x.1 x.2.reading] ++ [.linkIdle false]) (s.credited f.request.cabinet k) t) (hn : n ≤ 1000) :
    run (fun s => s.finish x) s = .next t := by
  have final : f.request.again x.1 = false := by
    obtain ⟨o, y⟩ := x
    cases o with
    | ok => simp [LinkRequest.again]
    | refused code => simp [LinkRequest.again]
    | noAnswer => exact nomatch ho
    | checkFail => exact nomatch ho
    | stretchTimeout => exact nomatch ho
    | linkDown => exact nomatch ho
  refine run_finish (n := 2 + n) hq hf final ?_ (by unfold settleBound; omega)
  rw [handed_test hs hfz hcred, List.append_assoc]
  exact (Brings.success (s := s.landed) hq.atRest hk knows ho _).append ends

/-- A reply of a TEST_READ with a matching check (R19, R23). -/
theorem testReadResult_reply {r : LinkRequest} {p : TestReadReply} {check : Byte}
    (hc : check = crc8 (r.header :: testReadReplyOctets p)) (hr : p.ready.toNat ≤ 1) :
    testReadResult r (.reply p check) = (.ok, { ReplyFields.none with reading := some p }) := if_pos ⟨hc, hr⟩

theorem exec_testRead_answered {n : Nat} {s t : State} {f : InFlight} {slot : Nat} {k : Cabinet} {p : TestReadReply} {check : Byte}
    (hq : s.Quiet) (hf : s.clc.inFlight = some f) (hs : f.request.requester = .test) (hcls : f.request.cls = .testRead slot)
    (hcred : f.request.credited = true) (hk : s.cabinet f.request.cabinet = some k) (hu : k.track.unreachable = false)
    (hc : check = crc8 (f.request.header :: testReadReplyOctets p)) (hr : p.ready.toNat ≤ 1)
    (ends : Brings n ([.testFinal .ok (some p)] ++ [.linkIdle false]) (s.credited f.request.cabinet k) t) (hn : n ≤ 1000) :
    exec (.testReadComplete (.reply p check)) s = .next t := by
  rw [exec_testReadComplete hq.1 hf (by rw [hcls]; rfl), testReadResult_reply hc hr]
  exact run_finish_test hq hf hs (by rw [hcls]; rfl) hcred hk ⟨hu, nofun⟩ rfl ends hn

theorem exec_testCommand_answered {n : Nat} {s t : State} {f : InFlight} {command : CabinetCommand} {k : Cabinet}
    {word result check : Byte} {w : StateWord} (hq : s.Quiet) (hf : s.clc.inFlight = some f) (hs : f.request.requester = .test)
    (hcls : f.request.cls = .command command) (hcred : f.request.credited = true) (hk : s.cabinet f.request.cabinet = some k)
    (hw : StateWord.ofByte word = some w) (hc : check = crc8 [f.request.header, word, result]) (knows : k.track.Knows (some w))
    (ends : Brings n ([.testFinal (if result = 0#8 then .ok else .refused (min result.toNat 4)) none] ++ [.linkIdle false])
      (s.credited f.request.cabinet k) t) (hn : n ≤ 1000) :
    exec (.commandComplete (.reply { stateWord := word, result := result } check)) s = .next t := by
  rw [exec_commandComplete hq.1 hf (by rw [hcls]; rfl), commandResult_reply hw hc]
  exact run_finish_test hq hf hs (by rw [hcls]; rfl) hcred hk knows (by dsimp only; split <;> rfl) ends hn

/-! ### An outcome reaches a running test (R103, R105) -/

theorem testFinal_running {s : State} {what : TestRequest} (hi : s.test.inHand = some what) (hr : s.test.phase.running = true)
    (o : TxOutcome) (reading : Option TestReadReply) :
    s.testFinal o reading = (s.testFinalRunning what o reading).push [.meet] := by
  unfold State.testFinal
  rw [hi]
  exact if_pos hr

/-- An outcome that leaves the link to nothing. -/
theorem Brings.testWaits {s t : State} {o : TxOutcome} {reading : Option TestReadReply} {what : TestRequest} (ha : s.agenda = [])
    (hi : s.test.inHand = some what) (hr : s.test.phase.running = true) (ht : s.testFinalRunning what o reading = t)
    (rest : t.AtRest) (hl : t.clc.link ≠ .down) (he : t.clc.Empty) :
    Brings 3 ([.testFinal o reading] ++ [.linkIdle false]) s (t.idled false) := by
  refine (Brings.task (u := t) ha rest.1 ?_ (.rest rest)).append (.linkIdle rest.1 hl he false)
  change s.testFinal o reading = _
  rw [testFinal_running hi hr, ht]

/-- An outcome on which the engine hands in its next COMMAND. -/
theorem Brings.testGoesOn {s t : State} {o : TxOutcome} {reading : Option TestReadReply} {what next : TestRequest} {u : TestUnit}
    {k : Cabinet} {command : CabinetCommand} (ha : s.agenda = []) (hi : s.test.inHand = some what)
    (hr : s.test.phase.running = true) (ht : s.testFinalRunning what o reading = t.testHand next (.command command))
    (rest : t.AtRest) (hu : t.test.subject = some u) (hl : t.clc.link = .own) (he : t.clc.Empty)
    (hk : t.cabinet u.cabinet = some k) :
    Brings 3 ([.testFinal o reading] ++ [.linkIdle false]) s (t.testSends next k u.cabinet command) := by
  have handed : (t.testHand next (.command command)).AtRest := by
    rw [testHand_waits hu hl]
    exact rest
  have begins := testHand_begins hu hl he hk next command
  have ended : (t.testSends next k u.cabinet command).agenda = [] := rest.1
  generalize t.testHand next (.command command) = x at *
  refine (Brings.task (u := x) ha handed.1 ?_ (.rest handed)).append (.single (t := .linkIdle false) handed.1 ended begins)
  change s.testFinal o reading = _
  rw [testFinal_running hi hr, ht]

/-! ### What a running test makes of an outcome (R105 to R107) -/

/-- The test engine has nothing in hand. -/
abbrev State.testFree (s : State) : State := s.onTest fun t => { t with inHand := none }

/-- A reading of a completed measurement is in: the charge joins the test's. -/
def State.testTook (s : State) (charge : Nat) : State :=
  s.testFree.onTest fun t => { t with charge := saturate (2 ^ 32 - 1) (t.charge + charge) }

section
variable {s : State} {d : StringRec} (hd : s.testString = some d)
include hd

theorem testFinalRunning_step :
    s.testFinalRunning .testStep .ok none = (s.testFree.onTest fun t => { t with notReady := 0 }).startTestTimer .step d.stepTime := by
  have hd : s.testFree.testString = some d := hd
  unfold State.testFinalRunning
  dsimp only
  rw [hd]
  exact if_pos rfl

theorem testFinalRunning_ready {p : TestReadReply} (hr : p.ready = 1#8) :
    s.testFinalRunning .testRead .ok (some p) = s.testFree.judgeReading d p := by
  have hd : s.testFree.testString = some d := hd
  unfold State.testFinalRunning
  dsimp only
  rw [hd]
  exact if_pos hr

theorem testFinalRunning_notReady {p : TestReadReply} (hr : p.ready ≠ 1#8) :
    s.testFinalRunning .testRead .ok (some p) = s.testFree.notReady := by
  have hd : s.testFree.testString = some d := hd
  unfold State.testFinalRunning
  dsimp only
  rw [hd]
  exact if_neg hr

end

section
variable {s : State} {d : StringRec} {p : TestReadReply}

theorem judgeReading_search_low (hp : s.test.phase = .search) (hlow : p.deltaShunt.toNat < d.minSignal) :
    s.testFree.judgeReading d p =
      if s.test.level < 15 then (s.testTook p.charge.toNat).beginStep (s.test.level + 1)
      else (s.testTook p.charge.toNat).endTest .lowSignal 0 0 false := (if_pos hp).trans (if_pos hlow)

theorem judgeReading_search (hp : s.test.phase = .search) (hlow : ¬ p.deltaShunt.toNat < d.minSignal) :
    s.testFree.judgeReading d p =
      ((s.testTook p.charge.toNat).onTest fun t => { t with locked := t.level, phase := .measure }).beginStep s.test.level :=
  (if_pos hp).trans (if_neg hlow)

theorem judgeReading_measure_low (hp : s.test.phase = .measure) (hlow : p.deltaShunt.toNat < d.minSignal) :
    s.testFree.judgeReading d p = (s.testTook p.charge.toNat).endTest .lowSignal 0 0 false := by
  have other : ¬ s.test.phase = .search := by rw [hp]; nofun
  exact (if_neg other).trans (if_pos hlow)

theorem judgeReading_measure (hp : s.test.phase = .measure) (hlow : ¬ p.deltaShunt.toNat < d.minSignal) :
    s.testFree.judgeReading d p =
      (s.testTook p.charge.toNat).takeStep d (stepImpedance p.deltaString.toNat d.shunt p.deltaShunt.toNat) := by
  have other : ¬ s.test.phase = .search := by rw [hp]; nofun
  exact (if_neg other).trans (if_neg hlow)

end

end Sys2Proof.Machine

namespace Sys2Proof.Machine

/-! ### What the ageing work leaves -/

section
variable {s t : State} (h : s.AgedFrom t)
include h

theorem State.AgedFrom.agenda : t.agenda = s.agenda := by obtain ⟨v, q, r, rfl⟩ := h; rfl
theorem State.AgedFrom.hold : t.hold = s.hold := by obtain ⟨v, q, r, rfl⟩ := h; rfl
theorem State.AgedFrom.clc : t.clc = s.clc := by obtain ⟨v, q, r, rfl⟩ := h; rfl
theorem State.AgedFrom.scs : t.scs = s.scs := by obtain ⟨v, q, r, rfl⟩ := h; rfl
theorem State.AgedFrom.test : t.test = s.test := by obtain ⟨v, q, r, rfl⟩ := h; rfl
theorem State.AgedFrom.par : t.par = s.par := by obtain ⟨v, q, r, rfl⟩ := h; rfl
theorem State.AgedFrom.vct : t.vct = s.vct := by obtain ⟨v, q, r, rfl⟩ := h; rfl
theorem State.AgedFrom.ims : t.ims = s.ims := by obtain ⟨v, q, r, rfl⟩ := h; rfl
theorem State.AgedFrom.clock : t.clock = s.clock := by obtain ⟨v, q, r, rfl⟩ := h; rfl
theorem State.AgedFrom.floor : t.floor = s.floor := by obtain ⟨v, q, r, rfl⟩ := h; rfl
theorem State.AgedFrom.buses : t.buses = s.buses := by obtain ⟨v, q, r, rfl⟩ := h; rfl

end

/-! ### Triggers of one bus -/

/-- No trigger but that of bus `b` is unmet. -/
def State.UnmetOnly (s : State) (b : Bus) : Prop :=
  s.triggers = Vector.replicate 4 false ∨ s.triggers = (Vector.replicate 4 false).set b true

/-- The same part with no trigger unmet. -/
def State.calm (s : State) : State := s.onTriggers fun _ => Vector.replicate 4 false

theorem calm_trigger {s : State} {b : Bus} (h : s.UnmetOnly b) : s.calm.trigger b = s.trigger b := by
  rcases h with h | h <;> simp [State.calm, State.trigger, State.onTriggers, h]

theorem unmetOnly_trigger {s : State} {b : Bus} (h : s.UnmetOnly b) : (s.trigger b).UnmetOnly b := by
  refine .inr ?_
  rcases h with h | h <;> simp [State.trigger, State.onTriggers, h]

theorem State.AtRest.unmetOnly {s : State} (h : s.AtRest) (b : Bus) : s.UnmetOnly b := .inl h.2.2

theorem calm_atRest {s : State} (ha : s.agenda = []) (hh : s.hold = 0) : s.calm.AtRest := ⟨ha, hh, rfl⟩

theorem calm_self {s : State} (h : s.AtRest) : s.calm = s := by
  unfold State.calm State.onTriggers
  rw [← h.2.2]

/-! ### Notices of the ageing work -/

theorem impedanceCheck_raised (d : StringRec) (a : AgeRec) : (impedanceCheck d a).raised.length ≤ 1 := by
  unfold impedanceCheck
  split_ifs <;> simp [AgeWork.quiet]

theorem raise_queue_length (s : State) (kind : NoticeKind) (subject : Subject) (value result : Nat) :
    (s.raise kind subject value result).notices.queue.length ≤ s.notices.queue.length + 1 := by
  change (Notices.join _ _).queue.length ≤ _
  unfold Notices.join
  split <;> simp [Notices.examine]

theorem raiseAge_queue_length (s : State) (b : Bus) (c n : Nat) (l : List AgeNotice) :
    (s.raiseAge b c n l).notices.queue.length ≤ s.notices.queue.length + l.length := by
  unfold State.raiseAge
  induction l generalizing s with
  | nil => exact le_rfl
  | cons x l ih =>
    have first := raise_queue_length s x.kind { bus := busCode b, cabinet := c, slot := n } x.value x.result
    have others := ih (s.raise x.kind { bus := busCode b, cabinet := c, slot := n } x.value x.result)
    simp only [List.foldl_cons, List.length_cons] at others ⊢
    omega

/-- A notice that finds room is queued. -/
theorem mem_raise {s : State} (h : s.notices.queue.length < 32) (kind : NoticeKind) (subject : Subject) (value result : Nat) :
    ({ kind := kind, stamp := s.clock.stamp, bus := subject.bus, cabinet := subject.cabinet, slot := subject.slot,
       permit := subject.permit, visit := subject.visit, value := value % 2 ^ 32, result := result } : Notice) ∈
      (s.raise kind subject value result).notices.queue := by
  change _ ∈ (Notices.join _ _).queue
  rw [Notices.join, if_pos (show s.notices.queue.length < Config.noticeCapacity from h)]
  simp [Notices.examine]

/-- Work on one string leaves the other cabinets. -/
theorem ageString_cabinet_other {s : State} {c n m : Nat} (hm : m ≠ c) (f : StringRec → AgeRec → AgeWork) :
    (s.ageString c n f).cabinet m = s.cabinet m := by
  have worked : ∀ k u, (s.workedString c k n u (f u.defn u.age)).cabinet m = s.cabinet m := by
    intro k u
    rw [State.cabinet, workedString_cabinets]
    exact State.cabinet_setCabinet_other s hm _
  cases hk : s.cabinet c with
  | none => rw [State.ageString, hk]
  | some k =>
    cases hu : k.slot n with
    | none =>
      rw [State.ageString, hk]
      dsimp only
      rw [hu]
    | some u => rcases ageString_eq hk hu f with e | e <;> rw [e] <;> exact worked k u

/-- What the ageing work on one string leaves: its record `a`, at most `m` notices, and its bus alone to be recomputed. -/
structure Ages (m : Nat) (s t : State) (c n : Nat) (k : Cabinet) (u : StringUnit) (a : AgeRec) : Prop where
  frame : s.AgedFrom t
  cabinet : t.cabinet c = some (k.setSlot n (some { u with age := a }))
  other : ∀ m, m ≠ c → t.cabinet m = s.cabinet m
  queue : t.notices.queue.length ≤ s.notices.queue.length + m
  unmet : t.UnmetOnly k.defn.bus

section
variable {s : State} {c n : Nat} {k : Cabinet} {u : StringUnit} (hu : k.slot n = some u) (hk : s.cabinet c = some k)

include hu hk in
theorem ages_ageString {m : Nat} {f : StringRec → AgeRec → AgeWork} (hm : s.UnmetOnly k.defn.bus) {w : AgeWork} (hw : f u.defn u.age = w)
    (hn : w.raised.length ≤ m) : Ages m s (s.ageString c n f) c n k u w.age := by
  subst hw
  refine ⟨agedFrom_ageString .., ageString_cabinet hk hu f, fun m hm => ageString_cabinet_other hm f, ?_, ?_⟩
  · have worked := raiseAge_queue_length (s.setCabinet c (some (k.setSlot n (some { u with age := (f u.defn u.age).age }))))
      k.defn.bus c n (f u.defn u.age).raised
    rw [State.setCabinet_notices] at worked
    rcases ageString_eq hk hu f with h | h <;> rw [h] <;> exact worked.trans (Nat.add_le_add_left hn _)
  · have worked : (s.workedString c k n u (f u.defn u.age)).UnmetOnly k.defn.bus := by
      obtain ⟨v, q, e⟩ := workedString_frame s c k n u (f u.defn u.age)
      rw [e]
      exact hm
    rcases ageString_eq hk hu f with e | e <;> rw [e]
    · exact worked
    · exact unmetOnly_trigger worked

include hu in
/-- More work on the same string. -/
theorem Ages.andThen {i j : Nat} {t : State} {a : AgeRec} {f : StringRec → AgeRec → AgeWork} (first : Ages i s t c n k u a)
    {w : AgeWork} (hw : f u.defn a = w) (hn : w.raised.length ≤ j) : Ages (i + j) s (t.ageString c n f) c n k u w.age := by
  obtain ⟨frame, cabinet, other, queue, unmet⟩ := first
  obtain ⟨h1, h4⟩ := Cabinet.slot_range hu
  have slot := Cabinet.slot_setSlot_same k h1 h4 (some { u with age := a })
  obtain ⟨frame', cabinet', other', queue', unmet'⟩ := ages_ageString slot cabinet (f := f) (by rwa [Cabinet.setSlot_defn]) hw hn
  refine ⟨frame.trans frame', ?_, fun m hm => (other' m hm).trans (other m hm), by omega, by rwa [Cabinet.setSlot_defn] at unmet'⟩
  rw [cabinet', Cabinet.setSlot_setSlot]

end

/-! ### A test ends (R110) -/

/-- The test engine's part of a test's end, as far as the handing of TEST_END. -/
def State.testEnded (s : State) (cause : TestCause) (outcome result : Nat) (needed : Bool) : State :=
  let s := s.onTest fun t => { t with timer := .none, inHand := if s.clc.testSlot.isSome then none else t.inHand }
  let s := s.onClc fun l => { l with testSlot := none }
  ((s.testAgeing cause result).raiseTestEnd cause outcome result).onTest fun t =>
    { t with phase := .ending, endNeeded := needed, endHanded := false,
             results := if cause = .lowSignal then [] else t.results,
             last := { outcome := cause.outcome, cause := cause, result := result, charge := t.charge, confirmed := false } }

theorem agedFrom_testAgeing (s : State) (cause : TestCause) (result : Nat) : s.AgedFrom (s.testAgeing cause result) := by
  have taken : ∀ u : TestUnit, s.AgedFrom (if cause.outcome = .done then
      s.ageString u.cabinet u.slot (takeTestResult s.clock.stamp result) else s) := by
    intro u
    split
    · exact agedFrom_ageString s ..
    · exact .refl s
  unfold State.testAgeing
  split
  · exact .refl s
  · next u _ =>
    have first := taken u
    dsimp only
    generalize (if cause.outcome = .done then s.ageString u.cabinet u.slot (takeTestResult s.clock.stamp result) else s) = x at *
    split
    · exact first.trans (agedFrom_ageString ..)
    · exact first

/-- The record of a string whose test ends, before the recomputation: a completed test's result taken, the string RECHARGING. -/
def AgeRec.testOver (a : AgeRec) (d : StringRec) (c : Clock) (done : Bool) (result : Nat) : AgeRec :=
  (if done then (takeTestResult c.stamp result d a).age else a).enterRecharging d c (!done)

theorem stringEvent_testEnd {a : AgeRec} (h : a.state = .testing) (c : Clock) (done : Bool) (d : StringRec) :
    stringEvent c (.testEnd done) d a = healthRecompute d (a.enterRecharging d c (!done)) := by
  unfold stringEvent
  rw [h]

theorem healthRecompute_age (d : StringRec) (a : AgeRec) :
    (healthRecompute d a).age = { a.derive d with impFlagged := decide ((a.derive d).impHealth ≤ d.alarmLevel) } :=
  impedanceCheck_age d (a.derive d)

theorem healthRecompute_raised (d : StringRec) (a : AgeRec) : (healthRecompute d a).raised.length ≤ 1 :=
  impedanceCheck_raised d (a.derive d)

/-- A test's end takes its result where it is DONE, and its string is RECHARGING. -/
theorem ages_testAgeing {s : State} {u : TestUnit} {k : Cabinet} {x : StringUnit} (hu : s.test.subject = some u)
    (hb : s.test.beginHanded = true) (hk : s.cabinet u.cabinet = some k) (hx : k.slot u.slot = some x)
    (hst : x.age.state = .testing) (hm : s.UnmetOnly k.defn.bus) (cause : TestCause) (result : Nat) :
    Ages 2 s (s.testAgeing cause result) u.cabinet u.slot k x
      (healthRecompute x.defn (x.age.testOver x.defn s.clock (cause.outcome == .done) result)).age := by
  unfold State.testAgeing
  rw [hu]
  dsimp only
  by_cases done : cause.outcome = .done
  · have first := ages_ageString hx hk hm (f := takeTestResult s.clock.stamp result) rfl (healthRecompute_raised ..)
    obtain ⟨v, q, r, e⟩ := first.frame
    have clock : (s.ageString u.cabinet u.slot (takeTestResult s.clock.stamp result)).clock = s.clock := by rw [e]
    have test : (s.ageString u.cabinet u.slot (takeTestResult s.clock.stamp result)).test = s.test := by rw [e]
    have testing : (takeTestResult s.clock.stamp result x.defn x.age).age.state = .testing := by
      rw [takeTestResult, healthRecompute_age]
      exact hst
    rw [if_pos done, if_pos (by rw [test, hb]), clock, AgeRec.testOver, done]
    exact first.andThen hx (stringEvent_testEnd testing s.clock true x.defn) (healthRecompute_raised ..)
  · have failed : (cause.outcome == .done) = false := by simpa using done
    rw [if_neg done, if_pos hb, AgeRec.testOver, failed]
    exact ages_ageString hx hk hm (stringEvent_testEnd hst s.clock false x.defn) ((healthRecompute_raised ..).trans (by decide))

theorem Brings.outer {n : Nat} {l : List Task} {s t : State} (ha : s.agenda = []) (b : Brings n l s t) (hn : n ≤ settleBound) :
    t.outer = s.outer := by
  rw [← b.settle ha hn, outer_settle, outer_push]

/-! ### The end of the only permit (R147) -/

/-- The only live permit has ended. -/
def State.lastPermitEnded (s : State) (p : Permit) (r : PermitResult) : State :=
  (s.onPar fun x => { x with permits := [] }).raise .permitEnded p.subject (p.kind.code + p.state.code * 256) r.code

/-- No transfer command of the permit waits or is in hand. -/
def State.Unqueued (s : State) (p : Permit) : Prop :=
  (∀ e ∈ (s.queueOf p.bus).waiting, e.permit ≠ some p.id) ∧ ∀ h, (s.queueOf p.bus).inHand = some h → h.entry.permit ≠ some p.id

theorem endPermit_last {s : State} {p : Permit} (hp : s.par.permits = [p]) (hh : p.holder = 0) (hq : s.Unqueued p) (r : PermitResult) :
    s.endPermit p.id r = (s.lastPermitEnded p r).trigger p.bus := by
  obtain ⟨hw, hi⟩ := hq
  have permit : s.permit p.id = some p := by simp [State.permit, hp]
  have waiting := TransferQueue.remove_none (q := s.queueOf p.bus) (gone := fun e => e.permit == some p.id)
    fun e he => by simpa using hw e he
  have inHand : ((s.queueOf p.bus).inHand.map fun h => if h.entry.permit = some p.id then { h with used := false } else h) =
      (s.queueOf p.bus).inHand := by
    cases h : (s.queueOf p.bus).inHand with
    | none => rfl
    | some x => rw [Option.map_some, if_neg (hi x h)]
  have kept : s.onQueue p.bus (fun q =>
      { priority := q.priority.filter fun e => e.permit != some p.id, ordinary := q.ordinary.filter fun e => e.permit != some p.id,
        inHand := q.inHand.map fun h => if h.entry.permit = some p.id then { h with used := false } else h,
        spacingDue := q.spacingDue }) = s := by
    refine onQueue_self ?_
    rw [inHand]
    exact waiting
  have gone : (s.par.permits.filter fun q => q.id != p.id) = [] := by simp [hp]
  rw [endPermit_eq permit hh, kept]
  simp only [State.lastPermitEnded, State.onPar, gone]

theorem Brings.permitEnd {s : State} {p : Permit} (ha : s.agenda = []) (hh : s.hold = 0) (hm : s.UnmetOnly p.bus)
    (hp : s.par.permits = [p]) (hold : p.holder = 0) (hq : s.Unqueued p) (hn : (s.seqOf p.bus).state = .normal) (r : PermitResult) :
    Brings 12 [.permitEnd p.id r] s ((s.lastPermitEnded p r).calm.recompute p.bus) := by
  have ended := endPermit_last hp hold hq r
  have unmet : (s.lastPermitEnded p r).UnmetOnly p.bus := hm
  have met := Brings.recompute (s := (s.lastPermitEnded p r).calm) (b := p.bus) (calm_atRest ha hh) (passesRest_recomputed rfl hn)
  rw [calm_trigger unmet] at met
  refine .task (u := (s.lastPermitEnded p r).trigger p.bus) ha ha ?_ met
  change (s.endPermit p.id r).push [.meet] = _
  rw [ended]

/-! ### A running test ends, and TEST_END is sent (R110) -/

/-- The context of a test that has ended (R110 steps 1 to 5). -/
def TestContext.over (t : TestContext) (cause : TestCause) (result : Nat) (needed : Bool) : TestContext :=
  { t with
    phase := .ending, timer := .none, inHand := none, endNeeded := needed, endHanded := false,
    results := if cause = .lowSignal then [] else t.results,
    last := { outcome := cause.outcome, cause := cause, result := result, charge := t.charge, confirmed := false } }

theorem raiseTestEnd_onNotices (s : State) (cause : TestCause) (outcome result : Nat) :
    ∃ g, s.raiseTestEnd cause outcome result = s.onNotices g := by
  unfold State.raiseTestEnd
  split
  · exact ⟨id, rfl⟩
  · dsimp only
    split
    · exact ⟨_, rfl⟩
    · exact ⟨_, rfl⟩
    · exact ⟨_, rfl⟩
    · exact ⟨id, rfl⟩

/-- The part with no test request waiting and no test timer running. -/
def State.testStill (s : State) : State :=
  (s.onTest fun t => { t with timer := .none, inHand := if s.clc.testSlot.isSome then none else t.inHand }).onClc fun l =>
    { l with testSlot := none }

/-- What the end of a test leaves of the rest of the part. -/
theorem testEnded_frame {s : State} (h : s.test.inHand = none ∨ s.clc.testSlot.isSome) (cause : TestCause) (outcome result : Nat)
    (needed : Bool) :
    ((s.onTest fun t => t.over cause result needed).onClc fun l => { l with testSlot := none }).AgedFrom
      (s.testEnded cause outcome result needed) := by
  have free : (if s.clc.testSlot.isSome = true then none else s.test.inHand) = none := by
    split
    · rfl
    · next hs => exact h.resolve_right hs
  obtain ⟨v, q, r, aged⟩ := agedFrom_testAgeing s.testStill cause result
  obtain ⟨g, raised⟩ := raiseTestEnd_onNotices (s.testStill.testAgeing cause result) cause outcome result
  have ended : s.testEnded cause outcome result needed =
      ((s.testStill.testAgeing cause result).raiseTestEnd cause outcome result).onTest fun t =>
        { t with phase := .ending, endNeeded := needed, endHanded := false,
                 results := if cause = .lowSignal then [] else t.results,
                 last := { outcome := cause.outcome, cause := cause, result := result, charge := t.charge, confirmed := false } } := rfl
  rw [ended, raised, aged]
  refine ⟨v, g q, r, ?_⟩
  simp only [State.onTest, State.onNotices, State.testStill, State.onClc, TestContext.over, free]

theorem endTest_eq {s : State} {id : Nat} (hp : s.test.permit = some id) (cause : TestCause) (outcome result : Nat) (refused : Bool) :
    s.endTest cause outcome result refused =
      (s.testEnded cause outcome result (s.endNeeded && !refused)).push [.permitEnd id cause.permitResult, .testEnding, .meet] := by
  obtain ⟨v, q, r, aged⟩ := agedFrom_testAgeing s.testStill cause result
  obtain ⟨g, raised⟩ := raiseTestEnd_onNotices (s.testStill.testAgeing cause result) cause outcome result
  have permit : ((s.testStill.testAgeing cause result).raiseTestEnd cause outcome result).test.permit = some id := by
    rw [raised, aged]
    exact hp
  have ends : s.endTest cause outcome result refused =
      (s.testEnded cause outcome result (s.endNeeded && !refused)).push
        ((((s.testStill.testAgeing cause result).raiseTestEnd cause outcome result).test.permit.toList.map fun id =>
          Task.permitEnd id cause.permitResult) ++ [.testEnding, .meet]) := rfl
  rw [ends, permit]
  rfl

/-- TEST_END is handed in behind the end of an attempt where the ending needs it (R110 step 5). -/
theorem testEnding_hands {s : State} (hp : s.test.phase = .ending) (hi : s.test.inHand = none) (hn : s.test.endNeeded = true)
    (hh : s.test.endHanded = false) :
    s.testEnding = (s.onTest fun t => { t with endHanded := true }).testHand .testEnd (.command .testEnd) :=
  (if_pos ⟨hp, hi⟩).trans (if_pos ⟨hn, hh⟩)

/-- A running test ends on an outcome, with nothing waiting and its permit the only one: the permit ends, TEST_END is sent. -/
theorem Brings.testEnds {s y : State} {o : TxOutcome} {reading : Option TestReadReply} {what : TestRequest} {cause : TestCause}
    {result : Nat} {p : Permit} {u : TestUnit} {k : Cabinet} (ha : s.agenda = []) (hi : s.test.inHand = some what)
    (hr : s.test.phase.running = true) (hy : s.testFinalRunning what o reading = y.endTest cause 0 result false)
    (rest : y.AtRest) (hfree : y.test.inHand = none) (hneed : y.endNeeded = true) (hu : y.test.subject = some u)
    (hl : y.clc.link = .own) (he : y.clc.Empty) (hp : y.par.permits = [p]) (hpid : y.test.permit = some p.id) (hold : p.holder = 0)
    (hq : y.Unqueued p) (hn : (y.seqOf p.bus).state = .normal)
    (hm : (y.testEnded cause 0 result true).UnmetOnly p.bus)
    (hk : (y.testEnded cause 0 result true).cabinet u.cabinet = some k) :
    Brings 30 ([.testFinal o reading] ++ [.linkIdle false]) s
      (((((y.testEnded cause 0 result true).lastPermitEnded p cause.permitResult).calm.recompute p.bus).onTest fun t =>
        { t with endHanded := true }).testSends .testEnd k u.cabinet .testEnd) := by
  have frame := testEnded_frame (.inl hfree) cause 0 result true
  have ends := endTest_eq hpid cause 0 result false
  rw [hneed] at ends
  change y.endTest cause 0 result false = (y.testEnded cause 0 result true).push _ at ends
  generalize y.testEnded cause 0 result true = e at *
  have agenda : e.agenda = [] := frame.agenda.trans rest.1
  have unheld : e.hold = 0 := frame.hold.trans rest.2.1
  have par : e.par = y.par := frame.par
  have test : e.test = y.test.over cause result true := frame.test
  have clc : e.clc = { y.clc with testSlot := none } := frame.clc
  have unqueued : e.Unqueued p := by rwa [State.Unqueued, State.queueOf, par]
  have seq : (e.seqOf p.bus).state = .normal := by rwa [State.seqOf, par]
  have permit := Brings.permitEnd agenda unheld hm (by rw [par, hp]) hold unqueued seq cause.permitResult
  have rested : ((e.lastPermitEnded p cause.permitResult).calm.recompute p.bus).AtRest := (calm_atRest (s := e.lastPermitEnded p _) agenda unheld).recompute _
  have test' : ((e.lastPermitEnded p cause.permitResult).calm.recompute p.bus).test = y.test.over cause result true :=
    (State.recompute_test ..).trans test
  have clc' : ((e.lastPermitEnded p cause.permitResult).calm.recompute p.bus).clc = { y.clc with testSlot := none } :=
    (State.recompute_clc ..).trans clc
  have cabinet : ((e.lastPermitEnded p cause.permitResult).calm.recompute p.bus).cabinet u.cabinet = some k := by
    rw [State.cabinet, State.recompute_cabinets]
    exact hk
  generalize (e.lastPermitEnded p cause.permitResult).calm.recompute p.bus = m at *
  have hands : m.testEnding = _ := testEnding_hands (by rw [test']; rfl) (by rw [test']; rfl) (by rw [test']; rfl) (by rw [test']; rfl)
  have own : m.clc.link = .own := by rw [clc', ← hl]
  have empty : m.clc.Empty := by rw [clc']; exact ⟨he.1, rfl, he.2.2⟩
  have subject : m.test.subject = some u := by rw [test', ← hu]; rfl
  have begins := testHand_begins (s := m.onTest fun t => { t with endHanded := true }) subject own empty cabinet .testEnd .testEnd
  have waits := testHand_waits (s := m.onTest fun t => { t with endHanded := true }) subject own .testEnd (.command .testEnd)
  have handed : ((m.onTest fun t => { t with endHanded := true }).testHand .testEnd (.command .testEnd)).AtRest := by
    rw [waits]
    exact rested
  have ended : ((m.onTest fun t => { t with endHanded := true }).testSends .testEnd k u.cabinet .testEnd).agenda = [] := rested.1
  generalize (m.onTest fun t => { t with endHanded := true }).testHand .testEnd (.command .testEnd) = x at *
  have tail := ((permit.append (.single (t := .testEnding) rested.1 handed.1 hands)).append (.rest handed)).append (.rest handed)
  have taken : doTask (.testFinal o reading) s = e.push ([.permitEnd p.id cause.permitResult, .testEnding, .meet] ++ [.meet]) := by
    change s.testFinal o reading = _
    rw [testFinal_running hi hr, hy, ends, State.push_push]
  exact ((Brings.task ha agenda taken tail).append (.single (t := .linkIdle false) handed.1 ended begins)).mono (by decide)

/-! ### What a test's end leaves (R80, R110, R112) -/

/-- The part as a running test has ended and TEST_END is on the link. -/
def State.testOver (s : State) (cause : TestCause) (result : Nat) (p : Permit) (k : Cabinet) (c : Nat) : State :=
  ((((s.testEnded cause 0 result true).lastPermitEnded p cause.permitResult).calm.recompute p.bus).onTest fun t =>
    { t with endHanded := true }).testSends .testEnd k c .testEnd

/-- The notice of a test that has ended, DONE or FAILED (R112). -/
def TestContext.tells (t : TestContext) (u : TestUnit) (cause : TestCause) (result : Nat) (n : Notice) : Prop :=
  n.cabinet = u.cabinet ∧ n.slot = u.slot ∧ n.permit = t.permit.getD 0 ∧
    (cause.outcome = .done → n.kind = .testDone ∧ n.value = result % 2 ^ 32 ∧ n.result = t.locked) ∧
    (cause.outcome = .failed → n.kind = .testFailed ∧ n.value = t.detail 0 % 2 ^ 32 ∧ n.result = cause.code)

theorem raiseTestEnd_tells {s : State} {u : TestUnit} (hu : s.test.subject = some u) (h : s.notices.queue.length < 32)
    {cause : TestCause} (hc : cause.outcome = .done ∨ cause.outcome = .failed) (result : Nat) :
    ∃ n ∈ (s.raiseTestEnd cause 0 result).notices.queue, s.test.tells u cause result n := by
  unfold State.raiseTestEnd
  rw [hu]
  dsimp only
  rcases hc with hc | hc <;> rw [hc]
  · exact ⟨_, mem_raise h .testDone _ result s.test.locked,
      rfl, rfl, rfl, fun _ => ⟨rfl, rfl, rfl⟩, fun e => nomatch hc.symm.trans e⟩
  · exact ⟨_, mem_raise h .testFailed _ (s.test.detail 0) cause.code,
      rfl, rfl, rfl, fun e => (nomatch hc.symm.trans e), fun _ => ⟨rfl, rfl, rfl⟩⟩

/-- The string record that a test's end leaves (R80, R85). -/
def StringUnit.testOver (x : StringUnit) (c : Clock) (cause : TestCause) (result : Nat) : StringUnit :=
  { x with age := (healthRecompute x.defn (x.age.testOver x.defn c (cause.outcome == .done) result)).age }

section
variable {s : State} {u : TestUnit} {k : Cabinet} {x : StringUnit} (hu : s.test.subject = some u)
  (hb : s.test.beginHanded = true) (hk : s.cabinet u.cabinet = some k) (hx : k.slot u.slot = some x)
  (hst : x.age.state = .testing) (cause : TestCause) (result : Nat)
include hu hb hk hx hst

theorem testEnded_cabinet (hm : s.UnmetOnly k.defn.bus) :
    (s.testEnded cause 0 result true).cabinet u.cabinet = some (k.setSlot u.slot (some (x.testOver s.clock cause result))) ∧
      (s.testEnded cause 0 result true).UnmetOnly k.defn.bus := by
  have ages := ages_testAgeing (s := s.testStill) hu hb hk hx hst hm cause result
  obtain ⟨g, raised⟩ := raiseTestEnd_onNotices (s.testStill.testAgeing cause result) cause 0 result
  have cabinets : (s.testEnded cause 0 result true).cabinets =
      ((s.testStill.testAgeing cause result).raiseTestEnd cause 0 result).cabinets := rfl
  have triggers : (s.testEnded cause 0 result true).triggers =
      ((s.testStill.testAgeing cause result).raiseTestEnd cause 0 result).triggers := rfl
  rw [raised] at cabinets triggers
  refine ⟨?_, ?_⟩
  · rw [State.cabinet, cabinets]
    exact ages.cabinet
  · rw [State.UnmetOnly, triggers]
    exact ages.unmet

theorem testEnded_notice (hm : s.UnmetOnly k.defn.bus) (hq : s.notices.queue.length ≤ 28)
    (hc : cause.outcome = .done ∨ cause.outcome = .failed) :
    ∃ n ∈ (s.testEnded cause 0 result true).notices.queue, s.test.tells u cause result n := by
  have ages := ages_testAgeing (s := s.testStill) hu hb hk hx hst hm cause result
  have test := ages.frame.test
  obtain ⟨n, hn, tells⟩ := raiseTestEnd_tells (s := s.testStill.testAgeing cause result) (by rw [test]; exact hu)
    (Nat.lt_of_le_of_lt ages.queue (by change s.notices.queue.length + 2 < 32; omega)) hc result
  refine ⟨n, hn, ?_⟩
  rw [test] at tells
  exact tells

end

/-- What a running test's end leaves, with TEST_END on the link. -/
structure TestOver (s t : State) (cause : TestCause) (result : Nat) (u : TestUnit) (k : Cabinet) (x : StringUnit) : Prop where
  scs : t.scs = s.scs
  vct : t.vct = s.vct
  ims : t.ims = s.ims
  clock : t.clock = s.clock
  par : t.par = { s.par with permits := [] }
  test : t.test = { s.test.over cause result true with inHand := some .testEnd, endHanded := true }
  clc : t.clc = { s.clc with link := .own, stretchWait := false, stuckTimer := false,
                             inFlight := some (s.testFlight k u.cabinet .testEnd) }
  string : t.string u.cabinet u.slot = some (x.testOver s.clock cause result)
  notice : ∃ n ∈ t.notices.queue, s.test.tells u cause result n

/-- A running test ends on an outcome, its permit the only one. -/
theorem Brings.testOver {s y : State} {o : TxOutcome} {reading : Option TestReadReply} {what : TestRequest} {cause : TestCause}
    {result : Nat} {p : Permit} {u : TestUnit} {k : Cabinet} {x : StringUnit} (ha : s.agenda = []) (hi : s.test.inHand = some what)
    (hr : s.test.phase.running = true) (hy : s.testFinalRunning what o reading = y.endTest cause 0 result false)
    (rest : y.AtRest) (hfree : y.test.inHand = none) (hneed : y.endNeeded = true) (hu : y.test.subject = some u)
    (hl : y.clc.link = .own) (he : y.clc.Empty) (hp : y.par.permits = [p]) (hpid : y.test.permit = some p.id) (hold : p.holder = 0)
    (hun : y.Unqueued p) (hn : (y.seqOf p.bus).state = .normal) (hbus : k.defn.bus = p.bus) (hb : y.test.beginHanded = true)
    (hk : y.cabinet u.cabinet = some k) (hx : k.slot u.slot = some x) (hst : x.age.state = .testing)
    (hq : y.notices.queue.length ≤ 28) (hc : cause.outcome = .done ∨ cause.outcome = .failed) :
    ∃ t, Brings 30 ([.testFinal o reading] ++ [.linkIdle false]) s t ∧ TestOver y t cause result u k x := by
  obtain ⟨cabinet, unmet⟩ := testEnded_cabinet hu hb hk hx hst cause result (rest.unmetOnly _)
  obtain ⟨n, mem, tells⟩ := testEnded_notice hu hb hk hx hst cause result (rest.unmetOnly _) hq hc
  have frame := testEnded_frame (.inl hfree) cause 0 result true
  have brings := Brings.testEnds ha hi hr hy rest hfree hneed hu hl he hp hpid hold hun hn (hbus ▸ unmet) cabinet
  refine ⟨_, brings, ?_⟩
  generalize y.testEnded cause 0 result true = e at *
  let last := (e.lastPermitEnded p cause.permitResult).calm
  have test : (last.recompute p.bus).test = y.test.over cause result true := (State.recompute_test last p.bus).trans frame.test
  have floor : (last.recompute p.bus).floor = y.floor := (State.recompute_floor last p.bus).trans frame.floor
  have clc : (last.recompute p.bus).clc = y.clc := by
    refine ((State.recompute_clc last p.bus).trans frame.clc).trans ?_
    change { y.clc with testSlot := none } = y.clc
    rw [← he.2.1]
  have queue : e.notices.queue <+: (last.recompute p.bus).notices.queue :=
    (raise_queue (e.onPar fun x => { x with permits := [] }) ..).trans (recompute_queue last p.bus)
  have string : (last.recompute p.bus).string u.cabinet u.slot = some (x.testOver y.clock cause result) := by
    have cabinet' : (last.recompute p.bus).cabinet u.cabinet = e.cabinet u.cabinet := by
      rw [State.cabinet, State.recompute_cabinets]
      rfl
    obtain ⟨h1, h4⟩ := Cabinet.slot_range hx
    rw [State.string, cabinet', cabinet]
    exact Cabinet.slot_setSlot_same k h1 h4 _
  have scs : (last.recompute p.bus).scs = y.scs := (State.recompute_scs last p.bus).trans frame.scs
  have vct : (last.recompute p.bus).vct = y.vct := (State.recompute_vct last p.bus).trans frame.vct
  have ims : (last.recompute p.bus).ims = y.ims := (State.recompute_ims last p.bus).trans frame.ims
  have clock : (last.recompute p.bus).clock = y.clock := (State.recompute_clock last p.bus).trans frame.clock
  have par : (last.recompute p.bus).par = { y.par with permits := [] } :=
    (State.recompute_par last p.bus).trans (congrArg (fun x : Par => { x with permits := [] }) frame.par)
  change TestOver y (((last.recompute p.bus).onTest fun t => { t with endHanded := true }).testSends _ _ _ _) _ _ _ _ _
  generalize last.recompute p.bus = m at *
  refine ⟨scs, vct, ims, clock, par, ?_, ?_, string, n, queue.subset mem, tells⟩
  · exact congrArg (fun t : TestContext => { t with inHand := some .testEnd, endHanded := true }) test
  · have flight : (m.onTest fun t => { t with endHanded := true }).testFlight
        (k.setSlot u.slot (some (x.testOver y.clock cause result))) u.cabinet .testEnd = y.testFlight k u.cabinet .testEnd := by
      unfold State.testFlight
      rw [State.onTest_floor, floor, Cabinet.setSlot_defn]
    rw [← flight, ← clc]
    rfl

end Sys2Proof.Machine

namespace Sys2Proof.Machine

/-! ### A cabinet stored anew, in the sets and figures of its bus (R114 to R117) -/

/-- The record `j` in the place of cabinet `c`. -/
def swapAt (c : Nat) (j : Cabinet) (p : Nat × Cabinet) : Nat × Cabinet := if p.1 = c then (p.1, j) else p

/-- `t` holds the record `j` of cabinet `c` where `s` holds `k`, of the same definition and tracked state; every other cabinet and
every reading is the same, and the same cabinets are withdrawn. -/
structure Swapped (s t : State) (c : Nat) (k j : Cabinet) : Prop where
  old : s.cabinet c = some k
  new : t.cabinet c = some j
  other : ∀ m, m ≠ c → t.cabinet m = s.cabinet m
  defn : j.defn = k.defn
  state : j.track.state = k.track.state
  scs : t.scs = s.scs
  par : t.par = s.par

section
variable {s t : State} {c : Nat} {k j : Cabinet} (h : Swapped s t c k j)
include h

theorem Swapped.definedCabinets : t.definedCabinets = s.definedCabinets.map (swapAt c j) := by
  unfold State.definedCabinets
  rw [List.map_filterMap]
  refine List.filterMap_congr fun m _ => ?_
  by_cases hm : m = c
  · subst hm
    simp [h.new, h.old, swapAt]
  · cases hs : s.cabinet m <;> simp [h.other m hm, hs, swapAt, hm]

omit h in
/-- What tells the two records not apart is the same of both lists. -/
theorem map_swapAt {β : Type} {l : List (Nat × Cabinet)} {f : Nat × Cabinet → β} (hl : ∀ p ∈ l, p.1 = c → p.2 = k)
    (hf : f (c, j) = f (c, k)) : (l.map (swapAt c j)).map f = l.map f := by
  rw [List.map_map]
  refine List.map_congr_left fun p hp => ?_
  change f (swapAt c j p) = f p
  unfold swapAt
  split
  next hc =>
    have own := hl p hp hc
    rw [hc, hf, ← own, ← hc]
  next => rfl

omit h in
theorem filter_swapAt {l : List (Nat × Cabinet)} {f : Nat × Cabinet → Bool} (hl : ∀ p ∈ l, p.1 = c → p.2 = k)
    (hf : f (c, j) = f (c, k)) : (l.map (swapAt c j)).filter f = (l.filter f).map (swapAt c j) := by
  rw [List.filter_map]
  refine congrArg (List.map (swapAt c j)) (List.filter_congr fun p hp => ?_)
  have same := map_swapAt (l := [p]) (f := f) (by simpa using hl p hp) hf
  exact (List.cons.inj same).1

theorem Swapped.held {p : Nat × Cabinet} (hp : p ∈ s.definedCabinets) (hc : p.1 = c) : p.2 = k := by
  have := mem_definedCabinets (c := p.1) (k := p.2) hp
  rw [hc, h.old] at this
  exact (Option.some.inj this).symm

theorem Swapped.cabinetsOf (b : Bus) : t.cabinetsOf b = (s.cabinetsOf b).map (swapAt c j) := by
  rw [State.cabinetsOf, h.definedCabinets, filter_swapAt (fun p hp => h.held hp) (by rw [h.defn])]
  rfl

theorem Swapped.excluded (m : Nat) : t.excluded m = s.excluded m := by
  simp only [State.excluded, State.withdrawnIn, h.par]

theorem Swapped.held_bus {b : Bus} {p : Nat × Cabinet} (hp : p ∈ s.cabinetsOf b) (hc : p.1 = c) : p.2 = k :=
  h.held (List.mem_of_mem_filter hp) hc

theorem Swapped.held_online {b : Bus} {p : Nat × Cabinet} (hp : p ∈ s.onlineSet b) (hc : p.1 = c) : p.2 = k :=
  h.held_bus (List.mem_of_mem_filter hp) hc

theorem Swapped.onlineSet (b : Bus) : t.onlineSet b = (s.onlineSet b).map (swapAt c j) := by
  have excluded : t.excluded = s.excluded := funext h.excluded
  unfold State.onlineSet
  rw [h.cabinetsOf, excluded]
  exact filter_swapAt (fun p hp => h.held_bus hp) (by rw [h.state])

/-- The tracked states of a bus are the same. -/
theorem Swapped.tracked (b : Bus) :
    (t.cabinetsOf b).map (fun p => p.2.track.state) = (s.cabinetsOf b).map fun p => p.2.track.state := by
  rw [h.cabinetsOf]
  exact map_swapAt (fun p hp => h.held_bus hp) h.state

theorem Swapped.busOnBattery (b : Bus) : t.busOnBattery b = s.busOnBattery b := by
  have tracked := congrArg (List.any · (· == .onBattery)) (h.tracked b)
  rw [List.any_map, List.any_map] at tracked
  exact tracked

theorem Swapped.known (b : Bus) (hb : t.bus b = s.bus b) : t.known b = s.known b := by
  have tracked := congrArg (List.all · (· != .unknown)) (h.tracked b)
  simp only [List.all_map] at tracked
  unfold State.known
  rw [hb]
  cases s.bus b with
  | none => rfl
  | some u => exact congrArg (u.fig.roundSeen && ·) tracked

/-- The capacity and the load are the same. -/
theorem Swapped.figures (b : Bus) (d : BusRec) :
    t.strict b d = s.figuresFrom d (s.onlineSet b) (s.onlineSet b) (energyOfSet (t.onlineSet b)) := by
  have ratings := map_swapAt (f := fun p => p.2.defn.rating * 10) (fun p hp => h.held_online (b := b) hp) (by rw [h.defn])
  have readings := map_swapAt (j := j) (f := fun p => s.readingOf p.1 .outputPower) (fun p hp => h.held_online (b := b) hp) rfl
  have reading : t.readingOf = s.readingOf := by
    funext m point
    rw [State.readingOf, h.scs, State.readingOf]
  unfold State.strict State.figuresFrom
  rw [h.onlineSet, reading, ratings, readings, List.length_map]

end

/-- The energy of a set as one record takes the place of another. -/
theorem energyOfSet_swapAt {c : Nat} {k j : Cabinet} {l : List (Nat × Cabinet)} (hn : (l.map Prod.fst).Nodup)
    (hl : ∀ p ∈ l, p.1 = c → p.2 = k) :
    energyOfSet (l.map (swapAt c j)) + (if l.any (·.1 == c) then k.energy else 0) =
      energyOfSet l + if l.any (·.1 == c) then j.energy else 0 := by
  induction l with
  | nil => rfl
  | cons p l ih =>
    obtain ⟨hp, hn⟩ := List.nodup_cons.mp hn
    have ih := ih hn fun q hq => hl q (List.mem_cons_of_mem p hq)
    have cons : ∀ (q : Nat × Cabinet) (m : List (Nat × Cabinet)), energyOfSet (q :: m) = q.2.energy + energyOfSet m := fun q m => by
      simp [energyOfSet]
    rw [List.map_cons, cons, cons, List.any_cons]
    by_cases hc : p.1 = c
    · have own := hl p List.mem_cons_self hc
      have absent : l.any (·.1 == c) = false := by
        rw [List.any_eq_false]
        intro q hq
        simp only [beq_iff_eq]
        exact fun e => hp (hc.trans e.symm ▸ List.mem_map_of_mem hq)
      simp only [absent, Bool.false_eq_true, if_false, Nat.add_zero] at ih
      simp only [swapAt, hc, own, beq_self_eq_true, Bool.true_or, if_true, ih]
      omega
    · have no : (p.1 == c) = false := by simpa using hc
      simp only [swapAt, hc, no, Bool.false_or, if_false]
      omega

/-- The energy of a cabinet as one of its strings is stored anew (R117). -/
theorem energy_setSlot {k : Cabinet} {n : Nat} {x : StringUnit} (hx : k.slot n = some x) (v : StringUnit) :
    (k.setSlot n (some v)).energy + x.age.energy = k.energy + v.age.energy := by
  obtain ⟨h1, h4⟩ := Cabinet.slot_range hx
  have same := Cabinet.slot_setSlot_same k h1 h4 (some v)
  have other := fun m (hm : m ≠ n) => Cabinet.slot_setSlot_other k hm (some v)
  have cases : n = 1 ∨ n = 2 ∨ n = 3 ∨ n = 4 := by omega
  unfold Cabinet.energy slotIndices
  simp only [List.map_cons, List.map_nil, List.sum_cons, List.sum_nil]
  rcases cases with rfl | rfl | rfl | rfl
  · rw [other 2 (by decide), other 3 (by decide), other 4 (by decide), same, hx]
    dsimp only
    omega
  · rw [other 1 (by decide), other 3 (by decide), other 4 (by decide), same, hx]
    dsimp only
    omega
  · rw [other 1 (by decide), other 2 (by decide), other 4 (by decide), same, hx]
    dsimp only
    omega
  · rw [other 1 (by decide), other 2 (by decide), other 3 (by decide), same, hx]
    dsimp only
    omega

theorem onlineSet_nodup (s : State) (b : Bus) : ((s.onlineSet b).map Prod.fst).Nodup := by
  have indices : (s.definedCabinets.map Prod.fst).Sublist cabinetIndices := by
    unfold State.definedCabinets
    generalize cabinetIndices = l
    induction l with
    | nil => exact List.Sublist.refl _
    | cons c rest ih =>
      cases h : s.cabinet c with
      | none => simpa [h] using ih.trans (List.sublist_cons_self c rest)
      | some k => simpa [h] using ih
  exact (((List.filter_sublist.trans List.filter_sublist).map Prod.fst).trans indices).nodup (List.nodup_range' ..)

/-- A string that has no energy left: the figures of the bus are those of its test (R123). -/
theorem Swapped.tested {s t : State} {c n : Nat} {k j : Cabinet} {x : StringUnit} (h : Swapped s t c k j) (hx : k.slot n = some x)
    (he : j.energy + x.age.energy = k.energy) (b : Bus) (d : BusRec) :
    (t.strict b d).margin = (s.strict b d).margin ∧ (t.strict b d).autonomy = (s.whatIfTested b d c n).autonomy := by
  have energy := energyOfSet_swapAt (j := j) (onlineSet_nodup s b) fun p hp => h.held_online hp
  rw [← h.onlineSet] at energy
  have string : s.string c n = some x := by rw [State.string, h.old]; exact hx
  rw [h.figures]
  refine ⟨rfl, congrArg (fun e => (s.figuresFrom d (s.onlineSet b) (s.onlineSet b) e).autonomy) ?_⟩
  rw [string]
  dsimp only
  split at energy
  next hin =>
    rw [if_pos hin]
    omega
  next hout =>
    rw [if_neg hout]
    omega

end Sys2Proof.Machine

namespace Sys2Proof.Machine

/-! ### A request of the test engine answered by its cabinet (R32, R38) -/

theorem endNeeded_running {s : State} (h : s.test.phase = .search ∨ s.test.phase = .measure) : s.endNeeded = true := by
  unfold State.endNeeded
  rcases h with h | h <;> rw [h]

theorem running_of_reading {p : TestPhase} (h : p = .search ∨ p = .measure) : p.running = true := by
  rcases h with rfl | rfl <;> rfl

theorem credited_idled (s : State) (c : Nat) (k : Cabinet) :
    (s.credited c k).idled false =
      (s.onClc fun l => { l with inFlight := none, link := .idle, stretchWait := false, stuckTimer := false }).setCabinet c
        (some { k with track := { k.track with failures := 0, lastSuccess := some s.now } }) := setCabinet_idled ..

/-- The part `x` as the test engine takes the outcome of its request on the link: its cabinet has been heard, the rest is as
before. -/
structure Heard (s x : State) (u : TestUnit) (k : Cabinet) : Prop where
  rest : x.AtRest
  own : x.clc.link = .own
  empty : x.clc.Empty
  subject : x.test.subject = some u
  cabinet : x.cabinet u.cabinet = some { k with track := k.track.heard s.now }
  other : ∀ m, m ≠ u.cabinet → x.cabinet m = s.cabinet m
  scs : x.scs = s.scs
  vct : x.vct = s.vct
  ims : x.ims = s.ims
  clock : x.clock = s.clock
  floor : x.floor = s.floor
  par : x.par = s.par
  test : x.test = s.test
  buses : x.buses = s.buses
  notices : x.notices = s.notices
  outer : x.outer = s.outer

theorem heard_credited {s : State} {u : TestUnit} {k : Cabinet} (hq : s.Quiet) (he : s.clc.Empty) (hl : s.clc.link = .own)
    (hk : s.cabinet u.cabinet = some k) (hu : s.test.subject = some u) : Heard s (s.credited u.cabinet k) u k := by
  have clc : (s.credited u.cabinet k).clc = s.landed.clc := State.setCabinet_clc ..
  have test : (s.credited u.cabinet k).test = s.test := State.setCabinet_test ..
  obtain ⟨h1, h24⟩ := State.cabinet_range hk
  exact {
    rest := State.AtRest.setCabinet (s := s.landed) hq.atRest _ _
    own := by rw [clc]; exact hl
    empty := by rw [clc]; exact he
    subject := by rw [test, hu]
    cabinet := State.cabinet_setCabinet_same _ h1 h24 _
    other := fun m hm => State.cabinet_setCabinet_other s.landed hm _
    scs := State.setCabinet_scs ..
    vct := State.setCabinet_vct ..
    ims := State.setCabinet_ims ..
    clock := State.setCabinet_clock ..
    floor := State.setCabinet_floor ..
    par := State.setCabinet_par ..
    test := test
    buses := State.setCabinet_buses ..
    notices := State.setCabinet_notices ..
    outer := outer_setCabinet s.landed u.cabinet k _ hk rfl }

section
variable {s x : State} {u : TestUnit} {k : Cabinet} (h : Heard s x u k)
include h

theorem Heard.now : x.now = s.now := by rw [State.now, h.clock, State.now]

theorem Heard.testString {v : StringUnit} (hv : k.slot u.slot = some v) : x.testString = some v.defn := by
  rw [State.testString, h.subject]
  change (State.string x u.cabinet u.slot).map _ = _
  rw [State.string, h.cabinet]
  exact congrArg (Option.map _) hv

theorem Heard.testFlight (command : CabinetCommand) :
    x.testFlight { k with track := k.track.heard s.now } u.cabinet command = s.testFlight k u.cabinet command := by
  rw [State.testFlight, h.floor]
  rfl

end

/-- The context as a running test is about to end: nothing in hand, its charge and its results. -/
def State.testAt (s : State) (charge : Nat) (results : List Nat) : State :=
  s.onTest fun t => { t with inHand := none, charge := charge, results := results }

/-- A step result joins the list; the last one ends the test (R107, R108). -/
theorem takeStep_testAt (s : State) (d : StringRec) (charge : Nat) (results : List Nat) (impedance : Nat) :
    (s.testAt charge results).takeStep d impedance =
      if s.test.steps ≤ (results ++ [impedance]).length then
        (s.testAt charge (results ++ [impedance])).endTest .none 0 (combineSteps d.combine (results ++ [impedance])) false
      else (s.testAt charge (results ++ [impedance])).beginStep s.test.locked := rfl

/-- A reading ends the test. -/
theorem Heard.ends {s x : State} {u : TestUnit} {k : Cabinet} (h : Heard s x u k) {v : StringUnit} {p : Permit} {cause : TestCause}
    {reading : Option TestReadReply} {charge result : Nat} {results : List Nat}
    (hphase : s.test.phase = .search ∨ s.test.phase = .measure) (hin : s.test.inHand = some .testRead)
    (hends : x.testFinalRunning .testRead .ok reading = (x.testAt charge results).endTest cause 0 result false)
    (hc : cause.outcome = .done ∨ cause.outcome = .failed) (hv : k.slot u.slot = some v) (hp : s.par.permits = [p])
    (hpid : s.test.permit = some p.id) (hold : p.holder = 0) (hbus : k.defn.bus = p.bus) (hun : s.Unqueued p) (hn : s.NormalBuses)
    (hb : s.test.beginHanded = true) (hst : v.age.state = .testing) (hq : s.notices.queue.length ≤ 28) :
    ∃ t, Brings 30 ([.testFinal .ok reading] ++ [.linkIdle false]) x t ∧
      TestOver (x.testAt charge results) t cause result u { k with track := k.track.heard s.now } v := by
  refine Brings.testOver h.rest.1 (by rw [h.test, hin]) (by rw [h.test]; exact running_of_reading hphase) hends h.rest rfl
    (endNeeded_running (by rwa [← h.test] at hphase)) h.subject h.own h.empty (by rw [← hp, ← h.par]; rfl)
    (by rw [← hpid, ← h.test]; rfl) hold ?_ ?_ hbus (by rw [← hb, ← h.test]; rfl) h.cabinet hv hst (by rwa [← h.notices] at hq) hc
  · rw [State.Unqueued, State.queueOf] at hun ⊢
    rw [← h.par] at hun
    exact hun
  · have seq := hn p.bus
    rw [State.seqOf, ← h.par] at seq
    exact seq

/-- The record of a string whose test has ended (R80, R85, R87). -/
theorem testOver_age (x : StringUnit) (c : Clock) (cause : TestCause) (result : Nat) {done : Bool}
    (hd : (cause.outcome == .done) = done) :
    let a := (x.testOver c cause result).age
    a.calendarWear = x.age.calendarWear ∧ a.cycleCharge = x.age.cycleCharge ∧ a.window = x.age.window ∧
      a.lastImpedance = (if done then result else x.age.lastImpedance) ∧
      a.baseline = (if done && x.age.baselinePending then result else x.age.baseline) ∧
      a.lastTest = (if done then some c.stamp else x.age.lastTest) ∧ a.state = .recharging ∧ a.rechargeStart = some c.uptime ∧
      a.rechargeExpiry = some (c.uptime + x.defn.holdHours * 3600) ∧
      a.history = onNewest x.age.history fun r =>
        { r.endAt c.uptime with kind := if !done && r.isOpen then .testAborted else r.kind } := by
  unfold StringUnit.testOver
  rw [hd, healthRecompute_age]
  unfold AgeRec.testOver AgeRec.enterRecharging
  cases done with
  | false => exact ⟨rfl, rfl, rfl, rfl, rfl, rfl, rfl, rfl, rfl, rfl⟩
  | true =>
    rw [if_pos rfl, takeTestResult, healthRecompute_age]
    exact ⟨rfl, rfl, rfl, rfl, rfl, rfl, rfl, rfl, rfl, rfl⟩

/-- The newest record as a test's end leaves it (R85, R86). -/
theorem endAt_testEnd (r : DischargeRec) (now : Nat) (done : Bool) :
    { r.endAt now with kind := if !done && r.isOpen then DischargeKind.testAborted else r.kind } =
      if r.isOpen then { r with duration := now - r.openedAt, isOpen := false, awaitingClose := true,
                                kind := if done then r.kind else .testAborted }
      else r := by
  cases r with
  | mk _ _ _ _ _ _ _ isOpen => cases isOpen <;> cases done <;> rfl

/-- How a test that ends of itself ends (Table 6-4). -/
def TestCause.ofItself (c : TestCause) : Prop := c = .none ∨ c = .noData ∨ c = .lowSignal

end Sys2Proof.Machine

namespace Sys2Proof.Machine

/-! ### TEST_BEGIN accepted (R103, R104) -/

/-- A trigger of one bus, if it is unmet, is met where the passes of the bus find nothing. -/
theorem Brings.meetOnly {s : State} {b : Bus} (ha : s.agenda = []) (hh : s.hold = 0) (hm : s.UnmetOnly b)
    (hp : ((s.calm.recompute b).onHold (· + 1)).PassesRest b) :
    ∃ t, Brings 11 [.meet] s t ∧ ∃ v q, t = { s.calm with buses := v, notices := q } := by
  rcases hm with hm | hm
  · exact ⟨s, (Brings.rest ⟨ha, hh, hm⟩).mono (by decide), s.buses, s.notices, (calm_self ⟨ha, hh, hm⟩).symm⟩
  · have same : s.calm.trigger b = s := congrArg (fun v => s.onTriggers fun _ => v) hm.symm
    have met := Brings.recompute (s := s.calm) (calm_atRest ha hh) hp
    rw [same] at met
    exact ⟨_, met, recompute_frame s.calm b⟩

/-- The passes of a bus find nothing where the only permit is a granted one and the bus neither is on battery nor in DEFICIT. -/
theorem passesRest_granted {s : State} {b : Bus} {p : Permit} (hp : s.par.permits = [p]) (hg : p.state = .granted)
    (hbat : s.busOnBattery b = false) (hdef : s.deficitNow b = false) (hn : (s.seqOf b).state = .normal) : s.PassesRest b := by
  have noWait : s.waitQueue b = [] := by simp [State.waitQueue, hp, hg]
  refine ⟨if_neg (by rw [hbat, hdef]; nofun), yieldWithdrawals_noDeficit (by rw [hdef]; nofun), grantAdoptions_none noWait,
    grantHeads_none noWait, returnCheck_other (by rw [hn]; nofun)⟩

theorem busOnBattery_false {s : State} {b : Bus} (h : ∀ y ∈ s.cabinetsOf b, y.2.track.state ≠ .onBattery) :
    s.busOnBattery b = false := by
  rw [Bool.eq_false_iff, ne_eq, busOnBattery_iff]
  rintro ⟨y, hy, hbat⟩
  exact h y hy hbat

theorem joinHistory_eq (l : List DischargeRec) (r : DischargeRec) : joinHistory l r = l.drop (l.length - 7) ++ [r] := by
  unfold joinHistory
  split
  · exact List.drop_append_of_le_length (Nat.sub_le ..)
  · have short : l.length - 7 = 0 := by omega
    rw [short, List.drop_zero]

theorem closeAt_eq (r : DischargeRec) (now : Nat) :
    r.closeAt now = { (if r.isOpen then { r with duration := now - r.openedAt, isOpen := false } else r) with awaitingClose := false } := by
  unfold DischargeRec.closeAt DischargeRec.endAt
  cases r.isOpen <;> rfl

theorem stringEvent_testBegin {a : AgeRec} (h : a.state = .float ∨ a.state = .recharging) (c : Clock) (d : StringRec) :
    stringEvent c .testBegin d a = healthRecompute d (a.enterTesting c) := by
  unfold stringEvent
  rcases h with h | h <;> rw [h]

/-- The record of a string as its test begins (R85). -/
def StringUnit.testing (x : StringUnit) (c : Clock) : StringUnit :=
  { x with age := (healthRecompute x.defn (x.age.enterTesting c)).age }

/-- A test has begun: its string is TESTING, and the context in SETTLE. -/
def State.begun (s : State) (u : TestUnit) : State :=
  (s.testFree.ageString u.cabinet u.slot (stringEvent s.clock .testBegin)).onTest fun t =>
    { t with beginHanded := true, phase := .settle }

theorem testBegun_eq {s : State} {u : TestUnit} {d : StringRec} (hu : s.test.subject = some u) (hd : s.testString = some d) :
    s.testFinalRunning .testBegin .ok none =
      if d.settleTime = 0 then (s.begun u).enterSearch else (s.begun u).startTestTimer .settle d.settleTime := by
  have hd : s.testFree.testString = some d := hd
  change s.testFree.testBegun = _
  unfold State.testBegun
  rw [show s.testFree.test.subject = some u from hu, hd]
  rfl

theorem bus_congr {s t : State} (h : t.buses = s.buses) (b : Bus) : t.bus b = s.bus b := by rw [State.bus, h, State.bus]

section
variable {s x : State} {u : TestUnit} {k : Cabinet} {v : StringUnit} (h : Heard s x u k) (hv : k.slot u.slot = some v)
  (hst : v.age.state = .float ∨ v.age.state = .recharging)
include h hv hst

theorem Heard.ages_testBegin :
    Ages 1 x.testFree (x.testFree.ageString u.cabinet u.slot (stringEvent x.clock .testBegin)) u.cabinet u.slot
      { k with track := k.track.heard s.now } v (v.testing x.clock).age :=
  ages_ageString (s := x.testFree) (k := { k with track := k.track.heard s.now }) hv h.cabinet (h.rest.unmetOnly _)
    (stringEvent_testBegin hst x.clock v.defn) (healthRecompute_raised ..)

omit h hst in
theorem testing_energy (c : Clock) : ({ k with track := k.track.heard s.now }.setSlot u.slot (some (v.testing c))).energy + v.age.energy =
    k.energy := by
  have none : (v.testing c).age.energy = 0 := by
    rw [StringUnit.testing, healthRecompute_age]
    rfl
  have stored := energy_setSlot (k := { k with track := k.track.heard s.now }) hv (v.testing c)
  rw [none, Nat.add_zero] at stored
  exact stored

omit hst in
/-- A test that the figures allow is not yielded (R136, R141). -/
theorem Heard.testing_rests {z : State} {b : BusUnit} {p : Permit} {c : Clock}
    (hnew : z.cabinet u.cabinet = some ({ k with track := k.track.heard s.now }.setSlot u.slot (some (v.testing c))))
    (hother : ∀ m, m ≠ u.cabinet → z.cabinet m = x.cabinet m) (hscs : z.scs = s.scs) (hpar : z.par = s.par) (hbuses : z.buses = s.buses)
    (hk : s.cabinet u.cabinet = some k) (hp : s.par.permits = [p]) (hg : p.state = .granted) (hn : s.NormalBuses)
    (hb : s.bus u.bus = some b) (hbat : ∀ y ∈ s.cabinetsOf u.bus, y.2.track.state ≠ .onBattery)
    (hfig : s.known u.bus = true → 0 ≤ (s.strict u.bus b.defn).margin ∧
      (b.defn.minAutonomy = 0 ∨ b.defn.minAutonomy ≤ (s.whatIfTested u.bus b.defn u.cabinet u.slot).autonomy)) :
    ((z.calm.recompute u.bus).onHold (· + 1)).PassesRest u.bus := by
  have swapped : Swapped s z u.cabinet k ({ k with track := k.track.heard s.now }.setSlot u.slot (some (v.testing c))) :=
    ⟨hk, hnew, fun m hm => (hother m hm).trans (h.other m hm), Cabinet.setSlot_defn .., by rw [Cabinet.setSlot_track]; rfl, hscs, hpar⟩
  obtain ⟨margin, autonomy⟩ := swapped.tested hv (testing_energy hv c) u.bus b.defn
  have bus : z.bus u.bus = some b := by rw [bus_congr hbuses, hb]
  have enough : z.deficitNow u.bus = false := by
    rw [Bool.eq_false_iff, ne_eq, deficitNow_iff bus]
    rintro ⟨-, hknown, hshort⟩
    rw [swapped.known _ (bus_congr hbuses _)] at hknown
    rw [margin, autonomy] at hshort
    obtain ⟨h1, h2⟩ := hfig hknown
    omega
  refine passesRest_granted (p := p) ?_ hg ?_ ?_ ?_
  · change (z.calm.recompute u.bus).par.permits = _
    rw [State.recompute_par, ← hp, ← hpar]
    rfl
  · have same : (z.calm.recompute u.bus).cabinetsOf u.bus = z.cabinetsOf u.bus := by
      simp only [State.cabinetsOf, State.definedCabinets, State.cabinet, State.recompute_cabinets]
      rfl
    change (z.calm.recompute u.bus).busOnBattery u.bus = false
    rw [State.busOnBattery, same]
    exact (swapped.busOnBattery u.bus).trans (busOnBattery_false hbat)
  · change (z.calm.recompute u.bus).deficitNow u.bus = false
    rw [recompute_deficitNow (s := z.calm) bus]
    exact enough
  · change ((z.calm.recompute u.bus).seqOf u.bus).state = .normal
    rw [seqOf_recompute]
    change (z.seqOf u.bus).state = .normal
    rw [State.seqOf, hpar]
    exact hn u.bus

/-- The part `z` as the test engine leaves it on an accepted TEST_BEGIN, but for its context and link: the string is TESTING. -/
structure Begun (s x z : State) (u : TestUnit) (k : Cabinet) (v : StringUnit) : Prop where
  agenda : z.agenda = []
  hold : z.hold = 0
  unmet : z.UnmetOnly k.defn.bus
  cabinet : z.cabinet u.cabinet = some ({ k with track := k.track.heard s.now }.setSlot u.slot (some (v.testing s.clock)))
  other : ∀ m, m ≠ u.cabinet → z.cabinet m = x.cabinet m
  scs : z.scs = s.scs
  vct : z.vct = s.vct
  ims : z.ims = s.ims
  clock : z.clock = s.clock
  floor : z.floor = s.floor
  par : z.par = s.par

/-- The engine's own context and the link make no difference to that. -/
theorem Heard.begun {f : TestContext → TestContext} {l : Clc → Clc} :
    Begun s x (((x.testFree.ageString u.cabinet u.slot (stringEvent x.clock .testBegin)).onTest f).onClc l) u k v := by
  have ages := h.ages_testBegin hv hst
  rw [h.clock] at ages ⊢
  exact {
    agenda := ages.frame.agenda.trans h.rest.1
    hold := ages.frame.hold.trans h.rest.2.1
    unmet := ages.unmet
    cabinet := ages.cabinet
    other := ages.other
    scs := ages.frame.scs.trans h.scs
    vct := ages.frame.vct.trans h.vct
    ims := ages.frame.ims.trans h.ims
    clock := ages.frame.clock.trans h.clock
    floor := ages.frame.floor.trans h.floor
    par := ages.frame.par.trans h.par }

end

/-- What allows a test on its bus: the only permit is granted, no cabinet is on battery, and the figures without the string's
energy suffice (R136). -/
structure TestAllowed (s : State) (u : TestUnit) (p : Permit) (b : BusUnit) : Prop where
  permits : s.par.permits = [p]
  granted : p.state = .granted
  normal : s.NormalBuses
  bus : s.bus u.bus = some b
  battery : ∀ y ∈ s.cabinetsOf u.bus, y.2.track.state ≠ .onBattery
  figures : s.known u.bus = true → 0 ≤ (s.strict u.bus b.defn).margin ∧
    (b.defn.minAutonomy = 0 ∨ b.defn.minAutonomy ≤ (s.whatIfTested u.bus b.defn u.cabinet u.slot).autonomy)

/-- The trigger of a test begin is met. -/
theorem Begun.meets {s x z : State} {u : TestUnit} {k : Cabinet} {v : StringUnit} {p : Permit} {b : BusUnit} (h : Heard s x u k)
    (hv : k.slot u.slot = some v) (hz : Begun s x z u k v) (hbuses : z.buses = s.buses) (hk : s.cabinet u.cabinet = some k)
    (hkb : k.defn.bus = u.bus) (allowed : TestAllowed s u p b) :
    ∃ t, Brings 11 [.meet] z t ∧ Begun s x t u k v ∧ t.test = z.test ∧ t.clc = z.clc := by
  obtain ⟨hp, hg, hn, hb, hbat, hfig⟩ := allowed
  obtain ⟨t, brings, w, q, rfl⟩ := Brings.meetOnly hz.agenda hz.hold (hkb ▸ hz.unmet)
    (h.testing_rests hv hz.cabinet hz.other hz.scs hz.par hbuses hk hp hg hn hb hbat hfig)
  exact ⟨_, brings, ⟨hz.agenda, hz.hold, .inl rfl, hz.cabinet, hz.other, hz.scs, hz.vct, hz.ims, hz.clock, hz.floor, hz.par⟩, rfl, rfl⟩

theorem testAwaits_buses (s : State) (what : TestRequest) (r : LinkRequest) : (s.testAwaits what r).buses = s.buses := rfl

section
variable {s x : State} {u : TestUnit} {k : Cabinet} {v : StringUnit} {p : Permit} {b : BusUnit} (h : Heard s x u k)
  (hv : k.slot u.slot = some v) (hst : v.age.state = .float ∨ v.age.state = .recharging) (hk : s.cabinet u.cabinet = some k)
  (hkb : k.defn.bus = u.bus) (allowed : TestAllowed s u p b) (hphase : s.test.phase = .begin) (hin : s.test.inHand = some .testBegin)
include h hv hst hk hkb allowed hphase hin

/-- TEST_BEGIN accepted, with a settle time (R104). -/
theorem Heard.settles (hs : v.defn.settleTime ≠ 0) :
    ∃ t, Brings 14 ([.testFinal .ok none] ++ [.linkIdle false]) x t ∧ Begun s x t u k v ∧ t.clc = (x.idled false).clc ∧
      t.test = { s.test with inHand := none, beginHanded := true, phase := .settle, timer := .settle,
                             timerDue := s.now + v.defn.settleTime } := by
  have running := testFinal_running (s := x) (what := .testBegin) (by rw [h.test, hin]) (by rw [h.test, hphase]; rfl) .ok none
  rw [testBegun_eq h.subject (h.testString hv), if_neg hs] at running
  have ages := h.ages_testBegin hv hst
  let due := (x.begun u).now + v.defn.settleTime
  have begun : Begun s x ((x.begun u).startTestTimer .settle v.defn.settleTime) u k v :=
    h.begun hv hst (f := fun t => { t with beginHanded := true, phase := .settle, timer := .settle, timerDue := due }) (l := id)
  have test : ((x.begun u).startTestTimer .settle v.defn.settleTime).test = { s.test with
      inHand := none, beginHanded := true, phase := .settle, timer := .settle, timerDue := s.now + v.defn.settleTime } := by
    have context := ages.frame.test.trans (congrArg (fun c : TestContext => { c with inHand := none }) h.test)
    rw [← ages.frame.now.trans h.now]
    exact congrArg (fun c : TestContext => { c with beginHanded := true, phase := .settle, timer := .settle, timerDue := due }) context
  have clc : ((x.begun u).startTestTimer .settle v.defn.settleTime).clc = x.clc := ages.frame.clc
  have buses : ((x.begun u).startTestTimer .settle v.defn.settleTime).buses = s.buses := ages.frame.buses.trans h.buses
  generalize (x.begun u).startTestTimer .settle v.defn.settleTime = z at *
  obtain ⟨t, met, after, testKept, clcKept⟩ := begun.meets h hv buses hk hkb allowed
  have idle := Brings.linkIdle (s := t) after.agenda (by rw [clcKept, clc, h.own]; nofun) (by rw [clcKept, clc]; exact h.empty) false
  refine ⟨t.idled false, (Brings.task (t := .testFinal .ok none) h.rest.1 begun.agenda running met).append idle |>.mono (by decide), ?_, ?_, testKept.trans test⟩
  · exact ⟨after.agenda, after.hold, after.unmet, after.cabinet, after.other, after.scs, after.vct, after.ims, after.clock, after.floor,
      after.par⟩
  · exact congrArg (fun l : Clc => { l with link := .idle, stretchWait := false, stuckTimer := false }) (clcKept.trans clc)

/-- TEST_BEGIN accepted, without a settle time: the first step is made at once (R104). -/
theorem Heard.searches (hs : v.defn.settleTime = 0) :
    ∃ t, Brings 14 ([.testFinal .ok none] ++ [.linkIdle false]) x t ∧ Begun s x t u k v ∧
      t.clc = { (x.idled false).clc with link := .own, inFlight := some (s.testFlight k u.cabinet (.testStep 1)) } ∧
      t.test = { s.test with inHand := some .testStep, beginHanded := true, phase := .search, level := 1, timer := .none } := by
  have running := testFinal_running (s := x) (what := .testBegin) (by rw [h.test, hin]) (by rw [h.test, hphase]; rfl) .ok none
  rw [testBegun_eq h.subject (h.testString hv), if_pos hs] at running
  have ages := h.ages_testBegin hv hst
  let searching := (x.begun u).onTest fun t => { t with phase := .search, timer := .none, level := 1 }
  let request := searching.newRequest .test (.command (.testStep 1)) u.cabinet
  have own : searching.clc.link = .own := (congrArg Clc.link ages.frame.clc).trans h.own
  have subject : searching.test.subject = some u := (congrArg TestContext.subject ages.frame.test).trans h.subject
  have handed : (x.begun u).enterSearch = searching.testAwaits .testStep request := testHand_waits subject own .testStep _
  rw [handed] at running
  have begun : Begun s x (searching.testAwaits .testStep request) u k v :=
    h.begun hv hst (f := fun t => { t with beginHanded := true, phase := .search, timer := .none, level := 1, inHand := some .testStep })
      (l := fun l => { l with testSlot := some request })
  have test : (searching.testAwaits .testStep request).test = { s.test with
      inHand := some .testStep, beginHanded := true, phase := .search, level := 1, timer := .none } := by
    rw [← h.test]
    exact congrArg (fun c : TestContext => { c with
      inHand := some .testStep, beginHanded := true, phase := .search, level := 1, timer := .none }) ages.frame.test
  have clc : (searching.testAwaits .testStep request).clc = { x.clc with testSlot := some request } :=
    congrArg (fun l : Clc => { l with testSlot := some request }) ages.frame.clc
  have searchingBuses : searching.buses = s.buses := ages.frame.buses.trans h.buses
  have buses : (searching.testAwaits .testStep request).buses = s.buses := (testAwaits_buses ..).trans searchingBuses
  have searched : searching.cabinet u.cabinet = some _ := ages.cabinet
  generalize searching.testAwaits .testStep request = z at *
  obtain ⟨t, met, after, testKept, clcKept⟩ := begun.meets h hv buses hk hkb allowed
  have slots : t.clc = { x.clc with testSlot := some request } := clcKept.trans clc
  have idle := linkIdle_test (s := t) (r := request) (by rw [slots]; change x.clc.link ≠ _; rw [h.own]; nofun) (by rw [slots]; exact h.empty.1)
    (by rw [slots])
  have flight : t.flight request = s.testFlight k u.cabinet (.testStep 1) := by
    rw [flight_newRequest searched after.cabinet, State.testFlight, after.floor, Cabinet.setSlot_defn]
    rfl
  rw [flight] at idle
  have brings := (Brings.task (t := .testFinal .ok none) h.rest.1 begun.agenda running met).append
    (.single (t := .linkIdle false) after.agenda (u := t.linkIdle false) (by rw [idle]; exact after.agenda) rfl)
  rw [idle] at brings
  refine ⟨_, brings.mono (by decide), ?_, ?_, testKept.trans test⟩
  · exact ⟨after.agenda, after.hold, after.unmet, after.cabinet, after.other, after.scs, after.vct, after.ims, after.clock, after.floor,
      after.par⟩
  · rw [State.onClc_clc, slots, ← h.empty.2.1]
    rfl

end

end Sys2Proof.Machine

namespace Sys2Proof.Machine

/-! ### The context returns to IDLE (R110, R137) -/

theorem recompute_onTest (s : State) (b : Bus) (f : TestContext → TestContext) : (s.onTest f).recompute b = (s.recompute b).onTest f := by
  unfold State.recompute
  rw [show (s.onTest f).bus b = s.bus b from rfl]
  cases s.bus b with
  | none => rfl
  | some u =>
    unfold State.raiseBus
    dsimp only
    rw [show (s.onTest f).strict b u.defn = s.strict b u.defn from rfl,
      show (s.onTest f).securityOf b u.defn = s.securityOf b u.defn from rfl]
    split_ifs <;> rfl

/-- Without a live permit a grant pass grants nothing. -/
theorem Brings.grantPass {s : State} (h : s.AtRest) (hp : s.par.permits = []) (b : Bus) : Brings 5 (grantPass b) s s := by
  have ho : (s.onHold (· + 1)).agenda = [] := h.1
  have none : (s.onHold (· + 1)).par.permits = [] := hp
  have opened : Brings 1 [.openHold] s (s.onHold (· + 1)) := .single h.1 h.1 rfl
  have adoptions : Brings 1 [.grantAdoptions b] (s.onHold (· + 1)) (s.onHold (· + 1)) := .single ho ho (grantAdoptions_nil _ b none)
  have heads : Brings 1 [.grantHeads b] (s.onHold (· + 1)) (s.onHold (· + 1)) := .single ho ho (grantHeads_nil _ b none)
  have closed : doTask .closeHold (s.onHold (· + 1)) = s.push [.meet] := by
    simp [doTask, State.closeHold, State.push, State.onHold, State.onAgenda]
  exact ((opened.append adoptions).append heads).append (.task ho h.1 closed (.rest h))

theorem Brings.grantPasses {s : State} (h : s.AtRest) (hp : s.par.permits = []) (l : List Bus) :
    Brings (5 * l.length) (l.flatMap fun x => if (s.bus x).isSome then Machine.grantPass x else []) s s := by
  induction l with
  | nil => exact .nothing h.1
  | cons b l ih =>
    have first : Brings 5 (if (s.bus b).isSome then Machine.grantPass b else []) s s := by
      split
      · exact .grantPass h hp b
      · exact (Brings.nothing h.1).mono (by decide)
    exact (first.append ih).mono (by rw [List.length_cons]; omega)

/-- The context of a test that needs no TEST_END, or has sent it, returns to IDLE. -/
theorem Brings.testIdles {s : State} {u : TestUnit} (h : s.AtRest) (hp : s.par.permits = []) (hphase : s.test.phase = .ending)
    (hin : s.test.inHand = none) (hdone : ¬ (s.test.endNeeded = true ∧ s.test.endHanded = false)) (hu : s.test.subject = some u) :
    Brings 22 [.testEnding] s (s.onTest fun t => { TestContext.initial with last := t.last }) := by
  have rest : (s.onTest fun t => { TestContext.initial with last := t.last }).AtRest := h
  have done : doTask .testEnding s = (s.onTest fun t => { TestContext.initial with last := t.last }).push [.testIdle u.bus] := by
    change s.testEnding = _
    rw [State.testEnding, if_pos ⟨hphase, hin⟩, if_neg hdone, State.testToIdle, hu]
  exact .task h.1 rest.1 done (.task rest.1 rest.1 rfl (.grantPasses rest hp (busesAfter u.bus)))

/-- TEST_END's outcome confirms the end where this test sent it (R110). -/
theorem Brings.testConfirmed {s : State} {u : TestUnit} {o : TxOutcome} (h : s.AtRest) (hp : s.par.permits = [])
    (hphase : s.test.phase = .ending) (hin : s.test.inHand = some .testEnd) (hh : s.test.endHanded = true)
    (hu : s.test.subject = some u) :
    Brings 23 [.testFinal o none] s
      (s.onTest fun t => { TestContext.initial with last := { t.last with confirmed := o == .ok } }) := by
  let told := s.testFree.onTest fun t => { t with last := { t.last with confirmed := o == .ok } }
  have done : doTask (.testFinal o none) s = told.push [.testEnding] := by
    change s.testFinal o none = _
    unfold State.testFinal
    rw [hin]
    dsimp only
    rw [if_neg (by rw [hphase]; decide)]
    change State.push (if s.test.endHanded = true then told else s.testFree) [.testEnding] = _
    rw [if_pos hh]
  exact .task (u := told) h.1 h.1 done (.testIdles (s := told) h hp hphase rfl (fun e => by rw [show told.test.endHanded = _ from hh] at e; exact nomatch e.2) hu)

/-! ### TEST_BEGIN refused (R103, R110) -/

/-- A test that never began has failed at its cabinet (R103, R110, R112). -/
def State.unbegunFailed (s : State) (u : TestUnit) (outcome : Nat) (needed : Bool) : State :=
  (s.onTest fun t => t.over .cabinet 0 needed).raise .testFailed
    { bus := busCode u.bus, cabinet := u.cabinet, slot := u.slot, permit := s.test.permit.getD 0, visit := s.test.holder }
    (s.test.detail outcome) 1

/-- Its string has no part in it. -/
theorem testEnded_unbegun {s : State} {u : TestUnit} (hu : s.test.subject = some u) (hb : s.test.beginHanded = false)
    (hi : s.test.inHand = none) (ht : s.clc.testSlot = none) (outcome : Nat) (needed : Bool) :
    s.testEnded .cabinet outcome 0 needed = s.unbegunFailed u outcome needed := by
  have still : s.testStill = s.onTest fun t => { t with timer := .none, inHand := none } := by
    have hand : (if s.clc.testSlot.isSome = true then none else s.test.inHand) = none := by simp [ht, hi]
    have clc : { s.clc with testSlot := none } = s.clc := by rw [← ht]
    unfold State.testStill State.onClc State.onTest
    dsimp only
    rw [clc, hand]
  have ageing : s.testStill.testAgeing .cabinet 0 = s.testStill := by
    unfold State.testAgeing
    rw [show s.testStill.test.subject = some u from hu]
    dsimp only
    rw [if_neg (show ¬ TestCause.cabinet.outcome = .done by decide)]
    exact if_neg (by rw [show s.testStill.test.beginHanded = _ from hb]; nofun)
  have told : s.testStill.raiseTestEnd .cabinet outcome 0 = s.testStill.raise .testFailed
      { bus := busCode u.bus, cabinet := u.cabinet, slot := u.slot, permit := s.test.permit.getD 0, visit := s.test.holder }
      (s.test.detail outcome) 1 := by
    unfold State.raiseTestEnd
    rw [show s.testStill.test.subject = some u from hu]
    rfl
  have ended : s.testEnded .cabinet outcome 0 needed =
      ((s.testStill.testAgeing .cabinet 0).raiseTestEnd .cabinet outcome 0).onTest fun t =>
        { t with phase := .ending, endNeeded := needed, endHanded := false, results := t.results,
                 last := { outcome := .failed, cause := .cabinet, result := 0, charge := t.charge, confirmed := false } } := rfl
  rw [ended, ageing, told, still]
  rfl

/-- A refused TEST_BEGIN has failed the test and ended its permit, the only one, and the context is IDLE. -/
def State.testRefused (s : State) (u : TestUnit) (p : Permit) (code : Nat) : State :=
  (((s.testFree.unbegunFailed u (0x10 + code) false).lastPermitEnded p .failed).recompute p.bus).onTest fun t =>
    { TestContext.initial with last := t.last }

theorem testRefused_clc (s : State) (u : TestUnit) (p : Permit) (code : Nat) : (s.testRefused u p code).clc = s.clc := by
  unfold State.testRefused
  rw [State.onTest_clc, State.recompute_clc]
  rfl

theorem Brings.beginRefused {s : State} {u : TestUnit} {p : Permit} {code : Nat} (h : s.AtRest) (he : s.clc.Empty)
    (hu : s.test.subject = some u) (hphase : s.test.phase = .begin) (hin : s.test.inHand = some .testBegin)
    (hb : s.test.beginHanded = false) (hp : s.par.permits = [p]) (hpid : s.test.permit = some p.id) (hold : p.holder = 0)
    (hq : s.Unqueued p) (hn : (s.seqOf p.bus).state = .normal) :
    Brings 40 [.testFinal (.refused code) none] s (s.testRefused u p code) := by
  unfold State.testRefused
  have running := testFinal_running hin (by rw [hphase]; rfl) (.refused code) none
  have ends : s.testFinalRunning .testBegin (.refused code) none = s.testFree.endTest .cabinet (0x10 + code) 0 true := rfl
  rw [ends, endTest_eq (s := s.testFree) hpid, Bool.not_true, Bool.and_false,
    testEnded_unbegun (s := s.testFree) hu hb rfl he.2.1, State.push_push] at running
  have rest : (s.testFree.unbegunFailed u (0x10 + code) false).AtRest := h
  have par : (s.testFree.unbegunFailed u (0x10 + code) false).par = s.par := rfl
  have test : (s.testFree.unbegunFailed u (0x10 + code) false).test = TestContext.over { s.test with inHand := none } .cabinet 0 false := rfl
  generalize s.testFree.unbegunFailed u (0x10 + code) false = e at *
  have last : (e.lastPermitEnded p .failed).AtRest := rest
  have permit := Brings.permitEnd rest.1 rest.2.1 (rest.unmetOnly _) (by rw [par, hp]) hold (by rwa [State.Unqueued, State.queueOf, par])
    (by rwa [State.seqOf, par]) .failed
  rw [calm_self last] at permit
  have test' : ((e.lastPermitEnded p .failed).recompute p.bus).test = TestContext.over { s.test with inHand := none } .cabinet 0 false :=
    (State.recompute_test ..).trans test
  have permits : ((e.lastPermitEnded p .failed).recompute p.bus).par.permits = [] := congrArg Par.permits (State.recompute_par ..)
  have rested := last.recompute p.bus
  generalize (e.lastPermitEnded p .failed).recompute p.bus = m at *
  have idles := Brings.testIdles (u := u) rested permits (by rw [test']; rfl) (by rw [test']; rfl)
    (by rw [test']; exact fun e => nomatch e.1) (by rw [test']; exact hu)
  have idle : (m.onTest fun t => { TestContext.initial with last := t.last }).AtRest := rested
  exact (Brings.task (t := .testFinal (.refused code) none) h.1 rest.1 running
    (((permit.append idles).append (.rest idle)).append (.rest idle))).mono (by decide)

/-- The context after a test that failed at its cabinet. -/
def TestContext.failedAtCabinet (t : TestContext) : TestContext :=
  { TestContext.initial with
    last := { outcome := .failed, cause := .cabinet, result := 0, charge := t.charge, confirmed := false } }

/-- The refusal written out, on an idle link: TEST_FAILED, PERMIT_ENDED, the recomputation of the permit's bus. -/
theorem testRefused_idled {s : State} {u : TestUnit} {p : Permit} {steps : Nat} (hpid : s.test.permit = some p.id)
    (hholder : s.test.holder = 0) (hold : p.holder = 0) (hbus : p.bus = u.bus) (hcab : p.cabinet = some u.cabinet)
    (hkind : p.kind = .stringTest u.slot steps) (hg : p.state = .granted) (hphase : s.test.phase = .begin) (code : Nat) :
    (s.testRefused u p code).idled false =
      (((((s.idled false).onPar fun y => { y with permits := [] }).onTest TestContext.failedAtCabinet).raise .testFailed
        { bus := u.bus.val + 1, cabinet := u.cabinet, slot := u.slot, permit := p.id }
        (1 + s.test.level * 256 + s.test.results.length * 65536 + (16 + code) * 16777216) 1).raise .permitEnded
        { bus := u.bus.val + 1, cabinet := u.cabinet, slot := u.slot, permit := p.id } 258 6).recompute u.bus := by
  have named : p.subject = { bus := u.bus.val + 1, cabinet := u.cabinet, slot := u.slot, permit := p.id } := by
    simp [Permit.subject, Permit.slot, busCode, hbus, hcab, hkind, hold]
  have state : p.kind.code + p.state.code * 256 = 258 := by
    rw [hkind, hg]
    rfl
  have detail : s.testFree.test.detail (0x10 + code) =
      1 + s.test.level * 256 + s.test.results.length * 65536 + (16 + code) * 16777216 := by
    simp [TestContext.detail, hphase, TestPhase.code]
  have who : ({
      bus := busCode u.bus, cabinet := u.cabinet, slot := u.slot, permit := s.testFree.test.permit.getD 0,
      visit := s.testFree.test.holder } : Subject) = { bus := u.bus.val + 1, cabinet := u.cabinet, slot := u.slot, permit := p.id } := by
    change ({ bus := _, cabinet := _, slot := _, permit := s.test.permit.getD 0, visit := s.test.holder } : Subject) = _
    rw [hpid, hholder]
    rfl
  unfold State.testRefused
  rw [← recompute_onTest, recompute_idled, hbus]
  unfold State.lastPermitEnded State.unbegunFailed
  rw [detail, named, state, who]
  rfl

end Sys2Proof.Machine

namespace Sys2Proof.Machine

/-- Settles O43: the engine takes each outcome of its request; a test that ends hands its string, its permit and TEST_END on. -/
theorem testReadNotReadyIsReadAgain : Obligations.TestReadNotReadyIsReadAgain := by
  intro f check u k x s hq he hl hf hs hcab hcred hk hx hun hsub d heard flight step subject onNewest' ended others ends endable
  have taken := heard_credited hq he hl hk hsub
  have freed : (s.credited u.cabinet k).idled false = heard := credited_idled s u.cabinet k
  have hk' : s.cabinet f.request.cabinet = some k := hcab.symm ▸ hk
  obtain ⟨y, hy⟩ : ∃ y, s.credited u.cabinet k = y := ⟨_, rfl⟩
  rw [hy] at taken freed
  rw [← hcab] at hy
  have conclude : ∀ (o : Host.Outcome State Fault Refusal) (t : State) (cause : TestCause) (charge result : Nat) (results : List Nat),
      cause.ofItself → s.test.phase = .search ∨ s.test.phase = .measure →
      s.test.permit.isSome → o = .next t → t.outer = y.outer →
      TestOver (y.testAt charge results) t cause result u { k with track := k.track.heard s.now } x →
      ends o cause charge result results := by
    intro o t cause charge result results hc hphase hperm hread houter fin
    have context : (y.testAt charge results).test = { s.test with inHand := none, charge := charge, results := results } :=
      congrArg (fun c : TestContext => { c with inHand := none, charge := charge, results := results }) taken.test
    have flies : (y.testAt charge results).testFlight { k with track := k.track.heard s.now } u.cabinet .testEnd =
        s.testFlight k u.cabinet .testEnd := taken.testFlight .testEnd
    have string := fin.string
    have clc := fin.clc
    have test := fin.test
    obtain ⟨m, mem, hcab, hslot, hid, hdone, hfail⟩ := fin.notice
    rw [flies] at clc
    rw [context] at test hid hdone hfail
    rw [show (y.testAt charge results).clock = s.clock from taken.clock] at string
    have par : t.par = { s.par with permits := [] } :=
      fin.par.trans (congrArg (fun x : Par => { x with permits := [] }) taken.par)
    have othersKept : others t := ⟨fin.scs.trans taken.scs, fin.vct.trans taken.vct, fin.ims.trans taken.ims,
      fin.clock.trans taken.clock, houter.trans taken.outer⟩
    have clc' : t.clc = { heard.clc with link := .own, inFlight := flight .testEnd } := by rw [← freed]; exact clc
    have permit : some m.permit = s.test.permit := by
      obtain ⟨id, hid'⟩ := Option.isSome_iff_exists.mp hperm
      rw [hid]
      change some (s.test.permit.getD 0) = _
      rw [hid']
      rfl
    obtain ⟨a1, a2, a3, a4, a5, a6, a7, a8, a9, a10⟩ := testOver_age x s.clock cause result rfl
    refine ⟨t, x.testOver s.clock cause result, hread, othersKept, par, ?_, clc', string, rfl, a1, a2, a3, a4.trans ?_, a5.trans ?_,
      a6.trans ?_, a7, a8, a9, a10.trans ?_, m, mem, hcab, hslot, permit, ?_, ?_⟩
    · rw [test]
      rcases hc with rfl | rfl | rfl <;> rfl
    · rcases hc with rfl | rfl | rfl <;> rfl
    · rcases hc with rfl | rfl | rfl <;> cases x.age.baselinePending <;> rfl
    · rcases hc with rfl | rfl | rfl <;> rfl
    · dsimp only [onNewest', onNewest]
      cases x.age.history.getLast? with
      | none => rfl
      | some r =>
        refine congrArg (fun r => x.age.history.dropLast ++ [r]) ?_
        refine (endAt_testEnd r s.now _).trans ?_
        by_cases hopen : r.isOpen = true
        · rw [if_pos hopen, if_pos hopen, show ended r = _ from if_pos hopen]
          rcases hc with rfl | rfl | rfl <;> rfl
        · rw [if_neg hopen, if_neg hopen]
    · rintro rfl
      exact hdone rfl
    · intro hcause
      obtain ⟨hkind, hvalue, hresult⟩ := hfail (by
        rcases hc with rfl | rfl | rfl
        · exact absurd rfl hcause
        · rfl
        · rfl)
      refine ⟨hkind, hresult, hvalue.trans ?_⟩
      rcases hphase with h | h <;> simp [TestContext.detail, h, TestPhase.code]
  refine ⟨?_, ?_⟩
  · intro slot p hcls hphase hin hcheck read n charge taken' low impedance results
    have reads : ∀ (m : Nat) (t : State), p.ready.toNat ≤ 1 → m ≤ 1000 →
        Brings m ([.testFinal .ok (some p)] ++ [.linkIdle false]) y t → read = .next t :=
      fun m t hr hm ends => exec_testRead_answered hq hf hs hcls hcred hk' hun hcheck hr (hy.symm ▸ ends) hm
    have own : y.clc.link ≠ .down := by rw [taken.own]; nofun
    have hand : y.test.inHand = some .testRead := by rw [taken.test, hin]
    have runs : y.test.phase.running = true := by rw [taken.test]; exact running_of_reading hphase
    have string := taken.testString hx
    have charged : saturate (2 ^ 32 - 1) (y.test.charge + p.charge.toNat) = charge := by rw [taken.test]; rfl
    have finishes : ∀ (q : Permit) (cause : TestCause) (charge result : Nat) (results : List Nat), endable q → cause.ofItself →
        y.testFinalRunning .testRead .ok (some p) = (y.testAt charge results).endTest cause 0 result false →
        p.ready.toNat ≤ 1 → ends read cause charge result results := by
      rintro q cause charge result results ⟨hp, hpid, hold, hqb, hkb, hn, hb, hst, hlen, hw, hi⟩ hc hends hready
      obtain ⟨t, brings, done⟩ := taken.ends hphase hin hends (by rcases hc with rfl | rfl | rfl <;> decide) hx hp hpid hold
        (hkb.trans hqb.symm) (by rw [State.Unqueued, hqb]; exact ⟨hw, hi⟩) hn hb hst hlen
      have outer : t.outer = y.outer := brings.outer taken.rest.1 (by decide)
      exact conclude read t cause charge result results hc hphase (by rw [hpid]; rfl) (reads 30 t hready (by decide) brings) outer done
    have steps : ∀ (level : Nat) (g : TestContext → TestContext) (z : State), (∀ c, (g c).subject = c.subject) → y.onTest g = z →
        y.testFinalRunning .testRead .ok (some p) = z.beginStep level → p.ready.toNat ≤ 1 →
        read = .next (step level (heard.onTest g)) := by
      rintro level g _ hg rfl hstep hready
      have goes := Brings.testGoesOn (u := u) (t := (y.onTest g).onTest fun c => { c with level := level }) taken.rest.1 hand runs hstep
        taken.rest ((hg y.test).trans taken.subject) taken.own taken.empty taken.cabinet
      rw [reads 3 _ hready (by decide) goes, ← freed]
      exact congrArg (fun x => Host.Outcome.next ((((y.onTest g).onTest fun c =>
        { c with level := level, inHand := some .testStep }).onClc fun l =>
        { l with link := .own, stretchWait := false, stuckTimer := false, inFlight := some x })))
        (taken.testFlight (.testStep level))
    have free : y.testAt s.test.charge s.test.results = y.testFree := by rw [← taken.test]; rfl
    have took : y.testTook p.charge.toNat = y.testAt charge s.test.results := by rw [← charged, ← taken.test]; rfl
    have level : y.test.level = n := by rw [taken.test]
    refine ⟨fun hr hless => ?_, fun hr hmore q hq => ?_, fun hr hsearch => ⟨fun hlow hless => ?_, fun hlow hmore q hq => ?_, fun hlow => ?_⟩,
      fun hr hmeasure => ⟨fun hlow q hq => ?_, fun hlow hless => ?_, fun hlow hmore q hq => ?_⟩⟩
    · have again := testFinalRunning_notReady string (p := p) (by rw [hr]; decide)
      have less : y.testFree.test.notReady < 3 := by change y.test.notReady < 3; rwa [taken.test]
      rw [State.notReady, if_pos less] at again
      rw [reads 3 _ (by rw [hr]; decide) (by decide) (Brings.testWaits taken.rest.1 hand runs again taken.rest own taken.empty), ← freed,
        ← taken.now]
      rfl
    · have again := testFinalRunning_notReady string (p := p) (by rw [hr]; decide)
      have more : ¬ y.testFree.test.notReady < 3 := by change ¬ y.test.notReady < 3; rw [taken.test]; omega
      rw [State.notReady, if_neg more, ← free] at again
      exact finishes q .noData _ 0 _ hq (.inr (.inl rfl)) again (by rw [hr]; decide)
    · have judged := (testFinalRunning_ready string hr).trans (judgeReading_search_low (by rw [taken.test, hsearch]) hlow)
      rw [if_pos (by rwa [taken.test]), took, level] at judged
      exact steps (n + 1) (fun c => { c with inHand := none, charge := charge }) _ (fun _ => rfl) (by rw [← taken.test]; rfl) judged
        (by rw [hr]; decide)
    · have judged := (testFinalRunning_ready string hr).trans (judgeReading_search_low (by rw [taken.test, hsearch]) hlow)
      rw [if_neg (by rw [taken.test]; omega), took] at judged
      exact finishes q .lowSignal _ 0 _ hq (.inr (.inr rfl)) judged (by rw [hr]; decide)
    · have judged := (testFinalRunning_ready string hr).trans (judgeReading_search (by rw [taken.test, hsearch]) hlow)
      rw [took, level] at judged
      exact steps n (fun c => { c with inHand := none, charge := charge, locked := n, phase := .measure }) _ (fun _ => rfl)
        (by rw [← level, ← taken.test]; rfl) judged (by rw [hr]; decide)
    · have judged := (testFinalRunning_ready string hr).trans (judgeReading_measure_low (by rw [taken.test, hmeasure]) hlow)
      rw [took] at judged
      exact finishes q .lowSignal _ 0 _ hq (.inr (.inr rfl)) judged (by rw [hr]; decide)
    · have judged := (testFinalRunning_ready string hr).trans (judgeReading_measure (by rw [taken.test, hmeasure]) hlow)
      rw [took, takeStep_testAt, taken.test] at judged
      exact steps s.test.locked (fun c => { c with inHand := none, charge := charge, results := results }) _ (fun _ => rfl) rfl
        (judged.trans (if_neg (Nat.not_le.mpr hless))) (by rw [hr]; decide)
    · have judged := (testFinalRunning_ready string hr).trans (judgeReading_measure (by rw [taken.test, hmeasure]) hlow)
      rw [took, takeStep_testAt, taken.test] at judged
      have result := finishes q .none charge _ results hq (.inl rfl) (judged.trans (if_pos hmore)) (by rw [hr]; decide)
      cases hcomb : d.combine <;> rw [show x.defn.combine = _ from hcomb] at result <;> exact result
  · intro command word result w hcls hw hcheck hlast hov hfirst hby answered
    have knows : k.track.Knows (some w) := ⟨hun, fun v hv => by cases hv; exact ⟨hlast, hov, hfirst, hby⟩⟩
    have answers : ∀ (m : Nat) (t : State), m ≤ 1000 →
        Brings m ([.testFinal (if result = 0#8 then .ok else .refused (min result.toNat 4)) none] ++ [.linkIdle false]) y t →
        answered = .next t :=
      fun m t hm ends => exec_testCommand_answered hq hf hs hcls hcred hk' hw hcheck knows (hy.symm ▸ ends) hm
    have own : y.clc.link ≠ .down := by rw [taken.own]; nofun
    refine ⟨?_, ?_, ?_, ?_⟩
    · intro level hcommand hin hres hphase
      rw [if_pos hres] at answers
      rw [answers 3 _ (by decide) (Brings.testWaits taken.rest.1 (by rw [taken.test, hin])
        (by rw [taken.test]; exact running_of_reading hphase) (testFinalRunning_step (taken.testString hx)) taken.rest own taken.empty),
        ← freed, ← taken.now]
      rfl
    · intro hcommand hphase hin hres p b hp hg hkb hpb hn hb hbat hfig hst htest closed opened
      rw [if_pos hres] at answers
      have allowed : TestAllowed s u p b := ⟨hp, hg, hn, hb, hbat, hfig⟩
      obtain ⟨t, brings, done, settles, searches⟩ : ∃ t, Brings 14 ([.testFinal .ok none] ++ [.linkIdle false]) y t ∧ Begun s y t u k x ∧
          (d.settleTime ≠ 0 → t.clc = (y.idled false).clc ∧ t.test = { s.test with
            inHand := none, beginHanded := true, phase := .settle, timer := .settle, timerDue := s.now + d.settleTime }) ∧
          (d.settleTime = 0 → t.clc = { (y.idled false).clc with link := .own, inFlight := flight (.testStep 1) } ∧ t.test =
            { s.test with inHand := some .testStep, beginHanded := true, phase := .search, level := 1, timer := .none }) := by
        by_cases hs : x.defn.settleTime = 0
        · obtain ⟨t, brings, done, clc, test⟩ := taken.searches hx hst hk hkb allowed hphase hin hs
          exact ⟨t, brings, done, fun hne => absurd hs hne, fun _ => ⟨clc, test⟩⟩
        · obtain ⟨t, brings, done, clc, test⟩ := taken.settles hx hst hk hkb allowed hphase hin hs
          exact ⟨t, brings, done, fun _ => ⟨clc, test⟩, fun he => absurd he hs⟩
      rw [freed] at settles searches
      have string : t.string u.cabinet u.slot = some (x.testing s.clock) := by
        obtain ⟨h1, h4⟩ := Cabinet.slot_range hx
        rw [State.string, done.cabinet]
        exact Cabinet.slot_setSlot_same _ h1 h4 _
      refine ⟨t, x.testing s.clock, answers 14 t (by decide) brings,
        ⟨done.scs, done.vct, done.ims, done.clock, (brings.outer taken.rest.1 (by decide)).trans taken.outer⟩, done.par,
        string, rfl, ?_, ?_, ?_, ?_, ?_, ?_, ?_, settles, searches⟩
      all_goals rw [StringUnit.testing, healthRecompute_age]
      case refine_7 =>
        have old : onNewest x.age.history (DischargeRec.closeAt · s.clock.uptime) = closed := by
          dsimp only [closed, onNewest', onNewest]
          cases x.age.history.getLast? with
          | none => rfl
          | some r => exact congrArg (fun r => x.age.history.dropLast ++ [r]) (closeAt_eq r s.now)
        have new : DischargeRec.new .test s.clock = opened := by
          unfold DischargeRec.new Clock.stamp
          cases hvalid : s.clock.valid <;> simp [opened, hvalid, Clock.floorTime, State.now]
        change joinHistory _ _ = _
        rw [joinHistory_eq, old, new]
      all_goals rfl
    · intro hcommand hphase hin hres p hp hpid hold hholder hpb hpc hkind hg hn hhanded hw hi
      rw [if_neg hres] at answers
      have refused := Brings.beginRefused (s := y) (code := min result.toNat 4) taken.rest taken.empty taken.subject
        (by rw [taken.test, hphase]) (by rw [taken.test, hin]) (by rw [taken.test, hhanded]) (by rw [taken.par, hp])
        (by rw [taken.test, hpid]) hold (by rw [State.Unqueued, State.queueOf, taken.par, hpb]; exact ⟨hw, hi⟩)
        (by rw [State.seqOf, taken.par]; exact hn p.bus)
      have clc := testRefused_clc y u p (min result.toNat 4)
      have idle := Brings.linkIdle refused.choose_spec.2.2 (by rw [clc]; exact own) (by rw [clc]; exact taken.empty) false
      obtain ⟨steps, hkind⟩ := hkind
      rw [answers 41 _ (by decide) (refused.append idle), testRefused_idled (by rw [taken.test, hpid]) (by rw [taken.test, hholder]) hold
        hpb hpc hkind hg (by rw [taken.test, hphase]), freed, taken.test]
      rfl
    · intro hcommand hphase hin hhanded hp
      have confirmed := Brings.testConfirmed (s := y) (o := if result = 0#8 then .ok else .refused (min result.toNat 4)) taken.rest
        (by rw [taken.par, hp]) (by rw [taken.test, hphase]) (by rw [taken.test, hin]) (by rw [taken.test, hhanded]) taken.subject
      have ok : ((if result = 0#8 then TxOutcome.ok else .refused (min result.toNat 4)) == .ok) = (result == 0#8) := by
        by_cases hr : result = 0#8 <;> simp [hr]
      rw [ok] at confirmed
      have idle := Brings.linkIdle (s := y.onTest fun c => { TestContext.initial with last := { c.last with confirmed := result == 0#8 } })
        taken.rest.1 own taken.empty false
      rw [answers 24 _ (by decide) (confirmed.append idle), ← freed]
      rfl

end Sys2Proof.Machine

namespace Sys2Proof.Machine

/-! ### The requests that wait, in the order of their completion as the link goes DOWN (R31) -/

/-- The waiting requests: the transfer slots from the bus after the turn pointer round, the test slot, the scan queue. -/
def Clc.inOrder (l : Clc) : List LinkRequest :=
  ((busesAfter l.turn).filterMap fun b => l.slots[b]) ++ l.testSlot.toList ++ l.scanQueue

/-- Nothing waits any more. -/
def Clc.emptied (l : Clc) : Clc := { l with slots := Vector.replicate 4 none, testSlot := none, scanQueue := [] }

/-- The first of the occupied slots is emptied, and leaves the others. -/
theorem filterMap_slots {v : Vector (Option LinkRequest) 4} {l : List Bus} (hn : l.Nodup) {r : LinkRequest} {rest : List LinkRequest}
    (h : (l.filterMap fun b => v[b]) = r :: rest) :
    ∃ b, (l.find? fun b => (v[b]).isSome) = some b ∧ v[b] = some r ∧ (l.filterMap fun a => (v.set b none)[a]) = rest := by
  induction l with
  | nil => exact nomatch h
  | cons a l ih =>
    obtain ⟨ha, hn⟩ := List.nodup_cons.mp hn
    cases hs : v[a] with
    | some q =>
      rw [List.filterMap_cons_some (f := fun b : Bus => v[b]) hs] at h
      obtain ⟨rfl, rfl⟩ := List.cons.inj h
      refine ⟨a, List.find?_cons_of_pos (by rw [hs]; rfl), hs, ?_⟩
      rw [List.filterMap_cons_none (by simp)]
      refine List.filterMap_congr fun b hb => ?_
      have other : a.val ≠ b.val := fun e => ha (Fin.ext e ▸ hb)
      simp [other]
    | none =>
      rw [List.filterMap_cons_none (f := fun b : Bus => v[b]) hs] at h
      obtain ⟨b, hfind, hb, hrest⟩ := ih hn h
      have other : b.val ≠ a.val := by
        intro e
        rw [← Fin.ext e, hb] at hs
        exact nomatch hs
      refine ⟨b, by rw [List.find?_cons_of_neg (by simp [hs]), hfind], hb, ?_⟩
      rw [List.filterMap_cons_none (by simpa [Vector.getElem_set, other] using hs), hrest]

theorem busesAfter_nodup (b : Bus) : (busesAfter b).Nodup := by
  revert b
  decide

/-- The next request to complete is the first in the order. -/
theorem drain_cons {l : Clc} {r : LinkRequest} {rest : List LinkRequest} (h : l.inOrder = r :: rest) :
    ∃ v t q, l.drain = some (r, { l with slots := v, testSlot := t, scanQueue := q }) ∧
      Clc.inOrder { l with slots := v, testSlot := t, scanQueue := q } = rest := by
  unfold Clc.inOrder at h
  cases hw : (busesAfter l.turn).filterMap fun b => l.slots[b] with
  | cons q others =>
    rw [hw, List.cons_append, List.cons_append] at h
    obtain ⟨rfl, rfl⟩ := List.cons.inj h
    obtain ⟨b, hfind, hb, hrest⟩ := filterMap_slots (busesAfter_nodup _) hw
    refine ⟨l.slots.set b none, l.testSlot, l.scanQueue, ?_, ?_⟩
    · unfold Clc.drain
      rw [hfind]
      dsimp only
      rw [hb]
      rfl
    · unfold Clc.inOrder
      rw [hrest]
  | nil =>
    have slots : ((busesAfter l.turn).find? fun b => (l.slots[b]).isSome) = none := by
      rw [List.find?_eq_none]
      intro b hb
      rw [List.filterMap_eq_nil_iff.mp hw b hb]
      nofun
    rw [hw, List.nil_append] at h
    cases ht : l.testSlot with
    | some q =>
      rw [ht] at h
      obtain ⟨rfl, rfl⟩ := List.cons.inj h
      refine ⟨l.slots, none, l.scanQueue, ?_, ?_⟩
      · unfold Clc.drain
        rw [slots, ht]
      · unfold Clc.inOrder
        rw [hw]
        rfl
    | none =>
      rw [ht] at h
      change l.scanQueue = _ at h
      refine ⟨l.slots, none, rest, ?_, ?_⟩
      · unfold Clc.drain
        rw [slots, ht, h]
      · unfold Clc.inOrder
        rw [hw]
        rfl

theorem drain_nil {l : Clc} (h : l.inOrder = []) : l.drain = none ∧ l.emptied = l := by
  obtain ⟨hst, hscan⟩ := List.append_eq_nil_iff.mp h
  obtain ⟨hs, ht⟩ := List.append_eq_nil_iff.mp hst
  have slots : ∀ b : Bus, l.slots[b] = none := fun b => List.filterMap_eq_nil_iff.mp hs b (mem_busesAfter b _)
  have test : l.testSlot = none := by simpa using ht
  have empty : l.slots = Vector.replicate 4 none := by
    ext i hi
    rw [Vector.getElem_replicate, show l.slots[i] = none from slots ⟨i, hi⟩]
  refine ⟨?_, ?_⟩
  · simp [Clc.drain, slots, test, hscan, busesAfter]
  · unfold Clc.emptied
    rw [← empty, ← test, ← hscan]

end Sys2Proof.Machine

namespace Sys2Proof.Machine

/-! ### What a request that ends LINK_DOWN leaves (R31, R40, R63, R138 to R140) -/

/-- `n` failures of cabinet `c`, below the threshold (R40). -/
def State.failing (x : State) (c n : Nat) : State :=
  match x.cabinet c with
  | none => x
  | some k => x.setCabinet c (some { k with track := { k.track with failures := min (k.track.failures + n) 15 } })

/-- The command in hand ends LINK_DOWN: a WITHDRAW and a GO_ONLINE whose outcome counts return to the head of their lane. -/
def TransferQueue.lostDown (q : TransferQueue) (permit : Nat → Option Permit) (due : Option Nat) : TransferQueue :=
  match q.inHand with
  | none => q
  | some h =>
    let back := h.used && h.entry.command != .cancel
    let first := h.entry.command == .goOnline && (h.entry.permit.bind permit).any fun p => p.yielded
    { priority := if back && first then h.entry :: q.priority else q.priority,
      ordinary := if back && !first then h.entry :: q.ordinary else q.ordinary, inHand := none, spacingDue := due }

/-- The tracker's part (R32, R40). -/
def State.trackedDown (x : State) (r : LinkRequest) : State := if r.tracked then x.failing r.cabinet 1 else x

/-- The scanner's part (R62, R63). -/
def Scs.lostDown (y : Scs) (r : LinkRequest) : Scs :=
  match r.cls with
  | .poll p => { y.missed r.cabinet p .linkDown with outstanding := y.outstanding - 1 }
  | .freeze _ | .command _ | .testRead _ => { y with outstanding := y.outstanding - 1 }

/-- A request of the scanner or of a transfer ends LINK_DOWN; the permits and the spacing are those of `s`. -/
def State.lostDown (s x : State) (r : LinkRequest) : State :=
  match r.requester with
  | .transfer b => (x.trackedDown r).onQueue b fun q => q.lostDown s.permit ((s.bus b).map fun u => s.now + u.defn.spacing)
  | .scan => if r.counted then (x.trackedDown r).onScs fun y => y.lostDown r else x.trackedDown r
  | .test => x.trackedDown r

/-! Other parts of the state have no part in it. -/

theorem failing_onClc (x : State) (c n : Nat) (f : Clc → Clc) : (x.onClc f).failing c n = (x.failing c n).onClc f := by
  unfold State.failing
  rw [show (x.onClc f).cabinet c = x.cabinet c from rfl]
  cases x.cabinet c with
  | none => rfl
  | some k => exact (onClc_setCabinet ..).symm

theorem trackedDown_onClc (x : State) (r : LinkRequest) (f : Clc → Clc) : (x.onClc f).trackedDown r = (x.trackedDown r).onClc f := by
  unfold State.trackedDown
  split
  · exact failing_onClc ..
  · rfl

theorem lostDown_onClc (s x : State) (r : LinkRequest) (f : Clc → Clc) : (s.lostDown (x.onClc f) r) = (s.lostDown x r).onClc f := by
  unfold State.lostDown
  rw [trackedDown_onClc]
  split
  · rfl
  · split <;> rfl
  · rfl

/-- What a failure leaves: everything but the record of its cabinet. -/
theorem failing_frame (x : State) (c n : Nat) : ∃ v, x.failing c n = { x with cabinets := v } := by
  unfold State.failing
  split
  · exact ⟨_, rfl⟩
  · unfold State.setCabinet
    split <;> exact ⟨_, rfl⟩

theorem trackedDown_frame (x : State) (r : LinkRequest) : ∃ v, x.trackedDown r = { x with cabinets := v } := by
  unfold State.trackedDown
  split
  · exact failing_frame ..
  · exact ⟨_, rfl⟩

/-- A failure, of a cabinet that may be undefined meanwhile. -/
theorem Brings.failing {x : State} {c : Nat} (h : x.AtRest)
    (below : ∀ k, x.cabinet c = some k → k.track.unreachable = true ∨ k.track.failed.failures < x.floor.unreachableThreshold)
    {o : TxOutcome} (ho : o.isFailure = true) (isTestRead : Bool) :
    Brings 1 [.trackAttempt c o isTestRead none] x (x.failing c 1) := by
  unfold State.failing
  cases hk : x.cabinet c with
  | none =>
    refine .single h.1 h.1 ?_
    change x.trackAttempt c o isTestRead none = x
    rw [State.trackAttempt, if_pos ho, State.trackFailure, hk]
  | some k => exact Brings.failure h.1 hk (below k hk) ho isTestRead none

theorem Brings.trackedDown {x : State} {r : LinkRequest} (h : x.AtRest)
    (below : ∀ k, x.cabinet r.cabinet = some k → k.track.unreachable = true ∨ k.track.failed.failures < x.floor.unreachableThreshold) :
    Brings 1 (r.toTracker .linkDown .none) x (x.trackedDown r) := by
  unfold LinkRequest.toTracker State.trackedDown
  split
  · exact .failing h below rfl _
  · exact (Brings.nothing h.1).mono (by decide)

/-- The command in hand of a bus is one whose loss is told: its outcome counts for nothing, or its permit's WITHDRAW or GO_ONLINE
waits again; nothing waits for its cabinet. -/
def State.InHandLost (s : State) (b : Bus) : Prop :=
  ∃ h, (s.queueOf b).inHand = some h ∧ (∀ e ∈ (s.queueOf b).waiting, e.cabinet ≠ h.entry.cabinet) ∧
    (h.used = false ∨ h.entry.command = .cancel ∨ ∃ p, h.entry.permit = some p.id ∧ s.permit p.id = some p ∧ p.bus = b ∧
      (h.entry.command = .withdraw ∧ p.state = .granted ∨ h.entry.command = .goOnline))

theorem putBack_free {q : TransferQueue} {e : TransferEntry} (hb : e.command = .withdraw ∨ e.command = .goOnline)
    (hw : ∀ x ∈ q.waiting, x.cabinet ≠ e.cabinet) (priority : Bool) :
    q.putBack priority e = if priority then { q with priority := e :: q.priority } else { q with ordinary := e :: q.ordinary } := by
  have joins : q.bars e = false := by
    unfold TransferQueue.bars
    rcases hb with h | h <;> rw [h] <;> rfl
  have alone := TransferQueue.remove_none (q := q) (gone := TransferEntry.isOf e.cabinet) fun x hx => by
    simpa [TransferEntry.isOf] using hw x hx
  unfold TransferQueue.putBack
  rw [joins, alone]
  rfl

theorem transferFinal_lost {s : State} {b : Bus} (hl : s.InHandLost b) :
    s.transferFinal b .linkDown =
      (s.onQueue b fun q => q.lostDown s.permit ((s.bus b).map fun u => s.now + u.defn.spacing)).push [.meet] := by
  obtain ⟨h, hh, hw, hcase⟩ := hl
  have forgotten : ∀ used : h.used = false ∨ h.entry.command = .cancel, s.transferFinal b .linkDown =
      (s.onQueue b fun q => q.lostDown s.permit ((s.bus b).map fun u => s.now + u.defn.spacing)).push [.meet] := by
    intro used
    rw [transferFinal_unused hh .linkDown used]
    refine congrArg (State.push · [.meet]) (onQueue_congr ?_)
    have back : (h.used && h.entry.command != .cancel) = false := by rcases used with h | h <;> simp [h]
    simp [TransferQueue.lostDown, hh, back]
  by_cases used : h.used = false ∨ h.entry.command = .cancel
  · exact forgotten used
  · obtain ⟨hused, hcancel⟩ := not_or.mp used
    have hused : h.used = true := by simpa using hused
    obtain ⟨p, he, hp, hbus, hcommand⟩ := (hcase.resolve_left (by rw [hused]; nofun)).resolve_left hcancel
    subst hbus
    have found : h.entry.permit.bind s.permit = some p := by rw [he]; exact hp
    rcases hcommand with ⟨hc, hg⟩ | hc
    · rw [transferFinal_withdraw hh .linkDown hused hc he hp]
      refine congrArg (State.push · [.meet]) ?_
      have put := putBack_free (q := { s.queueOf p.bus with inHand := none, spacingDue := (s.bus p.bus).map fun u => s.now + u.defn.spacing })
        (.inl hc) hw false
      rw [State.withdrawFinal, if_pos hg, State.handFree, onQueue_onQueue]
      refine onQueue_congr (put.trans ?_)
      simp [TransferQueue.lostDown, hh, hused, hc]
    · rw [transferFinal_goOnline hh .linkDown hused hc he hp]
      refine congrArg (State.push · [.meet]) ?_
      have put := putBack_free (q := { s.queueOf p.bus with inHand := none, spacingDue := (s.bus p.bus).map fun u => s.now + u.defn.spacing })
        (.inr hc) hw p.yielded
      rw [State.goOnlineFinal, State.handFree, onQueue_onQueue]
      refine onQueue_congr (put.trans ?_)
      cases hy : p.yielded <;> simp [TransferQueue.lostDown, hh, hused, hc, found, hy]

end Sys2Proof.Machine

namespace Sys2Proof.Machine

/-! ### The drain (R31) -/

/-- A request waits whose LINK_DOWN is told: of a transfer with such a command in hand, or of the scanner. -/
def State.Waits (s : State) (r : LinkRequest) : Prop :=
  (∃ b, r.requester = .transfer b ∧ s.InHandLost b) ∨
    r.requester = .scan ∧ ((∃ n, r.cls = .freeze n) ∨ ∃ p, r.cls = .poll p)

/-- How many requests of a list name a cabinet. -/
def namedIn (w : List LinkRequest) (c : Nat) : Nat := (w.filter fun q => q.cabinet == c).length

/-- How many requests of a list are the scanner's. -/
def scansIn (w : List LinkRequest) : Nat := (w.filter fun q => decide (q.requester = .scan)).length

/-- The part `x` on its way from `s` through the drain, with the requests `w` still waiting. -/
structure Draining (s x : State) (w : List LinkRequest) : Prop where
  rest : x.AtRest
  permits : x.par.permits = s.par.permits
  buses : x.buses = s.buses
  clock : x.clock = s.clock
  floor : x.floor = s.floor
  waits : ∀ r ∈ w, s.Waits r
  queues : ∀ r ∈ w, ∀ b, r.requester = .transfer b → x.queueOf b = s.queueOf b
  distinct : w.Pairwise fun r q => ∀ b, r.requester = .transfer b → q.requester ≠ .transfer b
  below : ∀ r ∈ w, ∀ k, x.cabinet r.cabinet = some k →
    k.track.unreachable = true ∨ min (k.track.failures + namedIn w r.cabinet) 15 < s.floor.unreachableThreshold
  outstanding : scansIn w = 0 ∨ scansIn w < x.scs.outstanding

/-- The link has no part in that. -/
theorem Draining.onClc {s x : State} {w : List LinkRequest} (h : Draining s x w) (f : Clc → Clc) : Draining s (x.onClc f) w :=
  ⟨h.rest, h.permits, h.buses, h.clock, h.floor, h.waits, h.queues, h.distinct, h.below, h.outstanding⟩

theorem namedIn_cons (r : LinkRequest) (w : List LinkRequest) (c : Nat) :
    namedIn (r :: w) c = namedIn w c + if r.cabinet = c then 1 else 0 := by
  unfold namedIn
  by_cases h : r.cabinet = c <;> simp [h]

theorem scansIn_cons (r : LinkRequest) (w : List LinkRequest) :
    scansIn (r :: w) = scansIn w + if r.requester = .scan then 1 else 0 := by
  unfold scansIn
  by_cases h : r.requester = .scan <;> simp [h]

theorem failing_cabinet (x : State) (c n m : Nat) :
    (x.failing c n).cabinet m = (x.cabinet m).map fun k =>
      if m = c then { k with track := { k.track with failures := min (k.track.failures + n) 15 } } else k := by
  unfold State.failing
  cases hk : x.cabinet c with
  | none =>
    dsimp only
    by_cases h : m = c
    · rw [h, hk]
      rfl
    · simp [h]
  | some k =>
    dsimp only
    by_cases h : m = c
    · obtain ⟨h1, h24⟩ := State.cabinet_range hk
      rw [h, State.cabinet_setCabinet_same x h1 h24, hk]
      simp
    · rw [State.cabinet_setCabinet_other x h]
      simp [h]

theorem lostDown_cabinet (s x : State) (r : LinkRequest) (c : Nat) : (s.lostDown x r).cabinet c = (x.trackedDown r).cabinet c := by
  unfold State.lostDown
  split
  · rfl
  · split <;> rfl
  · rfl

theorem queueOf_onQueue_other (s : State) {a b : Bus} (h : a ≠ b) (f : TransferQueue → TransferQueue) :
    (s.onQueue b f).queueOf a = s.queueOf a := by
  have other : b.val ≠ a.val := fun e => h (Fin.ext e.symm)
  simp [State.queueOf, State.onQueue, other]

section
variable {s x : State} {r : LinkRequest} {w : List LinkRequest} (h : Draining s x (r :: w))
include h

theorem Draining.tracks : Brings 1 (r.toTracker .linkDown .none) x (x.trackedDown r) := by
  refine .trackedDown h.rest fun k hk => ?_
  have named : namedIn (r :: w) r.cabinet = namedIn w r.cabinet + 1 := by rw [namedIn_cons, if_pos rfl]
  rcases h.below r List.mem_cons_self k hk with hu | hb
  · exact .inl hu
  · rw [named] at hb
    rw [h.floor]
    exact .inr (Nat.lt_of_le_of_lt (by simp only [Track.failed]; omega) hb)

/-- The request that is next ends LINK_DOWN. -/
theorem Draining.step : Brings 3 (r.toTracker .linkDown .none ++ r.toRequester .linkDown .none) x (s.lostDown x r) := by
  have tracked := h.tracks
  obtain ⟨v, frame⟩ := trackedDown_frame x r
  have rest : (x.trackedDown r).AtRest := by rw [frame]; exact h.rest
  have par : (x.trackedDown r).par = x.par := by rw [frame]
  have scs : (x.trackedDown r).scs = x.scs := by rw [frame]
  have buses : (x.trackedDown r).buses = s.buses := by rw [frame]; exact h.buses
  have clock : (x.trackedDown r).clock = s.clock := by rw [frame]; exact h.clock
  unfold State.lostDown
  generalize x.trackedDown r = y at *
  rcases h.waits r List.mem_cons_self with ⟨b, hb, hlost⟩ | ⟨hscan, hcls⟩
  · have queue : y.queueOf b = s.queueOf b := by
      have same := h.queues r List.mem_cons_self b hb
      rw [State.queueOf, par]
      exact same
    have permit : y.permit = s.permit := by
      funext id
      rw [State.permit, par, h.permits, State.permit]
    have bus : y.bus b = s.bus b := bus_congr buses b
    have now : y.now = s.now := by rw [State.now, clock, State.now]
    have final := transferFinal_lost (s := y) (b := b) (by rw [State.InHandLost, queue, permit]; exact hlost)
    rw [permit, bus, now] at final
    have tasks : r.toRequester .linkDown .none = [.transferFinal b .linkDown] := by rw [LinkRequest.toRequester, hb]
    have rest' : (y.onQueue b fun q => q.lostDown s.permit ((s.bus b).map fun u => s.now + u.defn.spacing)).AtRest := rest
    rw [tasks, hb]
    exact tracked.append (.task (t := .transferFinal b .linkDown) rest.1 rest'.1 final (.rest rest'))
  · have tasks : r.toRequester .linkDown .none = [.scanFinal r .linkDown 0 0#32] := by rw [LinkRequest.toRequester, hscan]; rfl
    have outstanding : 2 ≤ y.scs.outstanding := by
      have := h.outstanding
      rw [scansIn_cons, if_pos hscan] at this
      rw [scs]
      omega
    have final : y.scanFinal r .linkDown 0 0#32 = if r.counted then y.onScs fun z => z.lostDown r else y := by
      split
      next hc =>
        rcases hcls with ⟨n, hf⟩ | ⟨p, hp⟩
        · rw [scanFinal_other hc (by rw [hf]; rfl) outstanding]
          exact onScs_congr (by rw [Scs.lostDown, hf])
        · rw [scanFinal_poll hc hp (judge_missed (by nofun) r.cabinet p 0#32) outstanding]
          exact onScs_congr (by rw [Scs.lostDown, hp]; rfl)
      next hc => exact if_neg hc
    rw [tasks, hscan]
    have ended : (if r.counted then y.onScs fun z => z.lostDown r else y).agenda = [] := by split <;> exact rest.1
    exact (tracked.append (.single (t := .scanFinal r .linkDown 0 0#32) rest.1 ended final)).mono (by decide)

/-- One failure more is one request less. -/
theorem Draining.below_next {q : LinkRequest} (hq : q ∈ w) {k : Cabinet} (hk : (s.lostDown x r).cabinet q.cabinet = some k) :
    k.track.unreachable = true ∨ min (k.track.failures + namedIn w q.cabinet) 15 < s.floor.unreachableThreshold := by
  have less := h.below q (List.mem_cons_of_mem r hq)
  have named := namedIn_cons r w q.cabinet
  rw [lostDown_cabinet] at hk
  unfold State.trackedDown at hk
  split at hk
  · rw [failing_cabinet] at hk
    obtain ⟨j, hj, rfl⟩ := Option.map_eq_some_iff.mp hk
    refine (less j hj).imp (fun hu => ?_) fun hb => ?_
    · split <;> exact hu
    · split
      next same =>
        rw [if_pos same.symm] at named
        dsimp only
        omega
      next => omega
  · exact (less k hk).imp id fun hb => by omega

/-- The rest still waits as before. -/
theorem Draining.next : Draining s (s.lostDown x r) w := by
  obtain ⟨v, frame⟩ := trackedDown_frame x r
  have below := fun q hq k hk => h.below_next (q := q) hq (k := k) hk
  have waits := fun q hq => h.waits q (List.mem_cons_of_mem r hq)
  have outstanding := h.outstanding
  obtain ⟨first, distinct⟩ := List.pairwise_cons.mp h.distinct
  rw [scansIn_cons] at outstanding
  rcases h.waits r List.mem_cons_self with ⟨b, hb, -⟩ | ⟨hscan, hcls⟩
  · have lost : s.lostDown x r = ({ x with cabinets := v } : State).onQueue b fun q =>
        q.lostDown s.permit ((s.bus b).map fun u => s.now + u.defn.spacing) := by rw [State.lostDown, hb, frame]
    rw [lost] at below ⊢
    refine ⟨h.rest, h.permits, h.buses, h.clock, h.floor, waits, fun q hq a ha => ?_, distinct, below, ?_⟩
    · have other : a ≠ b := fun e => first q hq b hb (e ▸ ha)
      exact (queueOf_onQueue_other _ other _).trans (h.queues q (List.mem_cons_of_mem r hq) a ha)
    · rw [hb, if_neg (by nofun)] at outstanding
      exact outstanding
  · rw [if_pos hscan] at outstanding
    have queues := fun q hq => h.queues q (List.mem_cons_of_mem r hq)
    by_cases hc : r.counted = true
    · have lost : s.lostDown x r = ({ x with cabinets := v } : State).onScs fun y => y.lostDown r := by
        rw [State.lostDown, hscan, frame]
        exact if_pos hc
      have fewer : (x.scs.lostDown r).outstanding = x.scs.outstanding - 1 := by
        rcases hcls with ⟨n, hf⟩ | ⟨p, hp⟩
        · rw [Scs.lostDown, hf]
        · rw [Scs.lostDown, hp]
      rw [lost] at below ⊢
      refine ⟨h.rest, h.permits, h.buses, h.clock, h.floor, waits, queues, distinct, below, ?_⟩
      change _ ∨ scansIn w < (x.scs.lostDown r).outstanding
      omega
    · have lost : s.lostDown x r = { x with cabinets := v } := by
        rw [State.lostDown, hscan, frame]
        exact if_neg hc
      rw [lost] at below ⊢
      refine ⟨h.rest, h.permits, h.buses, h.clock, h.floor, waits, queues, distinct, below, ?_⟩
      change _ ∨ scansIn w < x.scs.outstanding
      omega

end

/-- Every request that waits ends LINK_DOWN, in order. -/
theorem Brings.drains {s : State} (w : List LinkRequest) : ∀ x : State, Draining s x w → x.clc.inOrder = w →
    Brings (4 * w.length + 1) [.drainDown] x (w.foldl s.lostDown (x.onClc Clc.emptied)) := by
  induction w with
  | nil =>
    intro x h hw
    obtain ⟨none, same⟩ := drain_nil hw
    have kept : x.onClc Clc.emptied = x := by rw [State.onClc, same]
    have done : doTask .drainDown x = x := by
      change x.drainDown = x
      rw [State.drainDown, none]
    rw [List.foldl_nil, kept]
    exact .single h.rest.1 h.rest.1 done
  | cons r w ih =>
    intro x h hw
    obtain ⟨v, t, q, drain, rest⟩ := drain_cons hw
    let left : Clc := { x.clc with slots := v, testSlot := t, scanQueue := q }
    have taken : doTask .drainDown x = (x.onClc fun _ => left).push
        ((r.toTracker .linkDown .none ++ r.toRequester .linkDown .none) ++ [.drainDown]) := by
      change x.drainDown = _
      rw [State.drainDown, drain]
    have here := h.onClc fun _ => left
    have clc : (s.lostDown (x.onClc fun _ => left) r).clc = left := by
      rw [lostDown_onClc]
      rfl
    have others := ih _ here.next (by rw [clc]; exact rest)
    have emptied : (s.lostDown (x.onClc fun _ => left) r).onClc Clc.emptied = s.lostDown (x.onClc Clc.emptied) r := by
      rw [← lostDown_onClc]
      rfl
    rw [emptied] at others
    refine (Brings.task (t := .drainDown) h.rest.1 here.rest.1 taken (here.step.append others)).mono ?_
    rw [List.length_cons]
    omega

end Sys2Proof.Machine

namespace Sys2Proof.Machine

/-! ### Failures and the figures of a bus (R40, R114) -/

/-- A failure below the threshold changes nothing that a figure is computed from. -/
theorem swapped_failures {x : State} {c n : Nat} {k : Cabinet} (hk : x.cabinet c = some k) :
    Swapped x (x.setCabinet c (some { k with track := { k.track with failures := n } })) c k
      { k with track := { k.track with failures := n } } := by
  obtain ⟨h1, h24⟩ := State.cabinet_range hk
  exact ⟨hk, State.cabinet_setCabinet_same x h1 h24 _, fun m hm => State.cabinet_setCabinet_other x hm _, rfl, rfl,
    State.setCabinet_scs .., State.setCabinet_par ..⟩

theorem Swapped.strict {s t : State} {c : Nat} {k j : Cabinet} (h : Swapped s t c k j) (he : j.energy = k.energy) (b : Bus)
    (d : BusRec) : t.strict b d = s.strict b d := by
  have energy : energyOfSet (t.onlineSet b) = energyOfSet (s.onlineSet b) := by
    rw [h.onlineSet]
    exact congrArg List.sum (map_swapAt (f := fun p => p.2.energy) (fun p hp => h.held_online (b := b) hp) he)
  rw [h.figures, energy]
  rfl

theorem Swapped.securityOf {s t : State} {c : Nat} {k j : Cabinet} (h : Swapped s t c k j) (hb : t.buses = s.buses) (b : Bus)
    (d : BusRec) (f : Figures) : t.securityOf b d f = s.securityOf b d f := by
  unfold State.securityOf State.seqOf
  rw [h.known b (bus_congr hb b), h.par]

theorem recompute_failing (x : State) (c n : Nat) (b : Bus) : (x.failing c n).recompute b = (x.recompute b).failing c n := by
  have cabinet : (x.recompute b).cabinet c = x.cabinet c := by rw [State.cabinet, State.recompute_cabinets, State.cabinet]
  unfold State.failing
  rw [cabinet]
  cases hk : x.cabinet c with
  | none => rfl
  | some k =>
    have swapped := swapped_failures (n := min (k.track.failures + n) 15) hk
    have energy : ({ k with track := { k.track with failures := min (k.track.failures + n) 15 } } : Cabinet).energy = k.energy := rfl
    obtain ⟨h1, -⟩ := State.cabinet_range hk
    dsimp only
    generalize ({ k with track := { k.track with failures := min (k.track.failures + n) 15 } } : Cabinet) = j at *
    rw [State.setCabinet_eq _ h1] at swapped ⊢
    rw [State.setCabinet_eq _ h1]
    unfold State.recompute
    rw [show (x.onCabinets fun v => v.setIfInBounds (c - 1) (some j)).bus b = x.bus b from rfl]
    cases x.bus b with
    | none => rfl
    | some u =>
      dsimp only
      rw [swapped.strict energy, swapped.securityOf rfl]
      unfold State.raiseBus
      dsimp only
      split_ifs <;> rfl

end Sys2Proof.Machine

namespace Sys2Proof.Machine

/-! ### The recovery procedure (R29, R30) -/

theorem lineLow_iff (l : LineLevels) : lineLow l = true ↔ linesCode l ≠ 0 := by
  obtain ⟨lck, lda⟩ := l
  cases lck <;> cases lda <;> simp [lineLow, linesCode, bit]

theorem linesCode_eq (l : LineLevels) : linesCode l = (if l.lckLow then 1 else 0) + (if l.ldaLow then 2 else 0) := by
  obtain ⟨lck, lda⟩ := l
  cases lck <;> cases lda <;> rfl

/-- RECOVERY is entered. -/
def State.inRecovery (s : State) : State :=
  s.onClc fun l => { l with link := .recovery, recoveryFlag := false, stretchWait := false, stuckTimer := false }

/-- LINK_STUCK has been raised. -/
def State.toldStuck (s : State) (lines : LineLevels) : State := s.inRecovery.raise .linkStuck {} (linesCode lines) 0

/-- The link is DOWN, its first retry a second away. -/
def State.wentDown (s : State) (lines after : LineLevels) : State :=
  (((s.toldStuck lines).onClc fun l => { l with link := .down }).raise .linkDown {} (linesCode after) 0).onClc fun l =>
    { l with retryDue := some (s.now + 1), retries := 0 }

theorem exec_stuckLine {n : Nat} {s t : State} {lines after : LineLevels} (hq : s.Quiet) (hf : s.clc.inFlight = none)
    (hl : s.clc.link = .idle ∨ s.clc.link = .own ∨ s.clc.link = .alertIn) (hc : linesCode lines ≠ 0)
    (b : Brings n [.recoveryEnd lines after] s.inRecovery t) (hn : n ≤ settleBound) :
    exec (.stuckLineTimerExpiry lines after) s = .next t := by
  have allowed : (lineLow lines && (s.clc.link == .idle || s.clc.link == .own || s.clc.link == .alertIn)) = true := by
    rw [(lineLow_iff lines).mpr hc]
    rcases hl with h | h | h <;> rw [h] <;> rfl
  change execStuckLineTimerExpiry lines after s = _
  unfold execStuckLineTimerExpiry
  rw [run_allowed (fun s => lineLow lines && (s.clc.link == .idle || s.clc.link == .own || s.clc.link == .alertIn)) hq.1 allowed]
  refine run_brings (u := s.inRecovery) hq.1 hq.1.2 ?_ b hn
  have ended : s.inRecovery.endAttempt .noAnswer .none = s.inRecovery := by
    unfold State.endAttempt
    rw [show s.inRecovery.clc.inFlight = none from hf]
  change (s.inRecovery.endAttempt .noAnswer .none).push _ = _
  rw [ended]

/-- Both lines read high: the link is IDLE. -/
theorem Brings.recovers {s : State} {lines after : LineLevels} (hq : s.Quiet) (he : s.clc.Empty) (ha : linesCode after = 0) :
    Brings 2 [.recoveryEnd lines after] s.inRecovery ((s.toldStuck lines).idled false) := by
  have high : ¬ lineLow after = true := fun h => (lineLow_iff after).mp h ha
  have idle := Brings.linkIdle (s := s.toldStuck lines) hq.1.2 (by nofun) he false
  exact .task (t := .recoveryEnd lines after) (s := s.inRecovery) (u := s.toldStuck lines) hq.1.2 hq.1.2 (if_neg high) idle

/-- A line still reads low: the link is DOWN, and what waits is completed. -/
theorem Brings.goesDown {n : Nat} {s t : State} {lines after : LineLevels} (hq : s.Quiet) (ha : linesCode after ≠ 0)
    (drains : Brings n [.drainDown] (s.wentDown lines after) t) : Brings (n + 1) [.recoveryEnd lines after] s.inRecovery t :=
  .task (t := .recoveryEnd lines after) (s := s.inRecovery) (u := s.wentDown lines after) hq.1.2 hq.1.2
    (if_pos ((lineLow_iff after).mpr ha)) drains

/-- A retry that finds a line low, and one that finds both high (R31). -/
theorem exec_recoveryRetry {s : State} {after : LineLevels} {due : Nat} (hq : s.Quiet) (hl : s.clc.link = .down)
    (hd : s.clc.retryDue = some due) (hdue : due ≤ s.now) :
    exec (.recoveryRetryExpiry after) s = run (fun s => s.retryRecovery after) s := by
  have allowed : (s.clc.link == .down && s.reached s.clc.retryDue) = true := by
    rw [hl, hd]
    simpa [State.reached] using hdue
  change execRecoveryRetryExpiry after s = _
  unfold execRecoveryRetryExpiry
  exact run_allowed (fun s => s.clc.link == .down && s.reached s.clc.retryDue) hq.1 allowed

end Sys2Proof.Machine

namespace Sys2Proof.Machine

/-! ### TEST_BEGIN completed LINK_DOWN (R31, R103, R110) -/

/-- A test request handed in on a link that is DOWN completes at once. -/
theorem testHand_down {s : State} {u : TestUnit} (hu : s.test.subject = some u) (hl : s.clc.link = .down) (what : TestRequest)
    (command : CabinetCommand) :
    s.testHand what (.command command) = (s.onTest fun t => { t with inHand := some what }).push
      ((s.newRequest .test (.command command) u.cabinet).toTracker .linkDown .none ++ [.testFinal .linkDown none]) := by
  unfold State.testHand
  rw [hu]
  exact if_pos hl

/-- A test that never began has failed, its permit has ended with it, and TEST_END is wanted. -/
def State.beginLost (s : State) (u : TestUnit) (p : Permit) : State :=
  (s.testFree.unbegunFailed u 4 true).lastPermitEnded p .failed

theorem beginLost_cabinets (s : State) (u : TestUnit) (p : Permit) : (s.beginLost u p).cabinets = s.cabinets := rfl

theorem failing_beginLost (s : State) (c n : Nat) (u : TestUnit) (p : Permit) :
    (s.beginLost u p).failing c n = (s.failing c n).beginLost u p := by
  unfold State.failing
  rw [State.cabinet, beginLost_cabinets, ← State.cabinet]
  cases s.cabinet c with
  | none => rfl
  | some k =>
    dsimp only
    unfold State.setCabinet
    split <;> rfl

theorem failing_onTest (s : State) (c n : Nat) (f : TestContext → TestContext) : (s.onTest f).failing c n = (s.failing c n).onTest f := by
  unfold State.failing
  rw [show (s.onTest f).cabinet c = s.cabinet c from rfl]
  cases s.cabinet c with
  | none => rfl
  | some k =>
    dsimp only
    unfold State.setCabinet
    split <;> rfl

theorem failing_failing (s : State) (c : Nat) : (s.failing c 1).failing c 1 = s.failing c 2 := by
  cases hk : s.cabinet c with
  | none =>
    have same : ∀ n, s.failing c n = s := fun n => by rw [State.failing, hk]
    rw [same, same, same]
  | some k =>
    obtain ⟨h1, h24⟩ := State.cabinet_range hk
    have first : s.failing c 1 = s.setCabinet c (some { k with track := { k.track with failures := min (k.track.failures + 1) 15 } }) := by
      rw [State.failing, hk]
    have second : s.failing c 2 = s.setCabinet c (some { k with track := { k.track with failures := min (k.track.failures + 2) 15 } }) := by
      rw [State.failing, hk]
    have sum : min (min (k.track.failures + 1) 15 + 1) 15 = min (k.track.failures + 2) 15 := by omega
    rw [first, second, State.failing, State.cabinet_setCabinet_same s h1 h24]
    dsimp only
    rw [State.setCabinet_setCabinet, sum]

/-- A test that TEST_BEGIN's loss has ended: TEST_END has ended LINK_DOWN too, and the context is IDLE. -/
def State.beginLostEnded (s : State) (u : TestUnit) (p : Permit) : State :=
  ((((s.beginLost u p).recompute p.bus).onTest fun t => { t with endHanded := true, inHand := some .testEnd }).failing u.cabinet 1).onTest
    fun t => { TestContext.initial with last := { t.last with confirmed := false } }

/-- TEST_END handed in on a link that is DOWN ends at once, with one failure more of the cabinet. -/
theorem Brings.testEndLost {s : State} {u : TestUnit} (h : s.AtRest) (hl : s.clc.link = .down) (hp : s.par.permits = [])
    (hphase : s.test.phase = .ending) (hi : s.test.inHand = none) (hn : s.test.endNeeded = true) (hh : s.test.endHanded = false)
    (hu : s.test.subject = some u) (hk : (s.cabinet u.cabinet).isSome)
    (below : ∀ k, s.cabinet u.cabinet = some k → k.track.unreachable = true ∨ k.track.failed.failures < s.floor.unreachableThreshold) :
    Brings 25 [.testEnding] s (((s.onTest fun t => { t with endHanded := true, inHand := some .testEnd }).failing u.cabinet 1).onTest
      fun t => { TestContext.initial with last := { t.last with confirmed := false } }) := by
  let z := s.onTest fun t => { t with endHanded := true, inHand := some .testEnd }
  let r := (s.onTest fun t => { t with endHanded := true }).newRequest .test (.command .testEnd) u.cabinet
  have hands : doTask .testEnding s = z.push (r.toTracker .linkDown .none ++ [.testFinal .linkDown none]) :=
    (testEnding_hands hphase hi hn hh).trans
      (testHand_down (s := s.onTest fun t => { t with endHanded := true }) hu hl .testEnd .testEnd)
  have tracked : z.trackedDown r = z.failing u.cabinet 1 := if_pos hk
  have tracks := Brings.trackedDown (x := z) (r := r) h below
  rw [tracked] at tracks
  obtain ⟨v, frame⟩ := failing_frame z u.cabinet 1
  have confirmed := Brings.testConfirmed (s := z.failing u.cabinet 1) (u := u) (o := .linkDown) (by rw [frame]; exact h)
    (by rw [frame]; exact hp) (by rw [frame]; exact hphase) (by rw [frame]; rfl) (by rw [frame]; rfl) (by rw [frame]; exact hu)
  exact .task (u := z) h.1 h.1 hands (tracks.append confirmed)

/-- TEST_BEGIN ends LINK_DOWN: the test fails, its permit ends, and its TEST_END ends LINK_DOWN at once. -/
theorem Brings.beginLost {s : State} {u : TestUnit} {p : Permit} (h : s.AtRest) (hl : s.clc.link = .down) (ht : s.clc.testSlot = none)
    (hu : s.test.subject = some u) (hphase : s.test.phase = .begin) (hin : s.test.inHand = some .testBegin)
    (hb : s.test.beginHanded = false) (hp : s.par.permits = [p]) (hpid : s.test.permit = some p.id) (hold : p.holder = 0)
    (hq : s.Unqueued p) (hn : (s.seqOf p.bus).state = .normal) (hk : (s.cabinet u.cabinet).isSome)
    (below : ∀ k, s.cabinet u.cabinet = some k → k.track.unreachable = true ∨ k.track.failed.failures < s.floor.unreachableThreshold) :
    Brings 60 [.testFinal .linkDown none] s (s.beginLostEnded u p) := by
  have running := testFinal_running hin (by rw [hphase]; rfl) .linkDown none
  have ends : s.testFinalRunning .testBegin .linkDown none = s.testFree.endTest .cabinet 4 0 false := rfl
  have needed : (s.testFree.endNeeded && !false) = true := by
    unfold State.endNeeded
    rw [show s.testFree.test.phase = .begin from hphase]
    rfl
  rw [ends, endTest_eq (s := s.testFree) hpid, needed, testEnded_unbegun (s := s.testFree) hu hb rfl ht, State.push_push] at running
  unfold State.beginLostEnded State.beginLost
  have rest : (s.testFree.unbegunFailed u 4 true).AtRest := h
  have par : (s.testFree.unbegunFailed u 4 true).par = s.par := rfl
  have clc : (s.testFree.unbegunFailed u 4 true).clc = s.clc := rfl
  have floor : (s.testFree.unbegunFailed u 4 true).floor = s.floor := rfl
  have cabinets : (s.testFree.unbegunFailed u 4 true).cabinets = s.cabinets := rfl
  have test : (s.testFree.unbegunFailed u 4 true).test = TestContext.over { s.test with inHand := none } .cabinet 0 true := rfl
  generalize s.testFree.unbegunFailed u 4 true = e at *
  have last : (e.lastPermitEnded p .failed).AtRest := rest
  have permit := Brings.permitEnd rest.1 rest.2.1 (rest.unmetOnly _) (by rw [par, hp]) hold (by rwa [State.Unqueued, State.queueOf, par])
    (by rwa [State.seqOf, par]) .failed
  rw [calm_self last] at permit
  have test' : ((e.lastPermitEnded p .failed).recompute p.bus).test = TestContext.over { s.test with inHand := none } .cabinet 0 true :=
    (State.recompute_test ..).trans test
  have permits : ((e.lastPermitEnded p .failed).recompute p.bus).par.permits = [] := congrArg Par.permits (State.recompute_par ..)
  have link : ((e.lastPermitEnded p .failed).recompute p.bus).clc = s.clc := (State.recompute_clc ..).trans clc
  have floor' : ((e.lastPermitEnded p .failed).recompute p.bus).floor = s.floor := (State.recompute_floor ..).trans floor
  have cabinet : ((e.lastPermitEnded p .failed).recompute p.bus).cabinet u.cabinet = s.cabinet u.cabinet := by
    rw [State.cabinet, State.recompute_cabinets, show (e.lastPermitEnded p .failed).cabinets = s.cabinets from cabinets, State.cabinet]
  have rested := last.recompute p.bus
  generalize (e.lastPermitEnded p .failed).recompute p.bus = m at *
  have lost := Brings.testEndLost (u := u) rested (by rw [link, hl]) permits (by rw [test']; rfl) (by rw [test']; rfl)
    (by rw [test']; rfl) (by rw [test']; rfl) (by rw [test']; exact hu) (by rw [cabinet]; exact hk) (by rw [cabinet, floor']; exact below)
  obtain ⟨v, frame⟩ := failing_frame (m.onTest fun t => { t with endHanded := true, inHand := some .testEnd }) u.cabinet 1
  have idle : (((m.onTest fun t => { t with endHanded := true, inHand := some .testEnd }).failing u.cabinet 1).onTest
      fun t => { TestContext.initial with last := { t.last with confirmed := false } }).AtRest := by
    rw [frame]
    exact rested
  exact (Brings.task (t := .testFinal .linkDown none) h.1 rest.1 running
    (((permit.append lost).append (.rest idle)).append (.rest idle))).mono (by decide)

end Sys2Proof.Machine

namespace Sys2Proof.Machine

/-! ### What waits as the link goes DOWN -/

/-- No transfer and no test waits: the order is that of the scan queue. -/
theorem inOrder_noTest {l : Clc} (ht : l.testSlot = none) :
    l.inOrder = ((busesAfter l.turn).filterMap fun b => l.slots[b]) ++ l.scanQueue := by
  rw [Clc.inOrder, ht, Option.toList_none, List.append_nil]

theorem inOrder_test {l : Clc} {r : LinkRequest} (hs : l.slots = Vector.replicate 4 none) (ht : l.testSlot = some r) (hq : l.scanQueue = []) :
    l.inOrder = [r] := by
  have slots : ((busesAfter l.turn).filterMap fun b => l.slots[b]) = [] :=
    List.filterMap_eq_nil_iff.mpr fun b _ => by simp [hs]
  rw [Clc.inOrder, slots, ht, hq]
  rfl

/-- The requests of a link's slots are those of their buses, one each; its scan queue holds the scanner's. -/
structure Clc.Owned (l : Clc) : Prop where
  slots : ∀ (b : Bus) r, l.slots[b] = some r → r.requester = .transfer b
  scans : ∀ r ∈ l.scanQueue, r.requester = .scan

theorem Clc.Owned.distinct {l : Clc} (h : l.Owned) (buses : List Bus) (hn : buses.Nodup) :
    ((buses.filterMap fun b => l.slots[b]) ++ l.scanQueue).Pairwise
      fun r q => ∀ b, r.requester = .transfer b → q.requester ≠ .transfer b := by
  have scan : ∀ q ∈ l.scanQueue, ∀ b, q.requester ≠ .transfer b := fun q hq b => by rw [h.scans q hq]; nofun
  rw [List.pairwise_append]
  refine ⟨?_, ?_, fun r _ q hq b _ => scan q hq b⟩
  · refine List.Pairwise.filterMap (R := (· ≠ ·)) _ ?_ hn
    intro a c hac r hr q hq b hb hb'
    have ha := h.slots a r hr
    have hc := h.slots c q hq
    rw [hb] at ha
    rw [hb'] at hc
    exact hac (by injection ha with ha; injection hc with hc; rw [← ha, ← hc])
  · exact List.pairwise_of_forall_mem_list fun r hr q _ b hb => absurd hb (scan r hr b)

/-- The requests of the slots are none of the scanner's. -/
theorem Clc.Owned.scansIn {l : Clc} (h : l.Owned) (buses : List Bus) :
    scansIn ((buses.filterMap fun b => l.slots[b]) ++ l.scanQueue) = l.scanQueue.length := by
  unfold Machine.scansIn
  rw [List.filter_append, List.filter_eq_nil_iff.mpr, List.nil_append, List.filter_eq_self.mpr]
  · intro r hr
    simpa using h.scans r hr
  · intro r hr
    obtain ⟨b, -, hb⟩ := List.mem_filterMap.mp hr
    simp [h.slots b r hb]

/-- The link goes DOWN with requests of transfers and of the scanner waiting. -/
theorem exec_goesDown {s : State} {lines after : LineLevels} {w : List LinkRequest} (hq : s.Quiet) (hf : s.clc.inFlight = none)
    (hl : s.clc.link = .idle ∨ s.clc.link = .own ∨ s.clc.link = .alertIn) (hc : linesCode lines ≠ 0) (ha : linesCode after ≠ 0)
    (h : Draining s (s.wentDown lines after) w) (hw : s.clc.inOrder = w) (hlen : w.length ≤ 134) :
    exec (.stuckLineTimerExpiry lines after) s = .next (w.foldl s.lostDown ((s.wentDown lines after).onClc Clc.emptied)) :=
  exec_stuckLine hq hf hl hc (.goesDown hq ha (.drains w _ h hw)) (by unfold settleBound; omega)

/-! ### A TEST_BEGIN that waits as the link goes DOWN -/

theorem State.Unqueued.of_par {s t : State} {p : Permit} (h : s.Unqueued p) (e : t.par = s.par) : t.Unqueued p := by
  rwa [State.Unqueued, State.queueOf, e]

/-- The failure that TEST_BEGIN's loss gives its cabinet leaves one more below the threshold. -/
theorem below_second {x : State} {c bound : Nat}
    (below : ∀ k, x.cabinet c = some k → k.track.unreachable = true ∨ min (k.track.failures + 2) 15 < bound) :
    ∀ k, (x.failing c 1).cabinet c = some k → k.track.unreachable = true ∨ k.track.failed.failures < bound := by
  intro k hk
  rw [failing_cabinet] at hk
  obtain ⟨j, hj, rfl⟩ := Option.map_eq_some_iff.mp hk
  rw [if_pos rfl]
  refine (below j hj).imp id fun hb => ?_
  simp only [Track.failed]
  omega

/-- The two failures of the cabinet are one of 2, and the figures do not see them. -/
theorem beginLostEnded_failing {x : State} {u : TestUnit} {p : Permit} :
    (x.failing u.cabinet 1).beginLostEnded u p =
      (((x.failing u.cabinet 2).beginLost u p).onTest fun t =>
        { TestContext.initial with last := { t.last with confirmed := false } }).recompute p.bus := by
  unfold State.beginLostEnded
  rw [failing_onTest, ← recompute_failing, failing_beginLost, failing_failing, recompute_onTest]
  rfl

/-- What that leaves, written out. -/
theorem beginLost_idled {x : State} {u : TestUnit} {p : Permit} {steps : Nat} (hpid : x.test.permit = some p.id)
    (hholder : x.test.holder = 0) (hold : p.holder = 0) (hbus : p.bus = u.bus) (hcab : p.cabinet = some u.cabinet)
    (hkind : p.kind = .stringTest u.slot steps) (hg : p.state = .granted) (hphase : x.test.phase = .begin) :
    ((x.beginLost u p).onTest fun t => { TestContext.initial with last := { t.last with confirmed := false } }) =
      (((x.onPar fun y => { y with permits := [] }).onTest TestContext.failedAtCabinet).raise .testFailed
        { bus := u.bus.val + 1, cabinet := u.cabinet, slot := u.slot, permit := p.id }
        (1 + x.test.level * 256 + x.test.results.length * 65536 + 4 * 16777216) 1).raise .permitEnded
        { bus := u.bus.val + 1, cabinet := u.cabinet, slot := u.slot, permit := p.id } 258 6 := by
  have named : p.subject = { bus := u.bus.val + 1, cabinet := u.cabinet, slot := u.slot, permit := p.id } := by
    simp [Permit.subject, Permit.slot, busCode, hbus, hcab, hkind, hold]
  have state : p.kind.code + p.state.code * 256 = 258 := by
    rw [hkind, hg]
    rfl
  have detail : x.testFree.test.detail 4 = 1 + x.test.level * 256 + x.test.results.length * 65536 + 4 * 16777216 := by
    simp [TestContext.detail, hphase, TestPhase.code]
  have who : ({
      bus := busCode u.bus, cabinet := u.cabinet, slot := u.slot, permit := x.testFree.test.permit.getD 0,
      visit := x.testFree.test.holder } : Subject) = { bus := u.bus.val + 1, cabinet := u.cabinet, slot := u.slot, permit := p.id } := by
    change ({ bus := _, cabinet := _, slot := _, permit := x.test.permit.getD 0, visit := x.test.holder } : Subject) = _
    rw [hpid, hholder]
    rfl
  unfold State.beginLost State.lastPermitEnded State.unbegunFailed
  rw [detail, named, state, who]
  rfl

theorem beginLostEnded_clc (x : State) (u : TestUnit) (p : Permit) : (x.beginLostEnded u p).clc = x.clc := by
  unfold State.beginLostEnded
  rw [failing_onTest]
  obtain ⟨v, frame⟩ := failing_frame ((x.beginLost u p).recompute p.bus) u.cabinet 1
  rw [frame]
  exact State.recompute_clc ..

/-- The one request that waits is TEST_BEGIN. -/
theorem Brings.drainsBegin {x : State} {r : LinkRequest} {u : TestUnit} {p : Permit} (h : x.AtRest) (hl : x.clc.link = .down)
    (hw : x.clc.inOrder = [r]) (hr : r.requester = .test) (hcls : r.cls = .command (.testBegin u.slot)) (hc : r.cabinet = u.cabinet)
    (hcred : r.credited = true) (hu : x.test.subject = some u) (hphase : x.test.phase = .begin) (hin : x.test.inHand = some .testBegin)
    (hb : x.test.beginHanded = false) (hp : x.par.permits = [p]) (hpid : x.test.permit = some p.id) (hold : p.holder = 0)
    (hq : x.Unqueued p) (hn : (x.seqOf p.bus).state = .normal) (hk : (x.cabinet u.cabinet).isSome)
    (below : ∀ k, x.cabinet u.cabinet = some k → k.track.unreachable = true ∨ min (k.track.failures + 2) 15 < x.floor.unreachableThreshold) :
    Brings 70 [.drainDown] x (((x.onClc Clc.emptied).failing u.cabinet 1).beginLostEnded u p) := by
  obtain ⟨v, t, q, drain, rest⟩ := drain_cons hw
  obtain ⟨drained, same⟩ := drain_nil rest
  have taken : doTask .drainDown x = (x.onClc Clc.emptied).push
      ((r.toTracker .linkDown .none ++ r.toRequester .linkDown .none) ++ [.drainDown]) := by
    have left : Clc.emptied x.clc = { x.clc with slots := v, testSlot := t, scanQueue := q } := same
    change x.drainDown = _
    rw [State.drainDown, drain, ← left]
    rfl
  have tracked : (x.onClc Clc.emptied).trackedDown r = (x.onClc Clc.emptied).failing u.cabinet 1 := by
    rw [State.trackedDown, LinkRequest.tracked, hcls, hcred, hc]
    rfl
  have tasks : r.toRequester .linkDown .none = [.testFinal .linkDown none] := by rw [LinkRequest.toRequester, hr]; rfl
  have first := Brings.trackedDown (x := x.onClc Clc.emptied) (r := r) h fun k hk => by
    rw [hc] at hk
    exact (below k hk).imp id fun hb => Nat.lt_of_le_of_lt (by simp only [Track.failed]; omega) hb
  have second := below_second (x := x.onClc Clc.emptied) below
  have found : (((x.onClc Clc.emptied).failing u.cabinet 1).cabinet u.cabinet).isSome := by
    rw [failing_cabinet, Option.isSome_map]
    exact hk
  rw [tracked] at first
  obtain ⟨w, frame⟩ := failing_frame (x.onClc Clc.emptied) u.cabinet 1
  generalize (x.onClc Clc.emptied).failing u.cabinet 1 = z at *
  have par : z.par = x.par := by rw [frame]; rfl
  have floor : z.floor = x.floor := by rw [frame]; rfl
  have clc : (z.beginLostEnded u p).clc = { x.clc with slots := v, testSlot := t, scanQueue := q } := by
    rw [beginLostEnded_clc, frame]
    exact same
  have lost := Brings.beginLost (s := z) (u := u) (p := p) (by rw [frame]; exact h) (by rw [frame]; exact hl) (by rw [frame]; rfl)
    (by rw [frame]; exact hu) (by rw [frame]; exact hphase) (by rw [frame]; exact hin) (by rw [frame]; exact hb)
    (by rw [par]; exact hp) (by rw [frame]; exact hpid) hold (hq.of_par par) (by rw [State.seqOf, par]; exact hn) found
    (by rw [floor]; exact second)
  obtain ⟨n, few, hands, quiet⟩ := lost
  have done : doTask .drainDown (z.beginLostEnded u p) = z.beginLostEnded u p := by
    change (z.beginLostEnded u p).drainDown = _
    rw [State.drainDown, clc, drained]
  rw [tasks] at taken
  have rests := (first.append ⟨n, few, hands, quiet⟩).append (.single quiet quiet done)
  exact (Brings.task (t := .drainDown) (u := x.onClc Clc.emptied) h.1 h.1 taken rests).mono (by decide : 1 + 60 + 1 + 1 ≤ 70)

end Sys2Proof.Machine

namespace Sys2Proof.Machine

theorem wentDown_clc (s : State) (lines after : LineLevels) : (s.wentDown lines after).clc =
    { s.clc with
      link := .down, recoveryFlag := false, stretchWait := false, stuckTimer := false, retryDue := some (s.now + 1), retries := 0 } := rfl

/-- The link as such has no part in what waits. -/
theorem wentDown_inOrder (s : State) (lines after : LineLevels) : (s.wentDown lines after).clc.inOrder = s.clc.inOrder := by
  rw [wentDown_clc]
  rfl

/-- The link and the notices alone have changed. -/
theorem wentDown_frame (s : State) (lines after : LineLevels) : ∃ l n, s.wentDown lines after = { s with clc := l, notices := n } :=
  ⟨_, _, rfl⟩

/-- What waits as the link goes DOWN. -/
theorem Draining.start {s : State} {w : List LinkRequest} (h : s.AtRest) (lines after : LineLevels) (waits : ∀ r ∈ w, s.Waits r)
    (distinct : w.Pairwise fun r q => ∀ b, r.requester = .transfer b → q.requester ≠ .transfer b)
    (below : ∀ r ∈ w, ∀ k, s.cabinet r.cabinet = some k →
      k.track.unreachable = true ∨ min (k.track.failures + namedIn w r.cabinet) 15 < s.floor.unreachableThreshold)
    (outstanding : scansIn w = 0 ∨ scansIn w < s.scs.outstanding) : Draining s (s.wentDown lines after) w := by
  obtain ⟨l, n, frame⟩ := wentDown_frame s lines after
  rw [frame]
  exact ⟨h, rfl, rfl, rfl, rfl, waits, fun _ _ _ _ => rfl, distinct, below, outstanding⟩

/-- A retry that finds a line low is counted, and another is due a second later (R31). -/
theorem exec_recoveryRetry_low {s : State} {after : LineLevels} {due : Nat} (hq : s.Quiet) (hl : s.clc.link = .down)
    (hd : s.clc.retryDue = some due) (hdue : due ≤ s.now) (ha : linesCode after ≠ 0) :
    exec (.recoveryRetryExpiry after) s = .next
      (s.onClc fun l => { l with retries := l.retries + 1, retryDue := some (s.now + 1) }) := by
  have low : s.retryRecovery after = s.onClc fun l => { l with retries := l.retries + 1, retryDue := some (s.now + 1) } :=
    if_pos ((lineLow_iff after).mpr ha)
  rw [exec_recoveryRetry hq hl hd hdue, run_done hq.1 (by rw [low]; exact hq.1.2), low]

/-- The retry that finds both lines high raises LINK_UP with the number of retries (R31). -/
theorem exec_recoveryRetry_high {s : State} {after : LineLevels} {due : Nat} (hq : s.Quiet) (he : s.clc.Empty) (hl : s.clc.link = .down)
    (hd : s.clc.retryDue = some due) (hdue : due ≤ s.now) (ha : linesCode after = 0) :
    exec (.recoveryRetryExpiry after) s = .next
      ((s.onClc fun l => { l with link := .idle, retryDue := none, retries := 0 }).raise .linkUp {} (s.clc.retries + 1) 0) := by
  have high : s.retryRecovery after =
      (s.onClc fun l => { l with link := .idle, retryDue := none, retries := 0 }).raise .linkUp {} (s.clc.retries + 1) 0 :=
    (if_neg fun h => (lineLow_iff after).mp h ha).trans (arbitrate_empty he)
  rw [exec_recoveryRetry hq hl hd hdue, run_done hq.1 (by rw [high]; exact hq.1.2), high]

/-- The link goes DOWN with TEST_BEGIN waiting: its test and its permit end. -/
theorem exec_goesDown_begin {s : State} {lines after : LineLevels} {r : LinkRequest} {u : TestUnit} {p : Permit} (hq : s.Quiet)
    (hf : s.clc.inFlight = none) (hl : s.clc.link = .idle ∨ s.clc.link = .own ∨ s.clc.link = .alertIn) (hc : linesCode lines ≠ 0)
    (ha : linesCode after ≠ 0) (hw : s.clc.inOrder = [r]) (hr : r.requester = .test) (hcls : r.cls = .command (.testBegin u.slot))
    (hcab : r.cabinet = u.cabinet) (hcred : r.credited = true) (hu : s.test.subject = some u) (hphase : s.test.phase = .begin)
    (hin : s.test.inHand = some .testBegin) (hb : s.test.beginHanded = false) (hp : s.par.permits = [p])
    (hpid : s.test.permit = some p.id) (hold : p.holder = 0) (hun : s.Unqueued p) (hn : (s.seqOf p.bus).state = .normal)
    (hk : (s.cabinet u.cabinet).isSome)
    (below : ∀ k, s.cabinet u.cabinet = some k → k.track.unreachable = true ∨ min (k.track.failures + 2) 15 < s.floor.unreachableThreshold) :
    exec (.stuckLineTimerExpiry lines after) s = .next
      ((((((s.wentDown lines after).onClc Clc.emptied).failing u.cabinet 2).beginLost u p).onTest fun t =>
        { TestContext.initial with last := { t.last with confirmed := false } }).recompute p.bus) := by
  rw [← beginLostEnded_failing]
  have order := (wentDown_inOrder s lines after).trans hw
  have link : (s.wentDown lines after).clc.link = .down := congrArg Clc.link (wentDown_clc s lines after)
  have drains : Brings 70 [.drainDown] (s.wentDown lines after) _ :=
    .drainsBegin hq.atRest link order hr hcls hcab hcred hu hphase hin hb hp hpid hold hun hn hk below
  exact exec_stuckLine hq hf hl hc (.goesDown hq ha drains) (by unfold settleBound; omega)

/-- What the link's going DOWN leaves but for what waits. -/
theorem wentDown_emptied (s : State) (lines after : LineLevels) : (s.wentDown lines after).onClc Clc.emptied =
    (((s.onClc fun l => { l with recoveryFlag := false, stretchWait := false, stuckTimer := false }).raise
      .linkStuck {} (linesCode lines) 0).onClc fun l =>
        { l with
          link := .down, retryDue := some (s.now + 1), retries := 0, slots := Vector.replicate 4 none, testSlot := none,
          scanQueue := [] }).raise .linkDown {} (linesCode after) 0 := rfl

end Sys2Proof.Machine

namespace Sys2Proof.Machine

/-- Settles O46: recovery raises LINK_STUCK and frees the link, or takes it down and completes in order what waits. -/
theorem recoveryFreesTheLinkOrTakesItDown : Obligations.RecoveryFreesTheLinkOrTakesItDown := by
  intro lines after s hq hf code stuck down ended failed below
  have coded : ∀ l, code l = linesCode l := fun l => (linesCode_eq l).symm
  have fails : ∀ c n x, failed c n x = x.failing c n := fun _ _ _ => rfl
  have emptied : (s.wentDown lines after).onClc Clc.emptied = down := by
    rw [wentDown_emptied]
    dsimp only [down, stuck]
    rw [coded, coded]
  refine ⟨fun hl hc => ⟨fun he ha => ?_, ?_, ?_⟩, ?_⟩
  · rw [coded] at hc ha
    refine (exec_stuckLine hq hf hl hc (.recovers hq he ha) (by decide)).trans (congrArg _ ?_)
    dsimp only [stuck]
    rw [coded]
    rfl
  · intro ha ht turn waiting hslots hscan hlen hout hbelow lost
    rw [coded] at hc ha
    have owned : s.clc.Owned := ⟨fun b r hr => (hslots b r hr).1, fun r hr => (hscan r hr).1⟩
    have waits : ∀ r ∈ waiting, s.Waits r := by
      intro r hr
      rcases List.mem_append.mp hr with h | h
      · obtain ⟨b, -, hb⟩ := List.mem_filterMap.mp h
        obtain ⟨requester, -, inHand⟩ := hslots b r hb
        exact .inl ⟨b, requester, inHand⟩
      · exact .inr (hscan r h)
    have outstanding : scansIn waiting = 0 ∨ scansIn waiting < s.scs.outstanding := by
      rw [show scansIn waiting = s.clc.scanQueue.length from owned.scansIn _]
      exact hout.imp (fun h => congrArg List.length h) id
    have draining := Draining.start hq.atRest lines after waits (owned.distinct _ (busesAfter_nodup _)) hbelow outstanding
    have short : waiting.length ≤ 134 := by
      have slots : ([turn + 1, turn + 2, turn + 3, turn].filterMap fun b => s.clc.slots[b]).length ≤ 4 := List.length_filterMap_le _ _
      rw [List.length_append]
      omega
    refine (exec_goesDown hq hf hl hc ha draining (inOrder_noTest ht) short).trans (congrArg _ ?_)
    rw [emptied]
    refine List.foldl_ext _ _ _ fun y r hr => ?_
    rcases List.mem_append.mp hr with h | h
    · obtain ⟨b, -, hb⟩ := List.mem_filterMap.mp h
      obtain ⟨requester, ⟨command, cls⟩, -⟩ := hslots b r hb
      simp only [lost, State.lostDown, requester, cls, State.trackedDown, LinkRequest.tracked, fails]
      rfl
    · obtain ⟨requester, ⟨n, cls⟩ | ⟨p, cls⟩⟩ := hscan r h
      · simp only [lost, State.lostDown, requester, cls, State.trackedDown, LinkRequest.tracked, fails, Scs.lostDown]
        rfl
      · simp only [lost, State.lostDown, requester, cls, State.trackedDown, LinkRequest.tracked, fails, Scs.lostDown, Scs.missed,
          ActiveEntry.reads, decide_eq_true_eq]
        rfl
  · intro r u p ha hs hsq ht hr hcls hcab hcred hk hbelow hphase hin hb hu hstr hp hpid hold hhold hbus hpc hkind hg hn hw hi subject
    rw [coded] at hc ha
    obtain ⟨steps, hkind⟩ := hkind
    refine (exec_goesDown_begin hq hf hl hc ha (inOrder_test hs ht hsq) hr hcls hcab hcred hu hphase hin hb hp hpid hold
      ⟨by rw [hbus]; exact hw, by rw [hbus]; exact hi⟩ (hn _) hk hbelow).trans (congrArg _ ?_)
    have test : (((s.wentDown lines after).onClc Clc.emptied).failing u.cabinet 2).test = s.test := by
      obtain ⟨v, frame⟩ := failing_frame ((s.wentDown lines after).onClc Clc.emptied) u.cabinet 2
      rw [frame]
      rfl
    rw [beginLost_idled (steps := steps) (by rw [test]; exact hpid) (by rw [test]; exact hhold) hold hbus hpc hkind hg
      (by rw [test]; exact hphase), hbus, test, emptied, fails]
    rfl
  · intro due he hl hd hdue
    exact ⟨fun ha => exec_recoveryRetry_low hq hl hd hdue (coded after ▸ ha),
      fun ha => exec_recoveryRetry_high hq he hl hd hdue (coded after ▸ ha)⟩

end Sys2Proof.Machine

namespace Sys2Proof.Machine

/-! ### The samples of a round and their combination (R65) -/

/-- The record of at least one sample. -/
theorem samples_of_values (v : Int) (rest : List Int) : (v :: rest).foldl Samples.add .initial =
    { count := rest.length + 1, sum := v + rest.sum, greatest := rest.foldl max v, least := rest.foldl min v, first := v } := by
  have further : ∀ (rest : List Int) (m : Samples), 0 < m.count → rest.foldl Samples.add m =
      { count := m.count + rest.length, sum := m.sum + rest.sum, greatest := rest.foldl max m.greatest,
        least := rest.foldl min m.least, first := m.first } := by
    intro rest
    induction rest with
    | nil => intro m _; simp
    | cons x rest ih =>
      intro m hm
      have added : m.add x = { m with
          count := m.count + 1, sum := m.sum + x, greatest := max m.greatest x, least := min m.least x } := if_neg (by omega)
      rw [List.foldl_cons, added, ih _ (by simp)]
      simp only [List.length_cons, List.sum_cons, List.foldl_cons, Samples.mk.injEq, and_true]
      omega
  rw [List.foldl_cons, further rest _ (by simp [Samples.add, Samples.initial])]
  simp [Samples.add, Samples.initial, Nat.add_comm]

/-- The mean is the nearest whole number, a half upward. -/
theorem combine_mean (m : Samples) :
    m.combine .mean = Int.floor (((2 * m.sum + m.count : Int) : ℚ) / ((2 * m.count : Int) : ℚ)) := by
  have quotient := Rat.floor_intCast_div_natCast (2 * m.sum + m.count) (2 * m.count)
  push_cast at quotient ⊢
  exact quotient.symm

theorem store_due {a : ActiveEntry} {k : Nat} (h : a.entry.due k = true) (hc : a.samples.count ≠ 0) (total stale : Nat) :
    a.store k total stale = { a with reading := { a.reading with
      value := a.samples.combine a.entry.combine, round := total, quality := .fresh, held := 0 } } :=
  (if_pos h).trans (if_neg hc)

theorem store_empty {a : ActiveEntry} {k : Nat} (h : a.entry.due k = true) (hc : a.samples.count = 0) (total stale : Nat) :
    a.store k total stale = { a with reading := a.reading.empty stale } :=
  (if_pos h).trans (if_pos hc)

theorem store_skipped {a : ActiveEntry} {k : Nat} (h : ¬ a.entry.due k = true) (total stale : Nat) : a.store k total stale = a :=
  if_neg h

theorem due_iff (e : ScanEntry) (k : Nat) : e.due k = true ↔ k % (e.skip + 1) = 0 := beq_iff_eq

/-- The last outcome and the entry have no part in a round end. -/
theorem store_keeps (a : ActiveEntry) (k total stale : Nat) :
    (a.store k total stale).reading.lastOutcome = a.reading.lastOutcome ∧ (a.store k total stale).entry = a.entry := by
  unfold ActiveEntry.store Reading.empty
  split_ifs <;> exact ⟨rfl, rfl⟩

end Sys2Proof.Machine

namespace Sys2Proof.Machine

/-! ### Work on every string of the floor -/

/-- The strings' places, in the order of work on every string. -/
def stringPlaces : List (Nat × Nat) := cabinetIndices.flatMap fun c => slotIndices.map fun n => (c, n)

theorem stringPlaces_nodup : stringPlaces.Nodup := by decide

theorem forStrings_places (s : State) (f : State → Nat → Nat → State) :
    s.forStrings f = stringPlaces.foldl (fun s p => f s p.1 p.2) s := by
  rw [stringPlaces, List.foldl_flatMap]
  simp only [List.foldl_map]
  rfl

theorem mem_stringPlaces {s : State} {c n : Nat} {u : StringUnit} (h : s.string c n = some u) : (c, n) ∈ stringPlaces := by
  obtain ⟨k, hk, hu⟩ := Option.bind_eq_some_iff.mp h
  obtain ⟨hc, hc'⟩ := State.cabinet_range hk
  obtain ⟨hn, hn'⟩ := Cabinet.slot_range hu
  have slot : n ∈ slotIndices := by
    simp only [slotIndices, List.mem_cons, List.not_mem_nil, or_false]
    omega
  exact List.mem_flatMap.mpr ⟨c, List.mem_range'_1.mpr ⟨hc, by omega⟩, List.mem_map.mpr ⟨n, slot, rfl⟩⟩

theorem ageString_undefined {s : State} {c n : Nat} (h : s.string c n = none) (f : StringRec → AgeRec → AgeWork) :
    s.ageString c n f = s := by
  unfold State.ageString
  cases hk : s.cabinet c with
  | none => rfl
  | some k =>
    rw [State.string, hk] at h
    dsimp only
    rw [show k.slot n = none from h]

theorem ageString_string_same (s : State) (c n : Nat) (f : StringRec → AgeRec → AgeWork) :
    (s.ageString c n f).string c n = (s.string c n).map fun u => { u with age := (f u.defn u.age).age } := by
  cases h : s.string c n with
  | some u => exact ageString_string h f
  | none => rw [ageString_undefined h, h, Option.map_none]

/-- Work on the strings of different places, each by its own. -/
theorem foldl_ageString (work : Nat → Nat → Nat → StringRec → AgeRec → AgeWork) {c n : Nat} (places : List (Nat × Nat)) :
    ∀ s : State, places.Nodup → (places.foldl (fun s p => s.ageString p.1 p.2 (work s.now p.1 p.2)) s).string c n =
      if (c, n) ∈ places then (s.string c n).map fun u => { u with age := (work s.now c n u.defn u.age).age } else s.string c n := by
  induction places with
  | nil => exact fun s _ => rfl
  | cons p places ih =>
    intro s hn
    obtain ⟨hp, hn⟩ := List.nodup_cons.mp hn
    have now := (agedFrom_ageString s p.1 p.2 (work s.now p.1 p.2)).now
    rw [List.foldl_cons, ih _ hn, now]
    by_cases here : (c, n) = p
    · subst here
      rw [if_neg hp, if_pos List.mem_cons_self, ageString_string_same]
    · have other := ageString_string_other (s := s) (c := c) (n := n) (i := p.1) (j := p.2)
        (fun h => here (Prod.ext h.1.symm h.2.symm)) (work s.now p.1 p.2)
      rw [other]
      simp [here]

/-- Work on every string leaves each string what its own work leaves. -/
theorem forStrings_string (s : State) (work : Nat → Nat → Nat → StringRec → AgeRec → AgeWork) (c n : Nat) :
    (s.forStrings fun s c n => s.ageString c n (work s.now c n)).string c n =
      (s.string c n).map fun u => { u with age := (work s.now c n u.defn u.age).age } := by
  rw [forStrings_places, foldl_ageString work stringPlaces s stringPlaces_nodup]
  cases h : s.string c n with
  | none => exact ite_self _
  | some u => rw [if_pos (mem_stringPlaces h)]

/-- A cabinet's settings and tracking record. -/
def Cabinet.ofTracker (k : Cabinet) : CabinetRec × Track := (k.defn, k.track)

/-- Work on strings leaves the cabinets' settings and tracking records. -/
theorem ageString_ofTracker (s : State) (c n m : Nat) (f : StringRec → AgeRec → AgeWork) :
    ((s.ageString c n f).cabinet m).map Cabinet.ofTracker = (s.cabinet m).map Cabinet.ofTracker := by
  by_cases hm : m = c
  · subst hm
    cases h : s.string m n with
    | none => rw [ageString_undefined h]
    | some u =>
      obtain ⟨k, hk, hu⟩ := Option.bind_eq_some_iff.mp h
      rw [ageString_cabinet hk hu, hk]
      simp [Cabinet.ofTracker]
  · rw [ageString_cabinet_other hm]

theorem forStrings_ofTracker (s : State) (work : State → Nat → Nat → StringRec → AgeRec → AgeWork) (m : Nat) :
    ((s.forStrings fun s c n => s.ageString c n (work s c n)).cabinet m).map Cabinet.ofTracker =
      (s.cabinet m).map Cabinet.ofTracker :=
  forStrings_keeps (fun t => (t.cabinet m).map Cabinet.ofTracker = (s.cabinet m).map Cabinet.ofTracker)
    (fun t c n h => (ageString_ofTracker t c n m _).trans h) rfl

/-! ### Every bus recomputed (R120) -/

/-- Bus `b` with its strict figures and security computed anew. -/
def State.refigured (s : State) (b : Bus) : Option BusUnit :=
  (s.bus b).map fun u =>
    { u with fig := u.fig.update (s.strict b u.defn) (s.securityOf b u.defn (s.strict b u.defn)) }

theorem bus_recompute_other {s : State} {a b : Bus} (h : a ≠ b) : (s.recompute a).bus b = s.bus b := by
  have other : a.val ≠ b.val := fun e => h (Fin.ext e)
  unfold State.recompute
  split
  · rfl
  · rw [State.bus, raiseBus_buses]
    simp [State.setBus, State.bus, other]

theorem metAt_bus_same {s : State} {b : Bus} (h : (s.bus b).isSome → s.triggers[b] = true) : (s.metAt b).bus b = s.refigured b := by
  cases hu : s.bus b with
  | none =>
    have undefined : ∀ x : State, x.bus b = none → x.recompute b = x := fun x hx => by rw [State.recompute, hx]
    unfold State.metAt State.refigured
    rw [undefined (s.onTriggers fun v => v.set b false) hu, hu]
    split <;> exact hu
  | some u =>
    have unmet : s.metAt b = (s.onTriggers fun v => v.set b false).recompute b := if_pos (h (by rw [hu]; rfl))
    rw [unmet, recompute_bus (s := s.onTriggers fun v => v.set b false) hu, State.refigured, hu]
    rfl

/-- What the meeting at one bus leaves of another. -/
theorem metAt_other {s : State} {a b : Bus} (h : a ≠ b) :
    (s.metAt a).bus b = s.bus b ∧ (s.metAt a).triggers[b] = s.triggers[b] ∧ (s.metAt a).refigured b = s.refigured b := by
  have bus : (s.metAt a).bus b = s.bus b := by
    unfold State.metAt
    split
    · exact bus_recompute_other (s := s.onTriggers fun v => v.set a false) h
    · rfl
  refine ⟨bus, ?_, ?_⟩
  · have other : a.val ≠ b.val := fun e => h (Fin.ext e)
    unfold State.metAt
    split
    · simp [State.recompute_triggers, State.onTriggers, other]
    · rfl
  · unfold State.metAt at bus ⊢
    split
    next unmet =>
      rw [if_pos unmet] at bus
      obtain ⟨v, q, frame⟩ := recompute_frame (s.onTriggers fun v => v.set a false) a
      rw [frame] at bus ⊢
      unfold State.refigured State.securityOf State.known
      rw [bus]
      rfl
    next => rfl

theorem foldl_metAt_kept {b : Bus} (l : List Bus) : ∀ s : State, b ∉ l → (l.foldl State.metAt s).bus b = s.bus b := by
  induction l with
  | nil => exact fun s _ => rfl
  | cons a l ih =>
    intro s hb
    obtain ⟨ha, hl⟩ := not_or.mp fun h => hb (List.mem_cons.mpr h)
    rw [List.foldl_cons, ih _ hl, (metAt_other (Ne.symm ha)).1]

theorem foldl_metAt_bus {b : Bus} (l : List Bus) : ∀ s : State, l.Nodup → ((s.bus b).isSome → s.triggers[b] = true) →
    (l.foldl State.metAt s).bus b = if b ∈ l then s.refigured b else s.bus b := by
  induction l with
  | nil => exact fun s _ _ => rfl
  | cons a l ih =>
    intro s hn h
    obtain ⟨ha, hn⟩ := List.nodup_cons.mp hn
    rw [List.foldl_cons]
    by_cases here : a = b
    · subst here
      rw [foldl_metAt_kept l _ ha, if_pos List.mem_cons_self, metAt_bus_same h]
    · obtain ⟨bus, trigger, figures⟩ := metAt_other (s := s) here
      rw [ih _ hn (by rw [bus, trigger]; exact h), bus, figures]
      simp [Ne.symm here]

/-- Where every defined bus has its trigger, each has its figures anew. -/
theorem met_bus {s : State} {b : Bus} (h : (s.bus b).isSome → s.triggers[b] = true) : s.met.bus b = s.refigured b := by
  have listed : ∀ x : Bus, x ∈ busList := by decide
  rw [State.met, foldl_metAt_bus busList s (by decide) h, if_pos (listed b)]

end Sys2Proof.Machine

namespace Sys2Proof.Machine

/-! ### The round end (R56, R62, R67) -/

/-- The scanner's part of a round end: readings stored, the pending copy applied, the counts moved on. -/
def Scs.roundEnded (c : Scs) (stale now : Nat) : Scs :=
  { c with
    active := carryOver (c.active.map fun e => e.store c.round ((c.totalRounds + 1) % 2 ^ 32) stale) c.pendingList,
    timing := c.pendingTiming, round := (c.round + 1) % 2 ^ 32, passCount := 0, totalRounds := (c.totalRounds + 1) % 2 ^ 32,
    overrunSeen := false,
    nextTick := if c.pendingTiming.period = c.timing.period then c.nextTick
      else c.lastTick.map fun t => max (t + c.pendingTiming.period) now }

/-- Every defined bus has its first round seen. -/
def State.roundSeen (s : State) : State :=
  s.onBuses fun v => v.map fun o => o.map fun u => { u with fig := { u.fig with roundSeen := true } }

/-- The scanner's part is done. -/
def State.scanned (s : State) : State := s.onScs fun c => c.roundEnded s.floor.staleRounds s.now

/-- A round end but for the triggers it hands on. -/
def State.roundWorked (s : State) : State := (s.scanned.ageingRoundEnd s.scanned.roundFresh).roundSeen

theorem roundEnd_eq (s : State) : s.roundEnd = s.roundWorked.triggerAll.push [.meet] := rfl

theorem carryOver_eq (old : List ActiveEntry) (list : List ScanEntry) :
    carryOver old list = list.map fun e =>
      { entry := e,
        reading := ((old.find? fun a => a.entry.cabinet == e.cabinet && a.entry.point == e.point).map
          fun a => a.reading).getD .initial,
        samples := .initial } := by
  unfold carryOver
  refine List.map_congr_left fun e _ => ?_
  dsimp only [ScanEntry.samePair]
  cases old.find? fun a => a.entry.cabinet == e.cabinet && a.entry.point == e.point <;> rfl

theorem roundFresh_eq (s : State) (c : Nat) (p : Point) :
    s.roundFresh c p = (s.scs.active.find? fun e => e.entry.cabinet == c && e.entry.point == p).bind fun e =>
      if e.reading.quality = .fresh ∧ e.reading.round = s.scs.totalRounds then some e.reading.value else none := by
  unfold State.roundFresh
  cases s.scs.active.find? fun e => e.entry.cabinet == c && e.entry.point == p <;> rfl

/-- Every defined bus has its trigger. -/
theorem triggerAll_frame (s : State) :
    ∃ v, s.triggerAll = { s with triggers := v } ∧ ∀ b : Bus, (s.bus b).isSome → v[b] = true := by
  have fold : ∀ (l : List Bus) (x : State), ∃ v, l.foldl (fun x b => if (x.bus b).isSome then x.trigger b else x) x =
      { x with triggers := v } ∧ ∀ b : Bus, (x.bus b).isSome → b ∈ l ∨ x.triggers[b] = true → v[b] = true := by
    intro l
    induction l with
    | nil => exact fun x => ⟨x.triggers, rfl, fun b _ h => h.resolve_left List.not_mem_nil⟩
    | cons a l ih =>
      intro x
      rw [List.foldl_cons]
      by_cases ha : (x.bus a).isSome
      · rw [if_pos ha]
        obtain ⟨v, frame, set⟩ := ih (x.trigger a)
        refine ⟨v, frame, fun b hb h => set b hb ?_⟩
        by_cases hab : b = a
        · subst hab
          simp [State.trigger, State.onTriggers]
        · have other : a.val ≠ b.val := fun e => hab (Fin.ext e.symm)
          simpa [State.trigger, State.onTriggers, hab, other] using h
      · rw [if_neg ha]
        obtain ⟨v, frame, set⟩ := ih x
        refine ⟨v, frame, fun b hb h => set b hb ?_⟩
        have other : b ≠ a := fun e => ha (e ▸ hb)
        simpa [other] using h
  have listed : ∀ b : Bus, b ∈ busList := by decide
  obtain ⟨v, frame, set⟩ := fold busList s
  exact ⟨v, frame, fun b hb => set b hb (.inl (listed b))⟩

/-- The poll that is the last of its pass. -/
theorem scanFinal_poll_last {s : State} {r : LinkRequest} {p : Point} (hc : r.counted = true) (hp : r.cls = .poll p)
    {o : TxOutcome} {echo : Nat} {value : BitVec 32} {x : Scs} (hj : s.scs.judge r.cabinet p o echo value = x)
    (ho : x.outstanding = 1) : s.scanFinal r o echo value = (s.onScs fun _ => { x with outstanding := 0 }).passEnd := by
  have last : ((s.onScs fun y => y.judge r.cabinet p o echo value).onScs fun y => { y with outstanding := y.outstanding - 1 }) =
      s.onScs fun _ => { x with outstanding := 0 } := by
    simp [State.onScs, hj, ho]
  unfold State.scanFinal
  rw [if_pos hc, hp]
  dsimp only
  rw [last]
  exact if_pos rfl

/-- The last pass of a round. -/
theorem passEnd_last {s : State} (h : s.scs.timing.average ≤ s.scs.passCount + 1) :
    s.passEnd = (s.onScs fun x => { x with passCount := x.passCount + 1 }).roundEnd := if_pos h

end Sys2Proof.Machine

namespace Sys2Proof.Machine

/-! ### What a round end leaves -/

theorem agedFrom_ageingRoundEnd (s : State) (item : Nat → Point → Option Int) : s.AgedFrom (s.ageingRoundEnd item) :=
  forStrings_keeps (s.AgedFrom ·) (fun _ c n h => h.trans (agedFrom_ageString _ c n _)) (.refl s)

theorem ageingRoundEnd_string (s : State) (item : Nat → Point → Option Int) (c n : Nat) :
    (s.ageingRoundEnd item).string c n = (s.string c n).map fun u =>
      { u with age := (roundWork s.now (item c (.stringTemp n)) (item c (.stringCharge n)) (item c (.stringVoltage n))
        (item c (.stringCurrent n)) u.defn u.age).age } :=
  forStrings_string s (fun now c n => roundWork now (item c (.stringTemp n)) (item c (.stringCharge n)) (item c (.stringVoltage n))
    (item c (.stringCurrent n))) c n

theorem ageingRoundEnd_ofTracker (s : State) (item : Nat → Point → Option Int) (c : Nat) :
    ((s.ageingRoundEnd item).cabinet c).map Cabinet.ofTracker = (s.cabinet c).map Cabinet.ofTracker :=
  forStrings_ofTracker s (fun x c n => roundWork x.now (item c (.stringTemp n)) (item c (.stringCharge n))
    (item c (.stringVoltage n)) (item c (.stringCurrent n))) c

/-- What a round end's own work leaves. -/
structure RoundWorked (s x : State) : Prop where
  frame : ∃ v u q r, x =
    { s with scs := s.scs.roundEnded s.floor.staleRounds s.now, cabinets := v, buses := u, notices := q, triggers := r }
  string : ∀ c n, x.string c n = (s.string c n).map fun u =>
    { u with age := (roundWork s.now (s.scanned.roundFresh c (.stringTemp n)) (s.scanned.roundFresh c (.stringCharge n))
      (s.scanned.roundFresh c (.stringVoltage n)) (s.scanned.roundFresh c (.stringCurrent n)) u.defn u.age).age }
  tracker : ∀ c, (x.cabinet c).map Cabinet.ofTracker = (s.cabinet c).map Cabinet.ofTracker
  bus : ∀ b, x.bus b = (s.bus b).map fun u => { u with fig := { u.fig with roundSeen := true } }

theorem roundWorked (s : State) : RoundWorked s s.roundWorked := by
  have string := ageingRoundEnd_string s.scanned s.scanned.roundFresh
  have tracker := ageingRoundEnd_ofTracker s.scanned s.scanned.roundFresh
  obtain ⟨v, q, r, frame⟩ := agedFrom_ageingRoundEnd s.scanned s.scanned.roundFresh
  have bus : ∀ b, (s.scanned.ageingRoundEnd s.scanned.roundFresh).bus b = s.bus b := fun b => by rw [frame]; rfl
  have scanned : s.scanned = { s with scs := s.scs.roundEnded s.floor.staleRounds s.now } := rfl
  unfold State.roundWorked
  generalize s.scanned.ageingRoundEnd s.scanned.roundFresh = x at *
  refine ⟨?_, string, tracker, fun b => ?_⟩
  · rw [frame, scanned]
    exact ⟨_, _, _, _, rfl⟩
  · rw [← bus]
    simp [State.roundSeen, State.bus, State.onBuses]

/-- The strict figures and the security of a bus of a NORMAL sequencer, a round seen (R114 to R118). -/
def State.seenFigures (s : State) (b : Bus) (d : BusRec) : BusFigures :=
  let f := s.strict b d
  { load := f.load, uncertain := decide (0 < f.uncertainCount), uncertainCount := f.uncertainCount, online := f.online,
    capacity := f.capacity, required := f.required, spare := f.spare, margin := f.margin, energy := f.energy,
    autonomy := f.autonomy, roundSeen := true,
    security := if ∃ y ∈ s.cabinetsOf b, y.2.track.state = .unknown then .unknown
      else if f.margin < 0 ∨ (0 < d.minAutonomy ∧ f.autonomy < d.minAutonomy) then .deficit
      else .secure }

theorem refigured_seen {s : State} {b : Bus} {u : BusUnit} (hu : s.bus b = some { u with fig := { u.fig with roundSeen := true } })
    (hn : (s.seqOf b).state = .normal) : s.refigured b = some { u with fig := s.seenFigures b u.defn } := by
  have judged : s.securityOf b u.defn (s.strict b u.defn) = (s.seenFigures b u.defn).security := by
    have unknown : (true = false ∨ ∃ y ∈ s.cabinetsOf b, y.2.track.state = .unknown) ↔
        ∃ y ∈ s.cabinetsOf b, y.2.track.state = .unknown := by simp
    refine (securityOf_eq hu u.defn (s.strict b u.defn)).trans (if_congr unknown rfl ?_)
    rw [hn]
    exact if_neg (by simp)
  rw [State.refigured, hu, Option.map_some]
  dsimp only
  rw [judged]
  rfl

/-- The part `t` that a round end leaves of `s`, every trigger met. -/
structure RoundEnded (s t : State) : Prop where
  frame : ∃ v u q r, t =
    { s with scs := s.scs.roundEnded s.floor.staleRounds s.now, cabinets := v, buses := u, notices := q, triggers := r }
  string : ∀ c n, t.string c n = (s.string c n).map fun u =>
    { u with age := (roundWork s.now (s.scanned.roundFresh c (.stringTemp n)) (s.scanned.roundFresh c (.stringCharge n))
      (s.scanned.roundFresh c (.stringVoltage n)) (s.scanned.roundFresh c (.stringCurrent n)) u.defn u.age).age }
  tracker : ∀ c, (t.cabinet c).map Cabinet.ofTracker = (s.cabinet c).map Cabinet.ofTracker
  bus : ∀ b, t.bus b = (s.bus b).map fun u => { u with fig := t.seenFigures b u.defn }

theorem roundEnded_met {s : State} (hn : s.NoTransfers) : RoundEnded s s.roundWorked.triggerAll.met := by
  obtain ⟨⟨v, u, q, w, frame⟩, string, tracker, bus⟩ := roundWorked s
  generalize s.roundWorked = x at *
  obtain ⟨r, triggered, set⟩ := triggerAll_frame x
  have met : ∀ b, x.triggerAll.met.bus b = x.triggerAll.refigured b := fun b => met_bus (by rw [triggered]; exact set b)
  obtain ⟨u', q', r', met'⟩ := met_frame x.triggerAll
  rw [triggered] at met met'
  rw [triggered]
  generalize ({ x with triggers := r } : State).met = t at *
  refine ⟨?_, fun c n => ?_, fun c => ?_, fun b => ?_⟩
  · rw [met', frame]
    exact ⟨_, _, _, _, rfl⟩
  · rw [met']
    exact string c n
  · rw [met']
    exact tracker c
  · have figures : ∀ d, t.seenFigures b d = ({ x with triggers := r } : State).seenFigures b d := fun d => by rw [met']; rfl
    have normal : (({ x with triggers := r } : State).seqOf b).state = .normal := by rw [frame]; exact hn.2 b
    rw [met]
    simp only [figures]
    cases hu : s.bus b with
    | none =>
      rw [State.refigured, show ({ x with triggers := r } : State).bus b = none from (bus b).trans (by rw [hu]; rfl)]
      rfl
    | some y => exact refigured_seen ((bus b).trans (by rw [hu]; rfl)) normal

/-- A signal that ends a round, and the meeting of every trigger. -/
theorem Brings.roundEnds {task : Task} {u s : State} (hu : u.agenda = []) (hs : s.AtRest) (hn : s.NoTransfers)
    (hd : doTask task u = s.roundEnd) : Brings 42 [task] u s.roundWorked.triggerAll.met := by
  rw [roundEnd_eq] at hd
  obtain ⟨⟨v, b, q, w, frame⟩, -, -, -⟩ := roundWorked s
  generalize s.roundWorked = x at *
  obtain ⟨r, triggered, -⟩ := triggerAll_frame x
  have ended : x.triggerAll.agenda = [] ∧ x.triggerAll.hold = 0 ∧ x.triggerAll.par = s.par := by
    rw [triggered, frame]
    exact ⟨hs.1, hs.2.1, rfl⟩
  generalize x.triggerAll = y at *
  obtain ⟨agenda, hold, par⟩ := ended
  have still : y.NoTransfers := ⟨by rw [par]; exact hn.1, fun b => by rw [State.seqOf, par]; exact hn.2 b⟩
  exact .task hu agenda hd (.meets agenda hold still)

end Sys2Proof.Machine

namespace Sys2Proof.Machine

/-! ### The POLL that ends a round -/

/-- The failure of a cabinet that is told below the threshold. -/
def State.missedOnce (s : State) (c : Nat) (k : Cabinet) : State := s.setCabinet c (some { k with track := k.track.failed })

theorem missedOnce_frame (s : State) (c : Nat) (k : Cabinet) : ∃ v, s.missedOnce c k = { s with cabinets := v } := by
  obtain ⟨g, stored⟩ := s.setCabinet_onCabinets c (some { k with track := k.track.failed })
  exact ⟨_, stored⟩

theorem missedOnce_string {s : State} {c : Nat} {k : Cabinet} (hk : s.cabinet c = some k) (x n : Nat) :
    (s.missedOnce c k).string x n = s.string x n := by
  obtain ⟨h1, h24⟩ := State.cabinet_range hk
  unfold State.string State.missedOnce
  by_cases h : x = c
  · rw [h, State.cabinet_setCabinet_same s h1 h24, hk]
    rfl
  · rw [State.cabinet_setCabinet_other s h]

theorem missedOnce_ofTracker {s : State} {c : Nat} {k : Cabinet} (hk : s.cabinet c = some k) (x : Nat) :
    ((s.missedOnce c k).cabinet x).map Cabinet.ofTracker =
      (s.cabinet x).map fun y => (y.defn, if x = c then y.track.failed else y.track) := by
  obtain ⟨h1, h24⟩ := State.cabinet_range hk
  unfold State.missedOnce
  by_cases h : x = c
  · rw [h, State.cabinet_setCabinet_same s h1 h24, hk]
    simp [Cabinet.ofTracker]
  · rw [State.cabinet_setCabinet_other s h]
    simp only [if_neg h]
    rfl

/-- The scanner as the last poll of the last pass has ended without a sample, before the round end. -/
def Scs.lastMissed (x : Scs) (c : Nat) (p : Point) : Scs :=
  { x.missed c p .noAnswer with outstanding := 0, passCount := x.passCount + 1 }

/-- The unanswered POLL that is the last of the round's last pass, on a link where nothing waits. -/
theorem exec_poll_roundEnds {s : State} {f : InFlight} {p : Point} {c : Nat} {k : Cabinet} (hq : s.Quiet) (he : s.clc.Empty)
    (hl : s.clc.link = .own) (hf : s.clc.inFlight = some f) (hs : f.request.requester = .scan) (hp : f.request.cls = .poll p)
    (hc : f.request.cabinet = c) (hcount : f.request.counted = true) (hcred : f.request.credited = true) (hk : s.cabinet c = some k)
    (hn : s.NoTransfers) (below : k.track.unreachable = true ∨ min (k.track.failures + 1) 15 < s.floor.unreachableThreshold)
    (ho : s.scs.outstanding = 1) (ha : s.scs.timing.average ≤ s.scs.passCount + 1) :
    ∃ t, exec (.pollComplete .notAcknowledged) s = .next (t.idled false) ∧
      RoundEnded ((s.landed.missedOnce c k).onScs (·.lastMissed c p)) t ∧ t.outer = s.outer := by
  subst hc
  have tracks := Brings.failure (s := s.landed) (o := .noAnswer) hq.1.2 hk below rfl false none
  rw [← State.missedOnce] at tracks
  have scs : (s.landed.missedOnce f.request.cabinet k).scs = s.scs := State.setCabinet_scs ..
  have par : (s.landed.missedOnce f.request.cabinet k).par = s.par := State.setCabinet_par ..
  have clc : (s.landed.missedOnce f.request.cabinet k).clc = s.landed.clc := State.setCabinet_clc ..
  have rest : (s.landed.missedOnce f.request.cabinet k).AtRest := State.AtRest.setCabinet (s := s.landed) hq.atRest _ _
  generalize s.landed.missedOnce f.request.cabinet k = x at *
  have final : x.scanFinal f.request .noAnswer 0 0#32 = (x.onScs (·.lastMissed f.request.cabinet p)).roundEnd := by
    have judged := judge_missed (x := x.scs) (o := .noAnswer) (echo := 0) (by nofun) f.request.cabinet p 0#32
    rw [scanFinal_poll_last hcount hp judged (by rw [scs]; exact ho), passEnd_last (by rw [State.onScs_scs, scs]; exact ha)]
    rfl
  have still : (x.onScs (·.lastMissed f.request.cabinet p)).NoTransfers :=
    ⟨by rw [State.onScs_par, par]; exact hn.1, fun b => by rw [State.seqOf, State.onScs_par, par]; exact hn.2 b⟩
  have ends := tracks.append (Brings.roundEnds (task := .scanFinal f.request .noAnswer 0 0#32) rest.1
    (s := x.onScs (·.lastMissed f.request.cabinet p)) rest still final)
  have done := roundEnded_met still
  have handed : f.request.handed (.noAnswer, .none) =
      [.trackAttempt f.request.cabinet .noAnswer false none] ++ [.scanFinal f.request .noAnswer 0 0#32] :=
    handed_poll hs hp hcred (.noAnswer, .none)
  rw [← handed] at ends
  generalize (x.onScs (·.lastMissed f.request.cabinet p)).roundWorked.triggerAll.met = t at *
  have link : t.clc = s.landed.clc := by
    obtain ⟨v, u, q, r, frame⟩ := done.frame
    rw [frame]
    exact clc
  rw [exec_pollComplete hq.1 hf (by rw [hp]; rfl)]
  refine ⟨t, run_finish_empty (x := (.noAnswer, .none)) hq hf (by simp [LinkRequest.again, LinkRequest.retried, hp]) ends (by decide)
    ?_ (by rw [link]; exact he), done,
    Brings.outer (s := s.landed) hq.1.2 ends (by decide)⟩
  rw [link, show s.landed.clc.link = s.clc.link from rfl, hl]
  nofun

end Sys2Proof.Machine

namespace Sys2Proof.Machine

/-- The value of an entry that is due, over its samples (R65). -/
theorem store_combined {a : ActiveEntry} {v : Int} {rest : List Int} {k : Nat} (hd : a.entry.due k = true)
    (hs : a.samples = (v :: rest).foldl Samples.add .initial) (total stale : Nat) :
    (a.store k total stale).reading.value = match a.entry.combine with
      | .mean => Int.floor (((2 * (v :: rest).sum + (v :: rest).length : Int) : ℚ) / ((2 * (v :: rest).length : Int) : ℚ))
      | .max => rest.foldl max v
      | .min => rest.foldl min v
      | .first => v := by
  rw [samples_of_values] at hs
  have count : a.samples.count ≠ 0 := by
    rw [hs]
    exact Nat.succ_ne_zero _
  rw [store_due hd count]
  dsimp only
  cases a.entry.combine with
  | mean =>
    rw [combine_mean, hs]
    rfl
  | max => rw [hs]; rfl
  | min => rw [hs]; rfl
  | first => rw [hs]; rfl

/-- The record of an entry that is due and has no sample (R66). -/
theorem store_missed {a : ActiveEntry} {k : Nat} (hd : a.entry.due k = true) (hc : a.samples.count = 0)
    (hq : a.reading.quality ≠ .none) (total stale : Nat) :
    (a.store k total stale).reading = { a.reading with
      held := min (a.reading.held + 1) 255,
      quality := if a.reading.quality = .stale ∨ stale ≤ min (a.reading.held + 1) 255 then .stale else .held } := by
  rw [store_empty hd hc]
  exact if_neg hq

/-- Settles O57: samples are combined and stored entry by entry, and the last poll of the last pass ends the round. -/
theorem roundEndStoresTheReadings : Obligations.RoundEndStoresTheReadings := by
  refine ⟨⟨fun v rest a k total stale hd hs => ?_, fun p x => ?_⟩, fun a k total stale => ?_, ?_⟩
  · exact store_combined hd hs total stale
  · cases p <;> rfl
  · obtain ⟨outcome, entry⟩ := store_keeps a k total stale
    have due := due_iff a.entry k
    refine ⟨outcome, entry, fun h => ?_, fun h hc => ?_, fun h hc hq => ?_, fun h hc hq => ?_⟩
    · rw [store_skipped fun d => h (due.mp d)]
    · rw [store_due (due.mpr h) (by omega)]
      exact ⟨rfl, rfl, rfl, rfl⟩
    · rw [store_empty (due.mpr h) hc]
      exact if_pos hq
    · rw [store_missed (due.mpr h) hc hq]
      exact ⟨rfl, rfl, rfl, rfl⟩
  · intro f p c k s hq he hl hf hs hp hc hcount hcred hk hn below ho ha asked total stored old timing scs fresh
    obtain ⟨t, ended, ⟨frame, string, tracker, bus⟩, outer⟩ :=
      exec_poll_roundEnds hq he hl hf hs hp hc hcount hcred hk hn below ho ha
    obtain ⟨v, u, q, r, frame⟩ := frame
    obtain ⟨w, missed⟩ := missedOnce_frame s.landed c k
    have strings := missedOnce_string (s := s.landed) hk
    have trackers := missedOnce_ofTracker (s := s.landed) hk
    generalize s.landed.missedOnce c k = y at *
    have scanner : y.scs = s.scs := by rw [missed]; rfl
    have floor : y.floor = s.floor := by rw [missed]; rfl
    have now : y.now = s.now := by rw [missed]; rfl
    have buses : ∀ b, y.bus b = s.bus b := fun b => by rw [missed]; rfl
    have rounded : (y.scs.lastMissed c p).roundEnded s.floor.staleRounds s.now = scs := by
      have reads : ∀ e : ActiveEntry, e.reads c p = decide (asked e.entry) := fun e => rfl
      rw [scanner]
      unfold Scs.roundEnded Scs.lastMissed Scs.missed
      simp only [carryOver_eq, reads, decide_eq_true_eq]
      rfl
    have taken : ∀ c' p', (y.onScs (·.lastMissed c p)).scanned.roundFresh c' p' = fresh c' p' := by
      have scanned : (y.onScs (·.lastMissed c p)).scanned.scs = scs := by
        rw [← rounded, ← floor, ← now]
        rfl
      intro c' p'
      rw [roundFresh_eq, scanned]
    have time : (y.onScs (·.lastMissed c p)).now = s.now := now
    simp only [taken, time] at string
    have missed' : y.onScs (·.lastMissed c p) = { s.landed with cabinets := w, scs := s.scs.lastMissed c p } := by rw [missed]; rfl
    rw [missed'] at frame
    refine ⟨t.idled false, ended, ?_, ?_, fun x => (tracker x).trans (trackers x), fun x slot => ?_, fun b => ?_, ?_⟩
    · rw [frame]
      rw [scanner] at rounded
      exact rounded
    · rw [frame]
      rfl
    · exact (string x slot).trans (congrArg _ (strings x slot))
    · exact (bus b).trans (congrArg _ (buses b))
    · rw [frame] at outer ⊢
      exact ⟨rfl, rfl, rfl, rfl, rfl, outer⟩

end Sys2Proof.Machine

namespace Sys2Proof.Machine

/-! ### What a read answers (R174) -/

/-- A field of one octet is the octet at its place. -/
theorem field_one (l : List Byte) (i : Nat) : field l i 1 = (l.getD i 0#8).toNat := by
  rw [field]
  cases h : l.drop i with
  | nil => rw [List.getD_eq_default _ _ (List.drop_eq_nil_iff.mp h)]; rfl
  | cons b rest =>
    have place : l[i]? = some b := by rw [← List.head?_drop, h]; rfl
    simp [quantity, List.getD, place]

/-- The number of records carried, and OK_CLAMPED where what fits alone decided it. -/
theorem readNumber_eq (wanted there fit : Nat) :
    readNumber wanted there fit =
      (min wanted (min there fit), if fit < there ∧ fit < wanted then .okClamped else .ok) := by
  unfold readNumber
  refine Prod.ext rfl ?_
  by_cases h : fit < there ∧ fit < wanted
  · exact (if_neg (by omega)).trans (if_pos h).symm
  · exact (if_pos (by omega)).trans (if_neg h).symm

theorem readAnswer_eq {α : Type} (s : State) (items : List α) (wanted fit : Nat) (record : α → List Byte) :
    readAnswer s items wanted fit record = (s,
      { status := if fit < items.length ∧ fit < wanted then .okClamped else .ok,
        rest := octets 1 (min wanted (min items.length fit)) ++
          (items.take (min wanted (min items.length fit))).flatMap record }) := by
  unfold readAnswer
  rw [readNumber_eq]

/-- A read of a ready part: what it answers is sent, and nothing is left to be handed on. -/
theorem request_reads {s t : State} (h : s.Ready) {k : RequestKind} {tag : Byte} {body : List Byte} {r : Reply}
    (hk : handleKind k s body = (t, r)) (hb : body.length ≤ 120) (ht : t.agenda = s.agenda) {st : Status} (hst : r.status = st)
    {rest : List Byte} (hr : r.rest = rest) : request k tag body s = .next (t.answered (kindCode k) tag st rest) := by
  rw [request_done h hb hk (ht.trans h.1.1.2), hst, hr]

/-! ### The items of the reads from a first one on -/

theorem busList_drop (b : Bus) : busList.drop b = (List.finRange 4).drop b := by
  revert b
  decide

/-- Cabinets from a first one on, by their distance from it. -/
theorem cabinetIndices_from {c n : Nat} (h1 : 1 ≤ c) (hn : n ≤ 25 - c) :
    (cabinetIndices.drop (c - 1)).take n = (List.range n).map (c + ·) := by
  rw [cabinetIndices, List.drop_range', List.take_range'_of_length_ge (by omega), List.range'_eq_map_range]
  rw [show 1 + (c - 1) * 1 = c by omega]

/-- The slots of the floor by their number. -/
theorem slotPairs_eq : slotPairs = (List.range 96).map fun i => (i / 4 + 1, i % 4 + 1) := by decide

theorem slotPairs_from {first n : Nat} (hn : n ≤ 96 - first) :
    (slotPairs.drop first).take n = (List.range n).map fun i => ((first + i) / 4 + 1, (first + i) % 4 + 1) := by
  rw [slotPairs_eq, ← List.map_drop, ← List.map_take, List.range_eq_range', List.drop_range',
    List.take_range'_of_length_ge (by omega), List.range'_eq_map_range, List.map_map, Nat.zero_add, Nat.mul_one]
  rfl

theorem visitSlots_from {slot n : Nat} (hs : slot ≤ 7) (hn : n ≤ 1) :
    (visitSlotIndices.drop slot).take n = if n = 1 then [slot] else [] := by
  rw [visitSlotIndices, List.range_eq_range', List.drop_range', List.take_range'_of_length_ge (by omega)]
  rcases Nat.le_one_iff_eq_zero_or_eq_one.mp hn with rfl | rfl <;> simp

/-- The elements of a list from a first position on, each with its position. -/
theorem fromPosition_eq {α : Type} (l : List α) (first : Nat) : fromPosition l first = (l.drop first).zipIdx first := by
  refine List.ext_getElem (by simp [fromPosition]) fun i h1 h2 => ?_
  simp [fromPosition]

theorem take_zipIdx {α : Type} (l : List α) (first n : Nat) : (l.zipIdx first).take n = (l.take n).zipIdx first := by
  refine List.ext_getElem (by simp) fun i h1 h2 => ?_
  simp

theorem fromPosition_take {α : Type} (l : List α) (first n : Nat) :
    (fromPosition l first).take n = ((l.drop first).take n).zipIdx first := by
  rw [fromPosition_eq, take_zipIdx]

theorem fromPosition_length {α : Type} (l : List α) (first : Nat) : (fromPosition l first).length = l.length - first := by
  rw [fromPosition_eq, List.length_zipIdx, List.length_drop]

/-- Permits in ascending order of id (R148). -/
theorem foldr_insertPermit (l : List Permit) : l.foldr insertPermit [] = l.insertionSort fun p q => p.id ≤ q.id := by
  have insert : ∀ (p : Permit) (m : List Permit), insertPermit p m = m.orderedInsert (fun p q => p.id ≤ q.id) p := by
    intro p m
    induction m with
    | nil => rfl
    | cons q rest ih => simp only [insertPermit, List.orderedInsert, ih]
  rw [List.insertionSort, funext fun p => funext (insert p)]

/-! ### The reads of a body (R51, R69, R96, R97, R126, R148, R165) -/

theorem toNat_octet {n : Nat} (h : n ≤ 255) : (BitVec.ofNat 8 n).toNat = n := by
  rw [BitVec.toNat_ofNat]
  omega

theorem handleReadBus_from (s : State) (b : Bus) (wanted : Byte) :
    handleReadBus s [BitVec.ofNat 8 b.val, wanted] = readAnswer s (busList.drop b) wanted.toNat 4 s.busRecord := by
  have first : field [BitVec.ofNat 8 b.val, wanted] 0 1 = b.val := (field_one _ _).trans (toNat_octet (by omega))
  have count : field [BitVec.ofNat 8 b.val, wanted] 1 1 = wanted.toNat := field_one _ _
  unfold handleReadBus
  simp only [first, count]
  exact checked_pass (by simp; omega)

theorem handleReadCabinets_from (s : State) {c : Nat} (h1 : 1 ≤ c) (h24 : c ≤ 24) (wanted : Byte) :
    handleReadCabinets s [BitVec.ofNat 8 c, wanted] =
      readAnswer s (cabinetIndices.drop (c - 1)) wanted.toNat 4 s.cabinetRecord := by
  have first : field [BitVec.ofNat 8 c, wanted] 0 1 = c := (field_one _ _).trans (toNat_octet (by omega))
  have count : field [BitVec.ofNat 8 c, wanted] 1 1 = wanted.toNat := field_one _ _
  unfold handleReadCabinets
  simp only [first, count]
  exact checked_pass (by simp; omega)

theorem handleReadStrings_from (s : State) {c slot : Nat} (h1 : 1 ≤ c) (h24 : c ≤ 24) (hs : 1 ≤ slot) (h4 : slot ≤ 4)
    (wanted : Byte) :
    handleReadStrings s [BitVec.ofNat 8 c, BitVec.ofNat 8 slot, wanted] =
      readAnswer s (slotPairs.drop ((c - 1) * 4 + (slot - 1))) wanted.toNat 2 s.stringRecord := by
  have cabinet : field [BitVec.ofNat 8 c, BitVec.ofNat 8 slot, wanted] 0 1 = c := (field_one _ _).trans (toNat_octet (by omega))
  have place : field [BitVec.ofNat 8 c, BitVec.ofNat 8 slot, wanted] 1 1 = slot := (field_one _ _).trans (toNat_octet (by omega))
  have count : field [BitVec.ofNat 8 c, BitVec.ofNat 8 slot, wanted] 2 1 = wanted.toNat := field_one _ _
  unfold handleReadStrings
  simp only [cabinet, place, count]
  exact checked_pass (by simp; omega)

theorem handleReadReadings_from (s : State) (copy wanted : Byte) (hc : copy.toNat ≤ 1) {first : Nat} (hf : first ≤ 127) :
    handleReadReadings s [copy, BitVec.ofNat 8 first, wanted] =
      if copy.toNat = 0 then
        readAnswer s (fromPosition s.scs.active first) wanted.toNat 7 fun x => x.1.entry.lead x.2 ++ x.1.reading.octets
      else readAnswer s (fromPosition s.scs.pendingList first) wanted.toNat 7 fun x => x.1.lead x.2 ++ zeros 11 := by
  have side : field [copy, BitVec.ofNat 8 first, wanted] 0 1 = copy.toNat := field_one _ _
  have place : field [copy, BitVec.ofNat 8 first, wanted] 1 1 = first := (field_one _ _).trans (toNat_octet (by omega))
  have count : field [copy, BitVec.ofNat 8 first, wanted] 2 1 = wanted.toNat := field_one _ _
  unfold handleReadReadings
  simp only [side, place, count]
  exact checked_pass (by simp; omega)

theorem handleReadPermits_from (s : State) {first : Nat} (h1 : 1 ≤ first) (h255 : first ≤ 255) (wanted : Byte) :
    handleReadPermits s [BitVec.ofNat 8 first, wanted] =
      let live := (s.par.permits.filter fun p => first ≤ p.id).insertionSort fun p q => p.id ≤ q.id
      (s, { (readAnswer s live wanted.toNat 4 s.permitRecord).2 with
        rest := s.seqOctets ++ (readAnswer s live wanted.toNat 4 s.permitRecord).2.rest }) := by
  have place : field [BitVec.ofNat 8 first, wanted] 0 1 = first := (field_one _ _).trans (toNat_octet h255)
  have count : field [BitVec.ofNat 8 first, wanted] 1 1 = wanted.toNat := field_one _ _
  unfold handleReadPermits
  simp only [place, count, foldr_insertPermit]
  exact checked_pass (by simp; omega)

/-- The state a READ_VISIT leaves: a CLOSED record that it carries is marked to leave the table (R165; log 25). -/
def State.visitCarried (s : State) (slot wanted : Nat) : State :=
  match s.visitIn slot with
  | none => s
  | some v => if v.state = .closed ∧ 0 < wanted then s.onHost fun h => { h with afterReply := .dropVisit slot v.id } else s

theorem visitCarried_agenda (s : State) (slot wanted : Nat) : (s.visitCarried slot wanted).agenda = s.agenda := by
  unfold State.visitCarried
  split
  · rfl
  · split <;> rfl

theorem handleReadVisit_from (s : State) {slot : Nat} (h7 : slot ≤ 7) (wanted : Byte) :
    handleReadVisit s [BitVec.ofNat 8 slot, wanted] =
      readAnswer (s.visitCarried slot wanted.toNat) (visitSlotIndices.drop slot) wanted.toNat 1 s.visitRecord := by
  have place : field [BitVec.ofNat 8 slot, wanted] 0 1 = slot := (field_one _ _).trans (toNat_octet (by omega))
  have count : field [BitVec.ofNat 8 slot, wanted] 1 1 = wanted.toNat := field_one _ _
  unfold handleReadVisit
  simp only [place, count]
  refine (checked_pass (by simp; omega)).trans ?_
  rfl

/-- An answer that names the part it carries (R97). -/
def Answer.ofPart (a : Answer) (part : Nat) : Answer := (a.1, { a.2 with rest := octets 1 part ++ a.2.rest })

theorem Answer.ofPart_pair (s : State) (r : Reply) (part : Nat) :
    Answer.ofPart (s, r) part = (s, { status := r.status, rest := octets 1 part ++ r.rest }) := rfl

theorem handleReadHistory_from (s : State) {c slot : Nat} {u : StringUnit} (hu : s.string c slot = some u) (part wanted : Byte)
    (hp : part.toNat ≤ 1) {first : Nat} (hf : first ≤ 7) :
    handleReadHistory s [BitVec.ofNat 8 c, BitVec.ofNat 8 slot, part, BitVec.ofNat 8 first, wanted] =
      Answer.ofPart (if part.toNat = 0 then
          readAnswer s (fromPosition u.age.window first) wanted.toNat 8 fun x => octets 1 x.2 ++ octets 5 x.1
        else readAnswer s (fromPosition u.age.history first) wanted.toNat 7 fun x => x.1.record s.now x.2) part.toNat := by
  obtain ⟨k, hk, hslot⟩ := Option.bind_eq_some_iff.mp hu
  obtain ⟨-, h24⟩ := State.cabinet_range hk
  obtain ⟨-, h4⟩ := Cabinet.slot_range hslot
  let body := [BitVec.ofNat 8 c, BitVec.ofNat 8 slot, part, BitVec.ofNat 8 first, wanted]
  have cabinet : field body 0 1 = c := (field_one _ _).trans (toNat_octet (by omega))
  have place : field body 1 1 = slot := (field_one _ _).trans (toNat_octet (by omega))
  have side : field body 2 1 = part.toNat := field_one _ _
  have start : field body 3 1 = first := (field_one _ _).trans (toNat_octet (by omega))
  have count : field body 4 1 = wanted.toNat := field_one _ _
  change handleReadHistory s body = _
  unfold handleReadHistory
  simp only [cabinet, place, side, start, count]
  refine (checked_pass (by simp [body])).trans ?_
  rw [hu]
  refine (checked_pass (by simp; omega)).trans ?_
  by_cases h : part.toNat = 0 <;> simp only [h, if_true, if_false] <;> rfl

/-- Settles O28: the handling of each read, and the items that it carries. -/
theorem readsAnswerWholeRecords : Obligations.ReadsAnswerWholeRecords := by
  intro tag wanted s hr count status
  refine ⟨?bus, ?cabinets, ?strings, ?active, ?pending, ?permits, ?visit, ?history⟩
  case bus =>
    intro b
    have items : (busList.drop b).length = 4 - b := by simp [busList]
    refine request_reads (k := .readBus) hr ((handleReadBus_from s b wanted).trans (readAnswer_eq ..)) (by simp) rfl
      (if_neg fun h => by rw [items] at h; omega) ?_
    rw [items, busList_drop]
  case cabinets =>
    intro c h1 h24
    have items : (cabinetIndices.drop (c - 1)).length = 25 - c := by simp [cabinetIndices]; omega
    refine request_reads (k := .readCabinets) hr ((handleReadCabinets_from s h1 h24 wanted).trans (readAnswer_eq ..)) (by simp)
      rfl ?_ ?_
    · rw [items]
    · rw [items, cabinetIndices_from h1 (by omega), List.flatMap_map]
  case strings =>
    intro c slot h1 h24 hs h4 first
    have items : (slotPairs.drop first).length = 96 - first := by rw [slotPairs_eq]; simp
    refine request_reads (k := .readStrings) hr ((handleReadStrings_from s h1 h24 hs h4 wanted).trans (readAnswer_eq ..)) (by simp)
      rfl ?_ ?_
    · rw [items]
    · rw [items, slotPairs_from (by omega), List.flatMap_map]
  case active =>
    intro first hf there
    refine request_reads (k := .readReadings) hr
      ((handleReadReadings_from s 0#8 wanted (by decide) hf).trans ((if_pos rfl).trans (readAnswer_eq ..))) (by simp) rfl ?_ ?_
    · rw [fromPosition_length]
    · rw [fromPosition_length, fromPosition_take]
  case pending =>
    intro first hf there
    refine request_reads (k := .readReadings) hr
      ((handleReadReadings_from s 1#8 wanted (by decide) hf).trans ((if_neg (by decide)).trans (readAnswer_eq ..))) (by simp)
      rfl ?_ ?_
    · rw [fromPosition_length]
    · rw [fromPosition_length, fromPosition_take]
      rfl
  case permits =>
    intro first h1 h255 live
    have read := readAnswer_eq s live wanted.toNat 4 s.permitRecord
    refine request_reads (k := .readPermits) hr (handleReadPermits_from s h1 h255 wanted) (by simp) rfl ?_ ?_
    · exact congrArg (fun a : Answer => a.2.status) read
    · rw [List.append_assoc]
      exact congrArg (fun a : Answer => s.seqOctets ++ a.2.rest) read
  case visit =>
    intro slot h7 n after
    have items : (visitSlotIndices.drop slot).length = 8 - slot := by simp [visitSlotIndices]
    have carried : s.visitCarried slot wanted.toNat = after := by
      have one : 0 < wanted.toNat ↔ n = 1 := by simp only [n, count]; omega
      unfold State.visitCarried
      simp only [one]
      cases hv : s.visitIn slot <;> simp only [after, hv]
    refine request_reads (k := .readVisit) hr ((handleReadVisit_from s h7 wanted).trans ((readAnswer_eq ..).trans (by rw [carried])))
      (by simp) (carried ▸ visitCarried_agenda ..) ?_ ?_
    · rw [items]
    · rw [items, visitSlots_from h7 (by omega)]
      change octets 1 n ++ List.flatMap s.visitRecord (if n = 1 then [slot] else []) = _
      split <;> simp
  case history =>
    intro c slot u first hu h7 days records
    constructor
    · refine request_reads (k := .readHistory)
        (body := [BitVec.ofNat 8 c, BitVec.ofNat 8 slot, 0#8, BitVec.ofNat 8 first, wanted]) hr ((handleReadHistory_from s hu 0#8 wanted (by decide) h7).trans
        ((congrArg (Answer.ofPart · 0) ((if_pos rfl).trans (readAnswer_eq ..))).trans (Answer.ofPart_pair ..))) (by simp) rfl ?_ ?_
      · rw [fromPosition_length]
      · rw [fromPosition_length, fromPosition_take, List.append_assoc]
        rfl
    · refine request_reads (k := .readHistory)
        (body := [BitVec.ofNat 8 c, BitVec.ofNat 8 slot, 1#8, BitVec.ofNat 8 first, wanted]) hr ((handleReadHistory_from s hu 1#8 wanted (by decide) h7).trans
        ((congrArg (Answer.ofPart · 1) ((if_neg (by decide)).trans (readAnswer_eq ..))).trans (Answer.ofPart_pair ..))) (by simp) rfl ?_ ?_
      · rw [fromPosition_length]
      · rw [fromPosition_length, fromPosition_take, List.append_assoc]
        rfl

end Sys2Proof.Machine

namespace Sys2Proof.Machine

/-! ### Records as fields of a width each (section 0.6) -/

@[simp] theorem octets_length (n v : Nat) : (octets n v).length = n := by
  induction n with
  | zero => rfl
  | succ n ih => exact congrArg (· + 1) ih

theorem quantity_foldl (l : List Byte) (v : Nat) :
    l.foldl (fun v b => v * 256 + b.toNat) v = v * 256 ^ l.length + quantity l := by
  induction l generalizing v with
  | nil => simp [quantity]
  | cons b l ih =>
    have whole : quantity (b :: l) = (0 * 256 + b.toNat) * 256 ^ l.length + quantity l := ih _
    rw [List.foldl_cons, ih, whole, List.length_cons]
    ring

/-- What `n` octets of a quantity carry: the quantity modulo their range. -/
theorem quantity_octets (n v : Nat) : quantity (octets n v) = v % 256 ^ n := by
  induction n with
  | zero => simp [octets, quantity, Nat.mod_one]
  | succ n ih =>
    have whole : quantity (octets (n + 1) v) =
        (0 * 256 + (BitVec.ofNat 8 (v / 256 ^ n)).toNat) * 256 ^ (octets n v).length + quantity (octets n v) :=
      quantity_foldl (octets n v) (0 * 256 + (BitVec.ofNat 8 (v / 256 ^ n)).toNat)
    have split : v % 256 ^ (n + 1) = v % 256 ^ n + 256 ^ n * (v / 256 ^ n % 256) := Nat.mod_mul
    rw [whole, ih, octets_length, BitVec.toNat_ofNat, split, Nat.zero_mul, Nat.zero_add, Nat.add_comm, Nat.mul_comm]

/-- The octets of fields, each with its width. -/
def fieldsOf (l : List (Nat × Nat)) : List Byte := l.flatMap fun x => octets x.1 x.2

theorem fieldsOf_length (l : List (Nat × Nat)) : (fieldsOf l).length = (l.map Prod.fst).sum := by
  simp [fieldsOf, List.length_flatMap]

/-- A record read field by field from an offset on: what each field carries, and where the record ends. -/
def Carries (record : List Byte) : Nat → List (Nat × Nat) → Prop
  | offset, [] => record.length = offset
  | offset, (n, v) :: rest => field record offset n = v % 256 ^ n ∧ Carries record (offset + n) rest

theorem carries_behind (head : List Byte) (l : List (Nat × Nat)) : Carries (head ++ fieldsOf l) head.length l := by
  induction l generalizing head with
  | nil => simp [Carries, fieldsOf]
  | cons x rest ih =>
    have place : head ++ fieldsOf (x :: rest) = (head ++ octets x.1 x.2) ++ fieldsOf rest := (List.append_assoc ..).symm
    have ends : (head ++ octets x.1 x.2).length = head.length + x.1 := by rw [List.length_append, octets_length]
    refine ⟨?_, ends ▸ place ▸ ih (head ++ octets x.1 x.2)⟩
    rw [place, List.append_assoc, ← Nat.add_zero head.length, field_append, field_append_left _ _ (by simp), field, List.drop_zero,
      List.take_of_length_le (by simp), quantity_octets]

/-- A record that is given by its fields carries each of them at its place, modulo its range. -/
theorem carries_of_fields {record : List Byte} {l : List (Nat × Nat)} (hr : record = fieldsOf l) : Carries record 0 l :=
  hr ▸ carries_behind [] l

theorem bit_le (n : Nat) (flag : Bool) : bit n flag ≤ 2 ^ n := by
  cases flag
  · exact Nat.zero_le _
  · exact le_rfl

theorem octetsOrAll_eq (o : Option Nat) : octetsOrAll o = octets 4 (o.getD 0xFFFFFFFF) := by cases o <;> rfl

/-- A field behind a head of known length. -/
theorem field_behind {head : List Byte} {k : Nat} (hk : head.length = k) (body : List Byte) (offset n : Nat) :
    field (head ++ body) (k + offset) n = field body offset n := hk ▸ field_append head body offset n

/-! ### The codes of the tables fit an octet -/

theorem Security.code_lt (x : Security) : x.code < 256 := by cases x <;> decide
theorem Tracked.code_lt (x : Tracked) : x.code < 256 := by cases x <;> decide
theorem Mode.bits_le (x : Mode) : x.bits ≤ 7 := by cases x <;> decide
theorem StringState.code_le (x : StringState) : x.code ≤ 3 := by cases x <;> decide
theorem CombineMode.code_lt (x : CombineMode) : x.code < 256 := by cases x <;> decide
theorem Quality.code_lt (x : Quality) : x.code < 256 := by cases x <;> decide
theorem LastOutcome.code_lt (x : LastOutcome) : x.code < 256 := by cases x <;> decide
theorem Policy.code_lt (x : Policy) : x.code < 256 := by cases x <;> decide
theorem PermitState.code_lt (x : PermitState) : x.code < 256 := by cases x <;> decide
theorem VisitState.code_lt (x : VisitState) : x.code < 256 := by cases x <;> decide
theorem Level.code_lt (x : Level) : x.code < 256 := by cases x <;> decide
theorem DischargeKind.code_le (x : DischargeKind) : x.code ≤ 3 := by cases x <;> decide
theorem NoticeKind.code_lt (x : NoticeKind) : x.code < 256 := by cases x <;> decide
theorem visitResultCode_le (x : Option VisitResult) : visitResultCode x ≤ 2 := by rcases x with _ | x <;> [decide; (cases x <;> decide)]

/-! ### The records by their fields -/

theorem busRecord_fields {s : State} {b : Bus} {u : BusUnit} (h : s.bus b = some u) :
    s.busRecord b = fieldsOf
      [(1, b.val), (1, 1), (1, u.fig.security.code),
       (1, bit 0 u.fig.uncertain + bit 1 u.fig.roundSeen + bit 2 ((s.seqOf b).state != .normal)),
       (4, min u.fig.load 0xFFFFFFFF), (1, u.fig.uncertainCount), (1, u.fig.online), (4, u.fig.capacity),
       (4, min u.fig.required 0xFFFFFFFF), (1, (u.fig.spare % 256).toNat), (1, (u.fig.margin % 256).toNat), (4, u.fig.energy),
       (2, u.fig.autonomy), (1, u.defn.reserve), (1, u.defn.headroom), (1, u.defn.minAutonomy)] := by
  simp [State.busRecord, h, fieldsOf, octetsHeld, signedOctets]

/-- The octet of the last state word, all ones where there is none (Table 3-4; bit 7 is not kept, log 24). -/
def Track.wordValue (t : Track) : Nat :=
  match t.lastWord with
  | none => 255
  | some w => w.mode.bits + bit 3 w.syncOk + bit 4 w.bypassSourceOk + bit 5 w.bypassClosed + bit 6 w.testActive

theorem Track.wordOctet (t : Track) : [(t.lastWord.map StateWord.toByte).getD 0xFF#8] = octets 1 t.wordValue := by
  rw [octets_one, Track.wordValue]
  cases t.lastWord <;> rfl

theorem Track.wordValue_lt (t : Track) : t.wordValue < 256 := by
  unfold Track.wordValue
  split
  · decide
  next w _ =>
    have := Mode.bits_le w.mode
    have := bit_le 3 w.syncOk
    have := bit_le 4 w.bypassSourceOk
    have := bit_le 5 w.bypassClosed
    have := bit_le 6 w.testActive
    omega

/-- The fields of a cabinet record before its tag. -/
def Cabinet.frontFields (k : Cabinet) (c : Nat) : List (Nat × Nat) :=
  [(1, c), (1, 1), (1, k.defn.address), (1, k.defn.bus.val), (2, k.defn.rating), (1, k.defn.stringCount), (1, k.defn.master.toNat)]

/-- The fields of a cabinet record behind its tag. -/
def Cabinet.backFields (k : Cabinet) (now : Nat) : List (Nat × Nat) :=
  [(1, k.track.state.code), (1, k.track.wordValue), (1, k.track.failures), (1, k.track.flags),
   (4, (k.track.lastSuccess.map fun t => now - t).getD 0xFFFFFFFF)]

theorem cabinetRecord_fields {s : State} {c : Nat} {k : Cabinet} (h : s.cabinet c = some k) :
    s.cabinetRecord c = fieldsOf (k.frontFields c) ++ (k.defn.tag ++ fieldsOf (k.backFields s.now)) := by
  simp [State.cabinetRecord, h, fieldsOf, Cabinet.frontFields, Cabinet.backFields, CabinetRec.octets, Track.wordOctet, octetsOrAll_eq]

theorem stringRecord_fields {s : State} {c slot : Nat} {u : StringUnit} (h : s.string c slot = some u) :
    s.stringRecord (c, slot) = fieldsOf
      [(1, c), (1, slot), (1, 1 + 2 * u.age.state.code), (1, u.age.flags), (1, u.age.health), (1, u.age.wearHealth),
       (1, u.age.impHealth), (5, u.age.calendarWear), (5, u.age.cycleWear), (6, u.age.cycleCharge), (4, u.age.baseline),
       (4, u.age.lastImpedance), (4, u.age.energy), (2, u.age.remainingDays), (1, u.age.lastTemperature.getD 255),
       (4, (u.age.lastTest.map fun t => t.time).getD 0), (1, u.age.window.length), (1, u.age.history.length)] := by
  simp [State.stringRecord, h, fieldsOf]

theorem readingRecord_fields (e : ActiveEntry) (position : Nat) :
    e.entry.lead position ++ e.reading.octets = fieldsOf
      [(1, position), (1, e.entry.cabinet), (1, e.entry.point.code), (1, e.entry.skip), (1, e.entry.combine.code),
       (4, (e.reading.value % 2 ^ 32).toNat), (4, e.reading.round), (1, e.reading.quality.code), (1, e.reading.held),
       (1, e.reading.lastOutcome.code)] := by
  simp [ScanEntry.lead, Reading.octets, fieldsOf, signedOctets]

theorem permitRecord_fields (s : State) (p : Permit) :
    s.permitRecord p = fieldsOf
      [(1, p.id), (1, p.kind.code), (1, p.bus.val), (1, p.cabinet.getD 0), (1, p.slot), (1, p.steps), (1, p.holder),
       (1, (p.policy.map Policy.code).getD 255), (1, p.state.code),
       (1, bit 0 p.returnOrdered + bit 1 p.yielded + bit 2 p.adopted + bit 3 p.sent + bit 4 (s.commandFor p)),
       (1, s.placeOf p), (1, 0), (4, s.now - p.requestUptime), (4, (p.grantUptime.map fun t => s.now - t).getD 0xFFFFFFFF),
       (4, (p.deadline.map fun t => t - s.now).getD 0xFFFFFFFF)] := by
  simp [State.permitRecord, fieldsOf, octetsOrAll_eq]

/-- The fields of a visit record before its scope. -/
def Visit.frontFields (v : Visit) (slot now : Nat) : List (Nat × Nat) :=
  [(1, slot), (1, v.id), (1, v.state.code), (1, v.level.code),
   (1, bit 0 v.waitingLock + bit 1 v.expected.isSome + bit 2 v.report.mismatch + bit 3 v.report.overdue +
     16 * visitResultCode v.report.result),
   (4, v.credential), (4, v.bookedStart), (2, v.duration), (4, (v.activation.map fun t => now - t).getD 0xFFFFFFFF),
   (4, (v.toDeadline now % 2 ^ 32).toNat), (2, v.actions), (2, v.expected.getD 0), (1, v.report.ended), (1, v.report.rehomed),
   (1, v.scope.length)]

/-- The octets of a visit's scope, and of the strings it replaced (Table 9-7). -/
def Visit.scopeOctets (v : Visit) : List Byte := padded (v.scope.flatMap (octets 1)) 24

def Visit.replacedOctets (v : Visit) : List Byte := padded (v.replaced.flatMap fun p => octets 1 p.1 ++ octets 1 p.2) 16

theorem visitRecord_fields {s : State} {slot : Nat} {v : Visit} (h : s.visitIn slot = some v) :
    s.visitRecord slot =
      fieldsOf (v.frontFields slot s.now) ++ (v.scopeOctets ++ (fieldsOf [(1, v.replaced.length)] ++ v.replacedOctets)) := by
  simp [State.visitRecord, h, fieldsOf, Visit.frontFields, Visit.scopeOctets, Visit.replacedOctets, octetsOrAll_eq, signedOctets]

theorem dischargeRecord_fields (r : DischargeRec) (now index : Nat) :
    r.record now index = fieldsOf
      [(1, index), (1, r.kind.code + bit 2 r.isOpen + bit 3 r.awaitingClose + bit 4 r.cutByStart + bit 5 r.startIsUptime),
       (4, r.start), (4, if r.isOpen then now - r.openedAt else r.duration), (4, r.charge), (2, r.minVoltage.getD 0xFFFF)] := by
  simp [DischargeRec.record, fieldsOf]

theorem noticeRecord_fields (n : Notice) :
    n.record = fieldsOf
      [(1, n.kind.code), (4, n.stamp.time), (1, bit 7 n.stamp.isUptime + 16 * n.bus + n.slot), (1, n.cabinet), (1, n.permit),
       (1, n.visit), (4, n.value), (1, n.result)] := by
  simp [Notice.record, fieldsOf]

/-! ### Lists filled with zeros (Table 9-7) -/

theorem padded_length {l : List Byte} {n : Nat} (h : l.length ≤ n) : (padded l n).length = n := by
  simp [padded, zeros]
  omega

theorem padded_getD (l : List Byte) (n i : Nat) : (padded l n).getD i 0#8 = l.getD i 0#8 := by
  simp only [padded, zeros, List.getD]
  by_cases hi : i < l.length
  · rw [List.getElem?_append_left hi]
  · rw [List.getElem?_append_right (by omega), List.getElem?_eq_none (by omega : l.length ≤ i), List.getElem?_replicate]
    split <;> rfl

theorem singles_getD (l : List Nat) (i : Nat) : (l.flatMap (octets 1)).getD i 0#8 = BitVec.ofNat 8 (l.getD i 0) := by
  have singles : l.flatMap (octets 1) = l.map (BitVec.ofNat 8) := by
    rw [show octets 1 = fun v => [BitVec.ofNat 8 v] from funext octets_one, List.map_eq_flatMap]
  rw [singles, List.getD_map (d := 0) (f := BitVec.ofNat 8)]

theorem pairs_getD (l : List (Nat × Nat)) (i : Nat) :
    (l.flatMap fun p => octets 1 p.1 ++ octets 1 p.2).getD (2 * i) 0#8 = BitVec.ofNat 8 (l.getD i (0, 0)).1 ∧
      (l.flatMap fun p => octets 1 p.1 ++ octets 1 p.2).getD (2 * i + 1) 0#8 = BitVec.ofNat 8 (l.getD i (0, 0)).2 := by
  induction l generalizing i with
  | nil => exact ⟨rfl, rfl⟩
  | cons p rest ih =>
    cases i with
    | zero => simp [octets_one]
    | succ i => exact ih i

theorem pairs_length (l : List (Nat × Nat)) : (l.flatMap fun p => octets 1 p.1 ++ octets 1 p.2).length = 2 * l.length := by
  induction l with
  | nil => rfl
  | cons p rest ih => simp only [List.flatMap_cons, List.length_append, octets_length, ih, List.length_cons]; omega

section
variable (v : Visit)

theorem scopeOctets_length (h : v.scope.length ≤ 24) : v.scopeOctets.length = 24 :=
  padded_length (by simpa [List.length_flatMap] using h)

theorem scopeOctets_field (i : Nat) : field v.scopeOctets i 1 = v.scope.getD i 0 % 256 := by
  rw [field_one, Visit.scopeOctets, padded_getD, singles_getD, BitVec.toNat_ofNat]

theorem replacedOctets_length (h : v.replaced.length ≤ 8) : v.replacedOctets.length = 16 :=
  padded_length (by rw [pairs_length]; omega)

theorem replacedOctets_field (i : Nat) :
    field v.replacedOctets (2 * i) 1 = (v.replaced.getD i (0, 0)).1 % 256 ∧
      field v.replacedOctets (2 * i + 1) 1 = (v.replaced.getD i (0, 0)).2 % 256 := by
  obtain ⟨first, second⟩ := pairs_getD v.replaced i
  rw [field_one, field_one, Visit.replacedOctets, padded_getD, padded_getD, first, second, BitVec.toNat_ofNat, BitVec.toNat_ofNat]
  exact ⟨rfl, rfl⟩

end

/-! ### What some of the fields carry -/

theorem Track.flags_lt (t : Track) : t.flags < 256 := by
  have orphan := bit_le 0 t.orphan
  have unreachable := bit_le 3 t.unreachable
  have first := bit_le 4 t.firstReportPending
  have bypass := bit_le 5 t.bypassCheckPending
  unfold Track.flags
  rcases t.overlay with _ | (_ | _) <;> dsimp only <;> omega

theorem AgeRec.flags_lt (a : AgeRec) : a.flags < 256 := by
  have b0 := bit_le 0 a.ageingLost
  have b1 := bit_le 1 a.tempUnknown
  have b2 := bit_le 2 a.baselinePending
  have b3 := bit_le 3 a.dueFlagged
  have b4 := bit_le 4 a.impFlagged
  have b5 := bit_le 5 a.gapPending
  have b6 := bit_le 6 a.counterBase.isSome
  have b7 := bit_le 7 (a.lastTest.any fun t => t.isUptime)
  unfold AgeRec.flags
  omega

/-- The place of a permit in its wait queue (Table 8-11). -/
theorem placeOf_eq (s : State) (p : Permit) :
    s.placeOf p = if p.id ∈ (s.waitQueue p.bus).map (fun q => q.id) then ((s.waitQueue p.bus).map fun q => q.id).idxOf p.id else 255 := by
  have index : ∀ l : List Permit, (l.findIdx? fun q => q.id == p.id) =
      if p.id ∈ l.map (fun q => q.id) then some ((l.map fun q => q.id).idxOf p.id) else none := by
    intro l
    induction l with
    | nil => rfl
    | cons q rest ih =>
      by_cases h : q.id = p.id
      · simp [List.findIdx?_cons, h]
      · rw [List.findIdx?_cons, if_neg (by simpa using h), ih, List.map_cons, List.idxOf_cons_ne _ h]
        by_cases m : p.id ∈ rest.map fun q => q.id
        · rw [if_pos m, if_pos (List.mem_cons_of_mem _ m)]
          rfl
        · rw [if_neg m, if_neg fun x => (List.mem_cons.mp x).elim (fun e => h e.symm) m]
          rfl
  rw [State.placeOf, index]
  split <;> rfl

/-! ### Each record's fields -/

section
variable (s : State)

theorem small_bus (b : Bus) : b.val % 256 ^ 1 = b.val := Nat.mod_eq_of_lt (by omega)

theorem busRecord_absent {b : Bus} (h : s.bus b = none) : s.busRecord b = BitVec.ofNat 8 b.val :: List.replicate 28 0#8 := by
  simp [State.busRecord, h, octets_one, zeros]

theorem cabinetRecord_absent {c : Nat} (h : s.cabinet c = none) :
    s.cabinetRecord c = BitVec.ofNat 8 c :: List.replicate 23 0#8 := by
  simp [State.cabinetRecord, h, octets_one, zeros]

theorem stringRecord_absent {c slot : Nat} (h : s.string c slot = none) :
    s.stringRecord (c, slot) = BitVec.ofNat 8 c :: BitVec.ofNat 8 slot :: List.replicate 42 0#8 := by
  simp [State.stringRecord, h, octets_one, zeros]

theorem visitRecord_absent {slot : Nat} (h : s.visitIn slot = none) :
    s.visitRecord slot = BitVec.ofNat 8 slot :: List.replicate 70 0#8 := by
  simp [State.visitRecord, h, octets_one, zeros]

end

/-- Settles O29: each record by its fields, and each field by its place. -/
theorem recordsHaveTheirLengths : Obligations.RecordsHaveTheirLengths := by
  refine ⟨by decide, fun s => ?_, fun n => ?notice⟩
  case notice =>
    obtain ⟨kind, stamp, place, cabinet, permit, visit, value, result, length⟩ := carries_of_fields (noticeRecord_fields n)
    have mark := bit_le 7 n.stamp.isUptime
    exact ⟨length, kind.trans (Nat.mod_eq_of_lt n.kind.code_lt), stamp, fun hb hs => place.trans (Nat.mod_eq_of_lt (by omega)),
      cabinet, permit, visit, value, result⟩
  intro flag orAll
  have all : ∀ o : Option Nat, o.getD 0xFFFFFFFF % 256 ^ 4 = orAll o := fun o => by cases o <;> rfl
  refine ⟨fun b => busRecord_absent s, ?bus, fun c => cabinetRecord_absent s, ?cabinet, fun c slot => stringRecord_absent s, ?string,
    ?reading, ?permit, ?noVisit, ?visit, ?discharge⟩
  case bus =>
    intro b u h
    obtain ⟨index, defined, security, flags, load, uncertain, online, capacity, required, spare, margin, energy, autonomy, reserve,
      headroom, minAutonomy, length⟩ := carries_of_fields (busRecord_fields h)
    have b0 := bit_le 0 u.fig.uncertain
    have b1 := bit_le 1 u.fig.roundSeen
    have b2 := bit_le 2 ((s.seqOf b).state != .normal)
    exact ⟨length, index.trans (small_bus b), defined, security.trans (Nat.mod_eq_of_lt u.fig.security.code_lt),
      flags.trans (Nat.mod_eq_of_lt (by omega)), load.trans (Nat.mod_eq_of_lt (by omega)), uncertain, online, capacity,
      required.trans (Nat.mod_eq_of_lt (by omega)), spare.trans (Nat.mod_eq_of_lt (by omega)),
      margin.trans (Nat.mod_eq_of_lt (by omega)), energy, autonomy, reserve, headroom, minAutonomy⟩
  case cabinet =>
    intro c k hc h htag l
    have record : l = fieldsOf (k.frontFields c) ++ (k.defn.tag ++ fieldsOf (k.backFields s.now)) := cabinetRecord_fields h
    have headed : (fieldsOf (k.frontFields c) ++ k.defn.tag).length = 16 := by rw [List.length_append, fieldsOf_length, htag]; rfl
    obtain ⟨index, defined, address, bus, rating, strings, master, -⟩ := carries_of_fields (rfl : fieldsOf (k.frontFields c) = _)
    obtain ⟨state, word, failures, flags, since, length⟩ := headed ▸ carries_behind (fieldsOf (k.frontFields c) ++ k.defn.tag)
      (k.backFields s.now)
    have front : ∀ offset n, offset + n ≤ 8 → field l offset n = field (fieldsOf (k.frontFields c)) offset n := fun offset n ho => by
      rw [record, field_append_left _ _ (by rwa [fieldsOf_length])]
    rw [List.append_assoc, ← record] at state word failures flags since length
    refine ⟨length, (front 0 1 (by decide)).trans (index.trans (Nat.mod_eq_of_lt hc)), (front 1 1 (by decide)).trans defined,
      (front 2 1 (by decide)).trans address, (front 3 1 (by decide)).trans (bus.trans (small_bus _)),
      (front 4 2 (by decide)).trans rating, (front 6 1 (by decide)).trans strings,
      (front 7 1 (by decide)).trans (master.trans (by cases k.defn.master <;> rfl)), ?_,
      state.trans (Nat.mod_eq_of_lt k.track.state.code_lt), word.trans ((Nat.mod_eq_of_lt k.track.wordValue_lt).trans ?_), failures,
      flags.trans ((Nat.mod_eq_of_lt k.track.flags_lt).trans ?_), since.trans (all _)⟩
    · have eight : (fieldsOf (k.frontFields c)).length = 8 := fieldsOf_length _
      rw [record, List.drop_append_of_le_length eight.ge, List.drop_of_length_le eight.le, List.nil_append, List.take_append_of_le_length (by rw [htag]), List.take_of_length_le (by rw [htag])]
    · unfold Track.wordValue
      cases k.track.lastWord <;> rfl
    · unfold Track.flags
      rcases k.track.overlay with _ | (_ | _) <;> rfl
  case string =>
    intro c slot u hc hslot h
    obtain ⟨cabinet, place, state, flags, health, wearHealth, impHealth, calendarWear, cycleWear, cycleCharge, baseline, impedance,
      energy, remaining, temperature, lastTest, window, history, length⟩ := carries_of_fields (stringRecord_fields h)
    have code := u.age.state.code_le
    refine ⟨length, cabinet.trans (Nat.mod_eq_of_lt hc), place.trans (Nat.mod_eq_of_lt hslot), state.trans (Nat.mod_eq_of_lt (by omega)),
      flags.trans (Nat.mod_eq_of_lt u.age.flags_lt), health, wearHealth, impHealth, calendarWear, cycleWear, cycleCharge, baseline,
      impedance, energy, remaining, temperature, lastTest.trans ?_, window, history⟩
    cases u.age.lastTest <;> rfl
  case reading =>
    intro e position
    obtain ⟨index, cabinet, point, skip, combine, value, round, quality, held, outcome, length⟩ :=
      carries_of_fields (readingRecord_fields e position)
    exact ⟨length, index, cabinet, point, skip, combine.trans (Nat.mod_eq_of_lt e.entry.combine.code_lt),
      value.trans (Nat.mod_eq_of_lt (by omega)), round, quality.trans (Nat.mod_eq_of_lt e.reading.quality.code_lt), held,
      outcome.trans (Nat.mod_eq_of_lt e.reading.lastOutcome.code_lt)⟩
  case permit =>
    intro p l' waiting queue
    obtain ⟨id, kind, bus, cabinet, slot, steps, holder, policy, state, flags, place, unused, requested, granted, due, length⟩ :=
      carries_of_fields (permitRecord_fields s p)
    have inQueue : s.placeOf p % 256 ^ 1 = if p.id ∈ waiting then waiting.idxOf p.id % 256 else 255 := by
      have wait : (s.waitQueue p.bus).map (fun q => q.id) = waiting := by
        simp only [waiting, State.waitQueue]
        exact congrArg (List.map _) (List.filter_congr fun q _ => Bool.eq_iff_iff.mpr (by simp))
      rw [placeOf_eq, wait]
      split <;> rfl
    have command : s.commandFor p = ((queue.priority ++ queue.ordinary).any (fun e => e.permit = some p.id) ||
        queue.inHand.any fun h => h.used && h.entry.permit = some p.id) := by
      simp [State.commandFor, TransferQueue.waiting, queue, beq_eq_decide]
    have b0 := bit_le 0 p.returnOrdered
    have b1 := bit_le 1 p.yielded
    have b2 := bit_le 2 p.adopted
    have b3 := bit_le 3 p.sent
    have b4 := bit_le 4 (s.commandFor p)
    refine ⟨length, id, kind.trans (by cases p.kind <;> rfl), bus.trans (small_bus _), cabinet,
      slot.trans (by unfold Permit.slot; cases p.kind <;> rfl), steps.trans (by unfold Permit.steps; cases p.kind <;> rfl), holder,
      policy.trans ?_, state.trans (Nat.mod_eq_of_lt p.state.code_lt), flags.trans ((Nat.mod_eq_of_lt (by omega)).trans ?_),
      place.trans inQueue, unused, requested, granted.trans (all _), due.trans (all _)⟩
    · cases p.policy with
      | none => rfl
      | some y => exact Nat.mod_eq_of_lt y.code_lt
    · rw [command]
      rfl
  case noVisit =>
    intro slot h hs
    exact ⟨congrArg List.length (visitRecord_absent s h), visitRecord_absent s h⟩
  case visit =>
    intro slot v h hscope hreplaced l
    have eight : slot < 8 := by
      by_contra hs
      rw [State.visitIn, Vector.getElem?_eq_none (by omega)] at h
      exact nomatch h
    have record : l = _ := visitRecord_fields h
    have headed : (fieldsOf (v.frontFields slot s.now)).length = 30 := fieldsOf_length _
    have front : ∀ offset n, offset + n ≤ 30 → field l offset n = field (fieldsOf (v.frontFields slot s.now)) offset n :=
      fun offset n ho => by rw [record, field_append_left _ _ (by rwa [headed])]
    have scope : ∀ i, i < 24 → field l (30 + i) 1 = field v.scopeOctets i 1 := fun i hi => by
      rw [record, field_behind headed, field_append_left _ _ (by rw [scopeOctets_length v hscope]; omega)]
    have behind : ∀ i n, field l (30 + (24 + i)) n = field (fieldsOf [(1, v.replaced.length)] ++ v.replacedOctets) i n := fun i n => by
      rw [record, field_behind headed, field_behind (scopeOctets_length v hscope)]
    have strings : ∀ i, field l (55 + i) 1 = field v.replacedOctets i 1 := fun i => by
      rw [show 55 + i = 30 + (24 + (1 + i)) by omega, behind, field_behind (k := 1) (fieldsOf_length _)]
    obtain ⟨index, id, state, level, flags, credential, booked, duration, active, due, actions, expected, ended, rehomed, spread, -⟩ :=
      carries_of_fields (rfl : fieldsOf (v.frontFields slot s.now) = _)
    obtain ⟨count, -⟩ := carries_of_fields (rfl : fieldsOf [(1, v.replaced.length)] = _)
    have one : 0 + 1 ≤ (fieldsOf [(1, v.replaced.length)]).length := (fieldsOf_length [(1, v.replaced.length)]).ge
    have b0 := bit_le 0 v.waitingLock
    have b1 := bit_le 1 v.expected.isSome
    have b2 := bit_le 2 v.report.mismatch
    have b3 := bit_le 3 v.report.overdue
    have result := visitResultCode_le v.report.result
    refine ⟨?_, (front 0 1 (by decide)).trans (index.trans (Nat.mod_eq_of_lt (by omega))), (front 1 1 (by decide)).trans id,
      (front 2 1 (by decide)).trans (state.trans (Nat.mod_eq_of_lt v.state.code_lt)),
      (front 3 1 (by decide)).trans (level.trans (Nat.mod_eq_of_lt v.level.code_lt)),
      (front 4 1 (by decide)).trans (flags.trans ((Nat.mod_eq_of_lt (by omega)).trans ?_)), (front 5 4 (by decide)).trans credential,
      (front 9 4 (by decide)).trans booked, (front 13 2 (by decide)).trans duration,
      (front 15 4 (by decide)).trans (active.trans (by cases v.activation <;> rfl)),
      (front 19 4 (by decide)).trans (due.trans ((Nat.mod_eq_of_lt (by omega)).trans ?_)), (front 23 2 (by decide)).trans actions,
      (front 25 2 (by decide)).trans expected, (front 27 1 (by decide)).trans ended, (front 28 1 (by decide)).trans rehomed,
      (front 29 1 (by decide)).trans (spread.trans (Nat.mod_eq_of_lt (by omega))),
      fun i hi => (scope i hi).trans (scopeOctets_field v i),
      (behind 0 1).trans ((field_append_left _ _ one).trans (count.trans (Nat.mod_eq_of_lt (by omega)))),
      fun i hi => ⟨(strings (2 * i)).trans (replacedOctets_field v i).1, ?_⟩⟩
    · rw [record, List.length_append, List.length_append, List.length_append, headed, scopeOctets_length v hscope, fieldsOf_length,
        replacedOctets_length v hreplaced]
      rfl
    · rcases v.report.result with _ | (_ | _) <;> rfl
    · unfold Visit.toDeadline
      cases v.state <;> cases v.deadline <;> rfl
    · rw [show 56 + 2 * i = 55 + (2 * i + 1) by omega, strings, (replacedOctets_field v i).2]
  case discharge =>
    intro r now index
    obtain ⟨place, flags, start, duration, charge, voltage, length⟩ := carries_of_fields (dischargeRecord_fields r now index)
    have kind := r.kind.code_le
    have b2 := bit_le 2 r.isOpen
    have b3 := bit_le 3 r.awaitingClose
    have b4 := bit_le 4 r.cutByStart
    have b5 := bit_le 5 r.startIsUptime
    exact ⟨length, place, flags.trans (Nat.mod_eq_of_lt (by omega)), start, duration, charge, voltage⟩

end Sys2Proof.Machine


namespace Sys2Proof.Machine

/-! ### Reports that leave the tracked state (R38, R39, R48, R50) -/

/-- A record whose reports change the last word and the count alone: it is reachable, under no overlay, and past the checks of a
first report (R39). -/
structure Track.Plain (t : Track) : Prop where
  reachable : t.unreachable = false
  overlay : t.overlay = none
  first : t.firstReportPending = false
  bypass : t.bypassCheckPending = false

/-- The record after a report (R38, R39). -/
def Track.reported (t : Track) (w : StateWord) (now : Nat) : Track :=
  { t with lastWord := some w, failures := 0, lastSuccess := some now }

theorem Track.Plain.state {t : Track} (h : t.Plain) {v : StateWord} (hv : t.lastWord = some v) : t.state = v.mode.tracked := by
  simp [Track.state, h.reachable, hv, h.overlay]

theorem Track.Plain.state_reported {t : Track} (h : t.Plain) (w : StateWord) (now : Nat) :
    (t.reported w now).state = w.mode.tracked := by simp [Track.state, Track.reported, h.reachable, h.overlay]

/-- What a report does to such a record: the word is stored, and a change of its flags is noted (R39, R50). -/
theorem trackSuccess_plain {s : State} {c : Nat} {k : Cabinet} (hk : s.cabinet c = some k) (h : k.track.Plain) (w : StateWord)
    (source : Source) :
    s.trackSuccess c (some w) source = s.completeTrack c k source
      { TrackWork.quiet (k.track.reported w s.now) with flagsChanged := StateWord.flagsDiffer k.track.lastWord w } := by
  have work : (s.report c { k.track with lastSuccess := some s.now, failures := 0 } w).recover s.now =
      { TrackWork.quiet (k.track.reported w s.now) with flagsChanged := StateWord.flagsDiffer k.track.lastWord w } := by
    obtain ⟨reachable, overlay, first, bypass⟩ := h
    simp [State.report, TrackWork.recover, Track.examine, TrackWork.quiet, Track.reported, reachable, overlay, first, bypass]
  unfold State.trackSuccess
  rw [hk]
  exact congrArg (s.completeTrack c k source) work

/-- The signals behind a change of flags (R50). -/
def flagTasks (c : Nat) (differ : Bool) : List Task := if differ then [.permitOnFlags c, .meet] else []

/-- Work that leaves the tracked state: the record, a CABINET_STATE where an alert gives its cause, and a change of flags handed
on (R48, R50). -/
theorem completeTrack_flags {t : Track} {k : Cabinet} (h : t.state = k.track.state) (s : State) (c : Nat) (source : Source)
    (differ : Bool) :
    s.completeTrack c k source { TrackWork.quiet t with flagsChanged := differ } =
      (if source.cause = 0 then s.setCabinet c (some { k with track := t })
       else (s.setCabinet c (some { k with track := t })).raise .cabinetState { bus := k.defn.bus.val + 1, cabinet := c }
         (source.cause * 65536 + k.track.state.code * 256 + k.track.state.code) source.code).push
        (.meet :: flagTasks c differ) := by
  have settled : t.settle k.track.state = t := if_neg (by rw [h]; simp)
  unfold State.completeTrack
  simp only [TrackWork.quiet, h, settled, State.raiseTrack, handOn, busCode, flagTasks]
  by_cases hc : source.cause = 0 <;> simp [hc]

/-- A report that leaves the tracked state, by a reply. -/
theorem trackAttempt_plain {s : State} {c : Nat} {k : Cabinet} {v w : StateWord} {o : TxOutcome} (hk : s.cabinet c = some k)
    (h : k.track.Plain) (hv : k.track.lastWord = some v) (hm : v.mode = w.mode) (ho : o.isFailure = false) :
    s.trackAttempt c o false (some w) = (s.setCabinet c (some { k with track := k.track.reported w s.now })).push
      (.meet :: flagTasks c (StateWord.flagsDiffer (some v) w)) := by
  have same : (k.track.reported w s.now).state = k.track.state := by rw [h.state_reported, h.state hv, hm]
  rw [State.trackAttempt, ho, if_neg Bool.false_ne_true, trackSuccess_plain hk h, hv, completeTrack_flags same]
  rfl

/-- A report that leaves the tracked state, by an alert. -/
theorem trackAlert_plain {s : State} {c : Nat} {k : Cabinet} {v w : StateWord} {cause : Nat} (hk : s.cabinet c = some k)
    (h : k.track.Plain) (hv : k.track.lastWord = some v) (hm : v.mode = w.mode) (hc : cause ≠ 0) :
    s.trackSuccess c (some w) (.alert cause) =
      ((s.setCabinet c (some { k with track := k.track.reported w s.now })).raise .cabinetState
        { bus := k.defn.bus.val + 1, cabinet := c } (cause * 65536 + k.track.state.code * 256 + k.track.state.code) 2).push
      (.meet :: flagTasks c (StateWord.flagsDiffer (some v) w)) := by
  have same : (k.track.reported w s.now).state = k.track.state := by rw [h.state_reported, h.state hv, hm]
  rw [trackSuccess_plain hk h, hv, completeTrack_flags same]
  exact congrArg (State.push · _) (if_neg hc)

/-! ### A change of flags is handed on (R50, R135; log 37) -/

/-- A grant pass that grants nothing: the triggers are met at its end. -/
theorem Brings.grantRest {n : Nat} {s t : State} {b : Bus} (ha : s.agenda = []) (hp : (s.onHold (· + 1)).PassesRest b)
    (meets : Brings n [.meet] s t) : Brings (n + 4) (Machine.grantPass b) s t := by
  have ho : (s.onHold (· + 1)).agenda = [] := ha
  have opened : Brings 1 [.openHold] s (s.onHold (· + 1)) := .single ha ha rfl
  have closed : doTask .closeHold (s.onHold (· + 1)) = s.push [.meet] := by
    simp [doTask, State.closeHold, State.push, State.onHold, State.onAgenda]
  have passes := (Brings.single (t := .grantAdoptions b) ho ho hp.adoptions).append (.single (t := .grantHeads b) ho ho hp.heads)
  exact ((opened.append passes).append (.task ho ha closed meets)).mono (by omega)

/-- The sequencer takes a change of flags, and the grant pass grants nothing. -/
theorem Brings.flags {n : Nat} {s x t : State} {c : Nat} {b : Bus} (ha : s.agenda = []) (hb : s.busOf c = some b)
    (hx : s.seqOnFlags b c = x) (hax : x.agenda = []) (hp : (x.onHold (· + 1)).PassesRest b) (meets : Brings n [.meet] x t) :
    Brings (n + 5) [.permitOnFlags c] s t := by
  refine .task ha hax ?_ (.grantRest hax hp meets)
  change s.permitOnFlags c = _
  rw [State.permitOnFlags, hb]
  exact congrArg (State.push · _) hx

/-- A change of flags that the sequencer makes nothing of. -/
theorem Brings.flagTasks_rest {s : State} {c : Nat} {b : Bus} (h : s.AtRest) (hb : s.busOf c = some b) (hx : s.seqOnFlags b c = s)
    (hp : (s.onHold (· + 1)).PassesRest b) (differ : Bool) : Brings 7 (flagTasks c differ) s s := by
  cases differ with
  | false => exact (Brings.nothing h.1).mono (by decide)
  | true => exact (Brings.flags h.1 hb hx h.1 hp (.rest h)).append (.rest h)

/-! ### Passes that find nothing where bypasses are under way -/

/-- The states in which the sequencer transfers the bus. -/
def SeqState.moves : SeqState → Bool
  | .preparing | .closing | .rePreparing | .opening => true
  | .normal | .onMaintBypass | .returnWait => false

theorem SeqState.moves_iff {x : SeqState} : x.moves = true ↔ x = .preparing ∨ x = .closing ∨ x = .rePreparing ∨ x = .opening := by
  cases x <;> simp [SeqState.moves]

/-- Every live permit of the bus is a bypass, past its wait or while the sequencer transfers the bus; RETURN_WAIT is not on. -/
structure State.Bypassing (s : State) (b : Bus) : Prop where
  kind : ∀ q ∈ s.par.permits, q.bus = b → q.kind = .busBypass
  waiting : ∀ q ∈ s.par.permits, q.bus = b → q.state = .waiting → (s.seqOf b).state.moves = true
  noReturn : (s.seqOf b).state ≠ .returnWait

theorem State.Bypassing.congr {s t : State} {b : Bus} (h : s.Bypassing b) (e : t.par = s.par) : t.Bypassing b := by
  have seq : t.seqOf b = s.seqOf b := by rw [State.seqOf, e, State.seqOf]
  exact ⟨e ▸ h.kind, by rw [e, seq]; exact h.waiting, by rw [seq]; exact h.noReturn⟩

theorem mem_waitQueue {s : State} {b : Bus} {q : Permit} (h : q ∈ s.waitQueue b) :
    q ∈ s.par.permits ∧ q.bus = b ∧ q.state = .waiting := by
  simpa [State.waitQueue] using h

section
variable {s : State} {b : Bus} {q : Permit} (hk : q.kind = .busBypass) (hm : (s.seqOf q.bus).state.moves = true)
include hk hm

theorem not_isAdoption_moving : s.isAdoption q = false := by
  have away : (s.seqOf q.bus).state ≠ .onMaintBypass := fun h => by rw [h] at hm; exact nomatch hm
  simp [State.isAdoption, hk, away]

omit hk in
theorem not_grantable_moving : s.grantable q = false := by
  unfold State.grantable
  rcases SeqState.moves_iff.mp hm with h | h | h | h <;> rw [h] <;> cases s.bus q.bus <;> rfl

end

theorem State.Bypassing.passesRest {s : State} {b : Bus} (h : s.Bypassing b) : s.PassesRest b := by
  have noTest : s.par.permits.filter (fun q => q.bus == b && q.isTest && q.state == .granted) = [] := by
    rw [List.filter_eq_nil_iff]
    intro q hq
    simp only [Bool.and_eq_true, beq_iff_eq]
    rintro ⟨⟨hb, ht⟩, -⟩
    rw [Permit.isTest, h.kind q hq hb] at ht
    exact Bool.noConfusion ht
  have noYield : s.yieldCandidate b = none := by
    cases hy : s.yieldCandidate b with
    | none => rfl
    | some p =>
      obtain ⟨⟨hp, hc⟩, -⟩ := yieldCandidate_some hy
      obtain ⟨hb, hk, -⟩ := canYield_iff.mp hc
      exact nomatch (h.kind p hp hb).symm.trans hk
  have moving : ∀ q ∈ s.waitQueue b, q.kind = .busBypass ∧ (s.seqOf q.bus).state.moves = true := by
    intro q hq
    obtain ⟨hp, hb, hw⟩ := mem_waitQueue hq
    exact ⟨h.kind q hp hb, hb.symm ▸ h.waiting q hp hb hw⟩
  refine ⟨yieldTests_noTest noTest, yieldWithdrawals_none noYield, ?_, ?_, returnCheck_other h.noReturn⟩
  · have none : (s.waitQueue b).find? s.isAdoption = none := List.find?_eq_none.mpr fun q hq => by
      rw [not_isAdoption_moving (moving q hq).1 (moving q hq).2]
      exact Bool.false_ne_true
    rw [State.grantAdoptions, none]
  · cases head : (s.waitQueue b).head? with
    | none => rw [State.grantHeads, head]
    | some q =>
      rw [State.grantHeads, head]
      exact if_neg (by rw [not_grantable_moving (moving q (List.mem_of_head? head)).2]; exact Bool.false_ne_true)

/-- The trigger of such a bus is met by its recomputation. -/
theorem Brings.bypassing {s : State} {b : Bus} (h : s.AtRest) (hb : s.Bypassing b) :
    Brings 11 [.meet] (s.trigger b) (s.recompute b) :=
  .recompute h (State.Bypassing.passesRest (hb.congr (t := (s.recompute b).onHold (· + 1)) (State.recompute_par s b)))

end Sys2Proof.Machine

namespace Sys2Proof.Machine

/-! ### The one bypass of a bus (R142 to R145) -/

theorem onSeq_congr {s : State} {b : Bus} {f g : Sequencer → Sequencer} (h : f (s.seqOf b) = g (s.seqOf b)) :
    s.onSeq b f = s.onSeq b g := by
  unfold State.seqOf at h
  unfold State.onSeq State.onPar
  dsimp only
  rw [h]

/-- A permit has left the table (R147). -/
def State.gone (s : State) (p : Permit) : State := s.onPar fun x => { x with permits := x.permits.filter fun q => q.id != p.id }

theorem gone_onSeq (s : State) (p : Permit) (b : Bus) (f : Sequencer → Sequencer) : (s.gone p).onSeq b f = (s.onSeq b f).gone p := rfl

theorem onQueue_onSeq (s : State) (b : Bus) (g : TransferQueue → TransferQueue) (f : Sequencer → Sequencer) :
    (s.onQueue b g).onSeq b f = (s.onSeq b f).onQueue b g := rfl

theorem onQueue_gone (s : State) (p : Permit) (b : Bus) (g : TransferQueue → TransferQueue) :
    (s.onQueue b g).gone p = (s.gone p).onQueue b g := rfl

section
variable (s : State) (kind : NoticeKind) (subject : Subject) (value result : Nat)

theorem raise_onSeq (b : Bus) (f : Sequencer → Sequencer) :
    (s.raise kind subject value result).onSeq b f = (s.onSeq b f).raise kind subject value result := rfl

theorem raise_gone (p : Permit) :
    (s.raise kind subject value result).gone p = (s.gone p).raise kind subject value result := rfl

end

/-! ### What raising a notice and changing the permits, a queue or a sequencer leave unchanged -/

section
variable (s : State) (kind : NoticeKind) (subject : Subject) (value result : Nat)

@[simp] theorem State.raise_par : (s.raise kind subject value result).par = s.par := rfl
@[simp] theorem State.raise_clc : (s.raise kind subject value result).clc = s.clc := rfl
@[simp] theorem State.raise_seqOf (b : Bus) : (s.raise kind subject value result).seqOf b = s.seqOf b := rfl
@[simp] theorem State.onQueue_clc (b : Bus) (f : TransferQueue → TransferQueue) : (s.onQueue b f).clc = s.clc := rfl
@[simp] theorem State.onQueue_seqOf (b c : Bus) (f : TransferQueue → TransferQueue) : (s.onQueue b f).seqOf c = s.seqOf c := rfl
@[simp] theorem State.onQueue_permits (b : Bus) (f : TransferQueue → TransferQueue) :
    (s.onQueue b f).par.permits = s.par.permits := rfl
@[simp] theorem State.onSeq_clc (b : Bus) (f : Sequencer → Sequencer) : (s.onSeq b f).clc = s.clc := rfl
@[simp] theorem State.onSeq_permits (b : Bus) (f : Sequencer → Sequencer) : (s.onSeq b f).par.permits = s.par.permits := rfl
@[simp] theorem State.gone_clc (p : Permit) : (s.gone p).clc = s.clc := rfl
@[simp] theorem State.gone_seqOf (p : Permit) (b : Bus) : (s.gone p).seqOf b = s.seqOf b := rfl
@[simp] theorem State.gone_permits (p : Permit) : (s.gone p).par.permits = s.par.permits.filter fun q => q.id != p.id := rfl

end

namespace State.AtRest
variable {s : State} (h : s.AtRest)
include h

theorem raise (kind : NoticeKind) (subject : Subject) (value result : Nat) : (s.raise kind subject value result).AtRest := h

theorem onQueue (b : Bus) (f : TransferQueue → TransferQueue) : (s.onQueue b f).AtRest := h

theorem onSeq (b : Bus) (f : Sequencer → Sequencer) : (s.onSeq b f).AtRest := h

theorem gone (p : Permit) : (s.gone p).AtRest := h

end State.AtRest

/-- The passes find nothing of the one permit of a bus where it is a bypass past its wait, or the sequencer transfers the bus. -/
theorem bypassing_one {s : State} {b : Bus} {p : Permit} (hall : s.par.permits.filter (fun q => q.bus == b) = [p])
    (hkind : p.kind = .busBypass) (hs : p.state ≠ .waiting ∨ (s.seqOf b).state.moves = true) (hr : (s.seqOf b).state ≠ .returnWait) :
    s.Bypassing b := by
  refine ⟨fun q hq hb => ?_, fun q hq hb hw => ?_, hr⟩
  · rw [permit_only hall hq hb, hkind]
  · rw [permit_only hall hq hb] at hw
    exact hs.resolve_left (fun x => x hw)

/-- One bypass permit alone on a bus whose priority lane is empty and whose queue is not served while a spacing runs. -/
structure State.OneBypass (s : State) (b : Bus) (p : Permit) : Prop where
  all : s.par.permits.filter (fun q => q.bus == b) = [p]
  one : ∀ q ∈ s.par.permits, q.id = p.id → q = p
  kind : p.kind = .busBypass
  cabinet : p.cabinet = none
  holder : p.holder = 0
  priority : (s.queueOf b).priority = []
  spacing : (s.queueOf b).spacingDue ≠ none

namespace State.OneBypass
variable {s : State} {b : Bus} {p : Permit} (h : s.OneBypass b p)
include h

theorem bus : p.bus = b := (permit_of_bus h.all h.one).2

theorem permit : s.permit p.id = some p := (permit_of_bus h.all h.one).1

theorem subject : p.subject = { bus := b.val + 1, permit := p.id } := by
  simp [Permit.subject, Permit.slot, busCode, h.bus, h.kind, h.cabinet, h.holder]

theorem bypassPermit (hs : p.state ≠ .waiting) : s.bypassPermit b = some p := by
  have mem : p ∈ s.par.permits := List.mem_of_find?_eq_some h.permit
  refine find?_of_unique mem (by simp [h.kind, h.bus, hs]) fun q hq hc => permit_only h.all hq ?_
  simp only [Bool.and_eq_true, beq_iff_eq] at hc
  exact hc.1.2

/-- Only the permits and the queue of the bus matter. -/
theorem congr {t : State} (e : t.par.permits = s.par.permits) (hp : (t.queueOf b).priority = (s.queueOf b).priority)
    (hs : (t.queueOf b).spacingDue ≠ none) : t.OneBypass b p :=
  ⟨by rw [e, h.all], by rw [e]; exact h.one, h.kind, h.cabinet, h.holder, hp.trans h.priority, hs⟩

/-- Once it has ended no permit of the bus is left. -/
theorem bypassing_gone {t : State} (e : t.par.permits = s.par.permits.filter fun q => q.id != p.id)
    (hr : (t.seqOf b).state ≠ .returnWait) : t.Bypassing b := by
  have none : ∀ q ∈ t.par.permits, q.bus ≠ b := by
    intro q hq hb
    rw [e] at hq
    obtain ⟨hm, hne⟩ := List.mem_filter.mp hq
    rw [permit_only h.all hm hb] at hne
    simp at hne
  exact ⟨fun q hq hb => absurd hb (none q hq), fun q hq hb => absurd hb (none q hq), hr⟩

/-- Its end: it has no command in the queue (R147). -/
theorem endPermit (hn : (s.queueOf b).inHand = none) (ho : ∀ e ∈ (s.queueOf b).ordinary, e.permit = none) (r : PermitResult) :
    s.endPermit p.id r = ((s.gone p).raise .permitEnded
      { bus := b.val + 1, permit := p.id } (1 + p.state.code * 256) r.code).trigger b := by
  have ended := endPermit_eq h.permit h.holder r
  have kept : (s.queueOf b).ordinary.filter (fun e => e.permit != some p.id) = (s.queueOf b).ordinary :=
    List.filter_eq_self.mpr fun e he => by rw [ho e he]; rfl
  rw [h.bus, h.subject, h.kind, onQueue_self (by
    rw [kept, h.priority, hn, List.filter_nil, Option.map_none, ← h.priority, ← hn])] at ended
  exact ended

end State.OneBypass

/-! ### Commands of the sequencer join the queue (R138) -/

/-- An entry joins the ordinary lane behind the entries of other cabinets. -/
theorem join_new {q : TransferQueue} {e : TransferEntry} (hp : q.priority = []) (ho : ∀ x ∈ q.ordinary, x.cabinet ≠ e.cabinet)
    (rank : TransferEntry → Nat) : q.join rank false e = { q with ordinary := q.ordinary ++ [e] } := by
  have free : ∀ x ∈ q.ordinary, (!x.isOf e.cabinet) = true := fun x hx => by simpa [TransferEntry.isOf] using ho x hx
  have bars : q.bars e = false := by
    have none : (q.waiting.any fun x => x.isOf e.cabinet && !x.command.ofBypass) = false := by
      rw [List.any_eq_false, TransferQueue.waiting, hp, List.nil_append]
      intro x hx
      have := free x hx
      simp_all
    exact (congrArg (_ && ·) none).trans (Bool.and_false _)
  have before : (q.ordinary.takeWhile fun x => !x.isOf e.cabinet) = q.ordinary := List.takeWhile_eq_self_iff.mpr free
  unfold TransferQueue.join
  rw [bars, if_neg Bool.false_ne_true, if_neg Bool.false_ne_true]
  dsimp only
  rw [before, List.drop_length, hp]
  rfl

/-- The entry of a BYPASS_CANCEL. -/
def cancelEntry (c : Nat) : TransferEntry := { cabinet := c, command := .cancel, permit := none }

/-- The BYPASS_CANCELs of a set join one after another while the queue is not served. -/
theorem foldl_cancel (b : Bus) (set : List Nat) : ∀ (before : List Nat) (s : State), (before ++ set).Nodup →
    (s.queueOf b).spacingDue ≠ none → (s.queueOf b).priority = [] → (s.queueOf b).ordinary = before.map cancelEntry →
    set.foldl (fun s c => s.bypassCommand b c .cancel) s =
      s.onQueue b fun q => { q with ordinary := (before ++ set).map cancelEntry } := by
  induction set with
  | nil =>
    intro before s _ _ _ ho
    exact (onQueue_self (s := s) (by rw [List.append_nil, ← ho])).symm
  | cons c rest ih =>
    intro before s nd spacing hp ho
    have new : ∀ x ∈ (s.queueOf b).ordinary, x.cabinet ≠ (cancelEntry c).cabinet := by
      rw [ho]
      intro x hx
      obtain ⟨d, hd, rfl⟩ := List.mem_map.mp hx
      exact (List.nodup_append.mp nd).2.2 d hd c List.mem_cons_self
    have joined : s.bypassCommand b c .cancel = s.onQueue b fun q => { q with ordinary := (before ++ [c]).map cancelEntry } := by
      refine (enqueue_busy (.inr spacing) false (cancelEntry c)).trans (onQueue_congr ?_)
      rw [join_new hp new, ho, List.map_append]
      rfl
    rw [List.foldl_cons, joined, ih (before ++ [c])]
    · rw [onQueue_onQueue, List.append_assoc]
      rfl
    · rwa [List.append_assoc]
    · rwa [queueOf_onQueue]
    · rwa [queueOf_onQueue]
    · rw [queueOf_onQueue]

/-- A command of the sequencer joins an empty queue that is not served. -/
theorem bypassCommand_alone {s : State} {b : Bus} (hp : (s.queueOf b).priority = []) (ho : (s.queueOf b).ordinary = [])
    (spacing : (s.queueOf b).spacingDue ≠ none) (c : Nat) (command : TransferCommand) :
    s.bypassCommand b c command = s.onQueue b fun q =>
      { q with ordinary := [{ cabinet := c, command := command, permit := none }] } := by
  refine (enqueue_busy (.inr spacing) false _).trans (onQueue_congr ?_)
  rw [join_new hp (by rw [ho]; exact fun x hx => nomatch hx), ho]
  rfl


/-! ### The transfer fails (R144) -/

/-- The cabinets that may have acted: those a PREPARE was handed for, and the master once the CLOSE was (R144). -/
def State.cancelSet (s : State) (b : Bus) : List Nat :=
  let handed := ((s.seqOf b).prepared.filter fun x => x.handed).map fun x => x.cabinet
  handed ++ if (s.seqOf b).closeHanded then (s.masterOf b).toList.filter fun m => !handed.contains m else []

theorem cancelSet_nodup {s : State} {b : Bus} (nd : ((s.seqOf b).prepared.map fun x => x.cabinet).Nodup) : (s.cancelSet b).Nodup := by
  refine List.nodup_append.mpr ⟨(List.Sublist.map _ List.filter_sublist).nodup nd, ?_, fun x hx y hy e => ?_⟩
  · split
    · cases s.masterOf b with
      | none => exact List.nodup_nil
      | some m => exact (List.filter_sublist.nodup (List.nodup_singleton m))
    · exact List.nodup_nil
  · split at hy
    · have away := (List.mem_filter.mp hy).2
      rw [← e] at away
      simp only [Bool.not_eq_true', List.contains_eq_mem, decide_eq_false_iff_not] at away
      exact away hx
    · exact nomatch hy

/-- The sequencer NORMAL with its marks cleared, as a failed transfer leaves it (R144; log 17). -/
def Sequencer.failed (q : Sequencer) : Sequencer :=
  { state := .normal, orphan := q.orphan, prepared := [], syncDue := none, transferDue := none, closeHanded := false,
    returnSince := q.returnSince }

/-- The transfer has failed: the sequencer is NORMAL, the cancels of the set wait, and the permit has ended (R144, R147). -/
def State.transferFailed (s : State) (b : Bus) (p : Permit) (set : List Nat) (result : Nat) : State :=
  ((((s.onSeq b Sequencer.failed).gone p).onQueue b fun q => { q with ordinary := set.map cancelEntry }).raise .bypassFailed
    { bus := b.val + 1, permit := p.id } 0 result).raise .permitEnded { bus := b.val + 1, permit := p.id } (1 + p.state.code * 256) 6

/-- Every command of the sequence under way leaves the queue, with none in hand (R144). -/
theorem TransferQueue.sequence_gone {q : TransferQueue} (hp : q.priority = []) (hn : q.inHand = none)
    (only : ∀ e ∈ q.ordinary, e.ofSequence = true) :
    ({ priority := q.priority.filter fun e => !e.ofSequence, ordinary := q.ordinary.filter fun e => !e.ofSequence,
       inHand := q.inHand.map fun h => if h.entry.ofSequence = true then { h with used := false } else h,
       spacingDue := q.spacingDue } : TransferQueue) = { q with ordinary := [] } := by
  have emptied : q.ordinary.filter (fun e => !e.ofSequence) = [] :=
    List.filter_eq_nil_iff.mpr fun e he => by rw [only e he]; exact Bool.false_ne_true
  rw [emptied, hp, hn]
  rfl

namespace State.OneBypass
variable {s : State} {b : Bus} {p : Permit} (h : s.OneBypass b p)
include h

theorem undoSequence (hn : (s.queueOf b).inHand = none) (only : ∀ e ∈ (s.queueOf b).ordinary, e.ofSequence = true)
    (nd : (s.cancelSet b).Nodup) :
    s.undoSequence b = (s.onSeq b fun q => { q with syncDue := none, transferDue := none, closeHanded := false }).onQueue b fun q =>
      { q with ordinary := (s.cancelSet b).map cancelEntry } := by
  have queue := onQueue_congr (s := s.onSeq b fun q => { q with syncDue := none, transferDue := none, closeHanded := false }) (b := b)
    (f := fun q =>
      { priority := q.priority.filter fun e => !e.ofSequence, ordinary := q.ordinary.filter fun e => !e.ofSequence,
        inHand := q.inHand.map fun h => if h.entry.ofSequence = true then { h with used := false } else h,
        spacingDue := q.spacingDue })
    (g := fun q => { q with ordinary := [] }) (TransferQueue.sequence_gone h.priority hn only)
  change (s.cancelSet b).foldl (fun s c => s.bypassCommand b c .cancel) (State.voidInHand (State.dequeue _ b _) b _) = _
  rw [dequeue_voidInHand, queue, foldl_cancel b (s.cancelSet b) [] _ nd, onQueue_onQueue]
  · rfl
  · rw [queueOf_onQueue]
    exact h.spacing
  · rw [queueOf_onQueue]
    exact h.priority
  · rw [queueOf_onQueue]
    rfl

theorem failTransfer (hn : (s.queueOf b).inHand = none) (only : ∀ e ∈ (s.queueOf b).ordinary, e.ofSequence = true)
    (nd : (s.cancelSet b).Nodup) (hs : p.state ≠ .waiting) (result : Nat) :
    s.failTransfer b result = (s.transferFailed b p (s.cancelSet b) result).trigger b := by
  have undone := h.undoSequence hn only nd
  have queue : ((s.undoSequence b).queueOf b) = { s.queueOf b with ordinary := (s.cancelSet b).map cancelEntry } := by
    rw [undone, queueOf_onQueue]
    rfl
  have x : (s.undoSequence b).OneBypass b p := by
    refine h.congr (by rw [undone]; rfl) (by rw [queue]) ?_
    rw [queue]
    exact h.spacing
  have cancels : ∀ e ∈ ((s.undoSequence b).queueOf b).ordinary, e.permit = none := by
    rw [queue]
    intro e he
    obtain ⟨c, -, rfl⟩ := List.mem_map.mp he
    rfl
  have raised : ((s.undoSequence b).raise .bypassFailed { bus := b.val + 1, permit := p.id } 0 result).OneBypass b p :=
    x.congr rfl rfl x.spacing
  have ended := raised.endPermit (by change ((s.undoSequence b).queueOf b).inHand = none; rw [queue, hn]) cancels .failed
  have once : ∀ (x : State) (f g : Sequencer → Sequencer), (((x.trigger b).onSeq b f).onSeq b g).trigger b =
      ((x.onSeq b f).onSeq b g).trigger b := fun x f g => State.trigger_trigger ((x.onSeq b f).onSeq b g) b
  unfold State.failTransfer
  dsimp only
  rw [x.bypassPermit hs]
  dsimp only
  rw [h.subject, ended, State.seqTo, once, undone]
  change State.trigger (State.onSeq (State.onSeq (State.raise (State.gone (State.raise (State.onQueue _ b _) ..) p) ..) b _) b _) b = _
  simp only [raise_onSeq, raise_gone, gone_onSeq, onQueue_onSeq, onQueue_gone, onSeq_onSeq]
  rfl

end State.OneBypass

end Sys2Proof.Machine

namespace Sys2Proof.Machine

/-! ### The checks of SYNC_OK and of the master (R143, R145) -/

theorem allSynced_iff {s : State} {b : Bus} : s.allSynced b = true ↔ (∀ x ∈ (s.seqOf b).prepared, x.accepted = true) ∧
    ∀ x ∈ (s.seqOf b).prepared, ∃ v, s.wordOf x.cabinet = some v ∧ v.syncOk = true := by
  simp only [State.allSynced, List.all_eq_true, Bool.and_eq_true, Option.any_eq_true]
  exact ⟨fun h => ⟨fun x hx => (h x hx).1, fun x hx => (h x hx).2⟩, fun h x hx => ⟨h.1 x hx, h.2 x hx⟩⟩

theorem wordOf_congr {s t : State} (h : t.cabinets = s.cabinets) : t.wordOf = s.wordOf := by
  funext c
  simp only [State.wordOf, State.cabinet, h]

/-- The prepared set with one more PREPARE accepted (R143 step 2). -/
def acceptedIn (c : Nat) (set : List Prepared) : List Prepared :=
  set.map fun x => if x.cabinet = c then { x with accepted := true } else x

/-- The sequence has gone on: the sync timer is off and the master's command waits (R143 step 3, R145 step 4). -/
def State.advanced (s : State) (b : Bus) (next : SeqState) (m : Nat) (command : TransferCommand) : State :=
  (s.onSeq b fun q => { q with state := next, syncDue := none }).onQueue b fun q =>
    { q with ordinary := [{ cabinet := m, command := command, permit := none }] }

/-- The bypass stands: ON_MAINT_BYPASS with BYPASS_DONE (R143 step 5; log 17). -/
def State.bypassClosed (s : State) (b : Bus) (p : Permit) : State :=
  (s.onSeq b fun q => { q with state := .onMaintBypass, transferDue := none, closeHanded := false }).raise .bypassDone
    { bus := b.val + 1, permit := p.id } (s.now - p.grantUptime.getD s.now) 1

/-- The return is done: NORMAL with BYPASS_DONE, and the permit ended (R145 step 6). -/
def State.bypassOpened (s : State) (b : Bus) (p : Permit) : State :=
  (((s.onSeq b fun q => { q with state := .normal, transferDue := none, returnSince := none, prepared := [] }).gone p).raise
    .bypassDone { bus := b.val + 1, permit := p.id } (s.now - (s.seqOf b).returnSince.getD s.now) 2).raise .permitEnded
    { bus := b.val + 1, permit := p.id } (1 + p.state.code * 256) 1

namespace State.OneBypass
variable {s : State} {b : Bus} {p : Permit} (h : s.OneBypass b p)
include h

theorem advances (ho : (s.queueOf b).ordinary = []) (next : SeqState) (m : Nat) (command : TransferCommand) :
    ((s.onSeq b fun q => { q with syncDue := none }).seqTo b next).bypassCommand b m command =
      (s.advanced b next m command).trigger b := by
  rw [bypassCommand_alone (s := (s.onSeq b fun q => { q with syncDue := none }).seqTo b next) h.priority ho h.spacing, State.seqTo,
    onSeq_onSeq]
  rfl

theorem syncCheck_closing {m : Nat} (ho : (s.queueOf b).ordinary = []) (ready : s.allSynced b = true)
    (hst : (s.seqOf b).state = .preparing) (hm : s.masterOf b = some m) :
    s.syncCheck b = (s.advanced b .closing m .close).trigger b := by
  rw [State.syncCheck, if_pos ready, hst, hm]
  exact h.advances ho .closing m .close

theorem syncCheck_opening {m : Nat} (ho : (s.queueOf b).ordinary = []) (ready : s.allSynced b = true)
    (hst : (s.seqOf b).state = .rePreparing) (hm : s.masterOf b = some m) :
    s.syncCheck b = (s.advanced b .opening m .openBypass).trigger b := by
  rw [State.syncCheck, if_pos ready, hst, hm]
  exact h.advances ho .opening m .openBypass

theorem masterCheck_closing {due : Nat} (hst : (s.seqOf b).state = .closing) (ht : (s.seqOf b).transferDue = some due)
    (hc : s.masterClosed b = some true) (hs : p.state ≠ .waiting) (hr : p.returnOrdered = false) :
    s.masterCheck b = (s.bypassClosed b p).trigger b := by
  unfold State.masterCheck
  rw [hst, ht, hc, h.bypassPermit hs]
  dsimp only
  rw [hr, if_neg Bool.false_ne_true, h.subject, State.seqTo, raise_onSeq, raise_onSeq, onSeq_onSeq]
  rfl

theorem masterCheck_opening {due : Nat} (hst : (s.seqOf b).state = .opening) (ht : (s.seqOf b).transferDue = some due)
    (hc : s.masterClosed b = some false) (hs : p.state ≠ .waiting) (hn : (s.queueOf b).inHand = none)
    (ho : (s.queueOf b).ordinary = []) : s.masterCheck b = (s.bypassOpened b p).trigger b := by
  unfold State.masterCheck
  rw [hst, ht, hc, h.bypassPermit hs]
  dsimp only
  rw [State.seqTo, raise_onSeq, raise_onSeq, onSeq_onSeq]
  have ended := State.OneBypass.endPermit (s := ((s.onSeq b fun q =>
      { q with state := .normal, transferDue := none, returnSince := none, prepared := [] }).raise .bypassDone p.subject
      (s.now - (s.seqOf b).returnSince.getD s.now) 2).trigger b) (h.congr rfl rfl h.spacing) hn
    (by change ∀ e ∈ (s.queueOf b).ordinary, _; rw [ho]; exact fun e he => nomatch he) .returned
  refine ended.trans ?_
  rw [h.subject]
  exact State.trigger_trigger (s.bypassOpened b p) b

end State.OneBypass

section
variable {s : State} {b : Bus}

/-- A PREPARE is accepted, and others are not yet. -/
theorem prepareAccepted_more {c : Nat} (hn : ¬ ∀ x ∈ acceptedIn c (s.seqOf b).prepared, x.accepted = true) :
    s.prepareAccepted b c = s.onSeq b fun q => { q with prepared := acceptedIn c q.prepared } := by
  have notAll : ¬ ((s.onSeq b fun q => { q with prepared := acceptedIn c q.prepared }).seqOf b).prepared.all (fun x => x.accepted) =
      true := by
    rw [seqOf_onSeq, List.all_eq_true]
    exact hn
  exact if_neg notAll

/-- The last PREPARE is accepted: the sync timer starts and SYNC_OK is checked. -/
theorem prepareAccepted_last {c : Nat} {u : BusUnit} (hu : s.bus b = some u)
    (ha : ∀ x ∈ acceptedIn c (s.seqOf b).prepared, x.accepted = true) :
    s.prepareAccepted b c = (s.onSeq b fun q =>
      { q with prepared := acceptedIn c q.prepared, syncDue := some (s.now + u.defn.syncTimeout) }).syncCheck b := by
  have all : ((s.onSeq b fun q => { q with prepared := acceptedIn c q.prepared }).seqOf b).prepared.all (fun x => x.accepted) =
      true := by
    rw [seqOf_onSeq, List.all_eq_true]
    exact ha
  refine (if_pos all).trans ?_
  rw [onSeq_onSeq]
  change State.syncCheck (State.onSeq s b fun q =>
    { q with prepared := acceptedIn c q.prepared, syncDue := some (s.now + ((s.bus b).map fun u => u.defn.syncTimeout).getD 0) }) b = _
  rw [hu]
  rfl

end

/-- The master's command is accepted: the transfer timer starts and the master is examined. -/
theorem moveAccepted_eq {s : State} {b : Bus} {u : BusUnit} (hu : s.bus b = some u) :
    s.moveAccepted b = (s.onSeq b fun q => { q with transferDue := some (s.now + u.defn.transferTimeout) }).masterCheck b := by
  unfold State.moveAccepted
  rw [hu]
  rfl

/-- The master does not yet show the end of the transfer. -/
theorem masterCheck_rest {s : State} {b : Bus} {closed : Bool} (hm : s.masterClosed b = some closed)
    (hs : (s.seqOf b).state = if closed then .opening else .closing) : s.masterCheck b = s := by
  unfold State.masterCheck
  rw [hs, hm]
  cases closed <;> cases (s.seqOf b).transferDue <;> rfl

end Sys2Proof.Machine

namespace Sys2Proof.Machine

/-! ### The timers of the sequencer fail the transfer (R143, R144) -/

theorem cancelSet_eq {s : State} {b : Bus} {closeHanded : Bool} (hc : (s.seqOf b).closeHanded = closeHanded) {handed : List Nat}
    (hh : ((s.seqOf b).prepared.filter fun x => x.handed).map (fun x => x.cabinet) = handed) :
    s.cancelSet b = handed ++ if closeHanded then (s.masterOf b).toList.filter fun m => !handed.contains m else [] := by
  rw [← hc, ← hh]
  rfl

/-- Before the CLOSE only those of the PREPAREs may have acted. -/
theorem cancelSet_prepared {s : State} {b : Bus} (hc : (s.seqOf b).closeHanded = false) :
    s.cancelSet b = ((s.seqOf b).prepared.filter fun x => x.handed).map fun x => x.cabinet :=
  (cancelSet_eq hc rfl).trans (List.append_nil _)

/-- The master too once the CLOSE was handed. -/
theorem cancelSet_master {s : State} {b : Bus} {m : Nat} (hc : (s.seqOf b).closeHanded = true) (hm : s.masterOf b = some m)
    {handed : List Nat} (hh : ((s.seqOf b).prepared.filter fun x => x.handed).map (fun x => x.cabinet) = handed) :
    s.cancelSet b = if m ∈ handed then handed else handed ++ [m] := by
  rw [cancelSet_eq hc hh, hm]
  by_cases h : m ∈ handed <;> simp [h]

/-- Nothing of a failed transfer depends on its timers. -/
theorem transferFailed_onSeq {s : State} {b : Bus} {f : Sequencer → Sequencer} (hf : ∀ q : Sequencer, (f q).failed = q.failed)
    (p : Permit) (set : List Nat) (result : Nat) : (s.onSeq b f).transferFailed b p set result = s.transferFailed b p set result := by
  unfold State.transferFailed
  rw [onSeq_onSeq]
  simp only [hf]

theorem State.OneBypass.failed_rest {s : State} {b : Bus} {p : Permit} (h : s.OneBypass b p) (rest : s.AtRest) (set : List Nat)
    (result : Nat) : (s.transferFailed b p set result).AtRest ∧ (s.transferFailed b p set result).Bypassing b := by
  refine ⟨((((rest.onSeq b _).gone p).onQueue b _).raise ..).raise .., h.bypassing_gone ?_ ?_⟩
  · simp [State.transferFailed]
  · simp [State.transferFailed, Sequencer.failed]

/-- Clearing a timer changes nothing of how the transfer fails. -/
theorem State.OneBypass.failTransfer_onSeq {s : State} {b : Bus} {p : Permit} (h : s.OneBypass b p)
    (hn : (s.queueOf b).inHand = none) (ho : (s.queueOf b).ordinary = []) (hs : p.state ≠ .waiting)
    (nd : ((s.seqOf b).prepared.map fun x => x.cabinet).Nodup) {f : Sequencer → Sequencer}
    (hf : ∀ q : Sequencer, (f q).failed = q.failed ∧ (f q).prepared = q.prepared ∧ (f q).closeHanded = q.closeHanded) (result : Nat) :
    (s.onSeq b f).failTransfer b result = (s.transferFailed b p (s.cancelSet b) result).trigger b := by
  have off : (s.onSeq b f).OneBypass b p := h.congr rfl rfl h.spacing
  have set : (s.onSeq b f).cancelSet b = s.cancelSet b := by
    unfold State.cancelSet
    rw [seqOf_onSeq, (hf _).2.1, (hf _).2.2]
    rfl
  have none : ∀ e ∈ (s.queueOf b).ordinary, e.ofSequence = true := by rw [ho]; exact fun e he => nomatch he
  have fails := off.failTransfer hn none (set ▸ cancelSet_nodup nd) hs result
  rwa [set, transferFailed_onSeq fun q => (hf q).1] at fails

/-- A timer that has come due fails the transfer. -/
theorem run_timer_fails {s : State} {b : Bus} {p : Permit} {set : List Nat} {result : Nat} {due : State → Bool} {work : State → State}
    (hq : s.Quiet) (h : s.OneBypass b p) (hd : due s = true)
    (hw : work s = (s.transferFailed b p set result).trigger b) :
    run (fun s => s.onlyIf (due s) fun s => (work s).push [.meet]) s = .next ((s.transferFailed b p set result).recompute b) := by
  obtain ⟨rest, gone⟩ := h.failed_rest hq.atRest set result
  exact (run_allowed due hq.1 hd).trans (run_brings (u := (s.transferFailed b p set result).trigger b) hq.1 rest.1
    (congrArg (State.push · [.meet]) hw) (.bypassing rest gone) (by decide))

theorem reached_iff {s : State} {due : Nat} : s.reached (some due) = true ↔ due ≤ s.now := by
  simp [State.reached]

section
variable {s : State} {b : Bus} {p : Permit} {due : Nat} (hq : s.Quiet) (h : s.OneBypass b p) (hn : (s.queueOf b).inHand = none)
  (ho : (s.queueOf b).ordinary = []) (hs : p.state ≠ .waiting) (nd : ((s.seqOf b).prepared.map fun x => x.cabinet).Nodup)
  (hdue : due ≤ s.now)
include hq h hn ho hs nd hdue

theorem exec_syncTimer_fails (hst : (s.seqOf b).state = .preparing) (ht : (s.seqOf b).syncDue = some due) :
    exec (.syncTimerExpiry b) s = .next ((s.transferFailed b p (s.cancelSet b) 1).recompute b) := by
  refine run_timer_fails (due := fun s => s.reached (s.seqOf b).syncDue) (work := fun s => s.syncExpiry b) hq h ?_ ?_
  · exact (congrArg s.reached ht).trans (reached_iff.mpr hdue)
  · refine Eq.trans ?_ (h.failTransfer_onSeq hn ho hs nd (f := fun q => { q with syncDue := none }) (fun _ => ⟨rfl, rfl, rfl⟩) 1)
    unfold State.syncExpiry
    dsimp only
    rw [seqOf_onSeq, hst]

theorem exec_transferTimer_fails (hst : (s.seqOf b).state = .closing) (ht : (s.seqOf b).transferDue = some due) :
    exec (.transferTimerExpiry b) s = .next ((s.transferFailed b p (s.cancelSet b) 4).recompute b) := by
  refine run_timer_fails (due := fun s => s.reached (s.seqOf b).transferDue) (work := fun s => s.transferExpiry b) hq h ?_ ?_
  · exact (congrArg s.reached ht).trans (reached_iff.mpr hdue)
  · refine Eq.trans ?_ (h.failTransfer_onSeq hn ho hs nd (f := fun q => { q with transferDue := none }) (fun _ => ⟨rfl, rfl, rfl⟩) 4)
    unfold State.transferExpiry
    dsimp only
    rw [seqOf_onSeq, hst]

end

/-! ### Outcomes of the sequencer's commands (R143, R145) -/

theorem transferFinal_bypass {s : State} {b : Bus} {e : TransferEntry} (hh : (s.queueOf b).inHand = some { entry := e, used := true })
    (hc : e.ofSequence = true) (o : TxOutcome) : s.transferFinal b o = ((s.handFree b).bypassFinal b e o).push [.meet] := by
  unfold State.transferFinal
  rw [hh]
  dsimp only
  cases h : e.command with
  | prepare => rfl
  | close => rfl
  | openBypass => rfl
  | withdraw => simp [TransferEntry.ofSequence, h] at hc
  | goOnline => simp [TransferEntry.ofSequence, h] at hc
  | cancel => simp [TransferEntry.ofSequence, h] at hc

section
variable {s x : State} {b : Bus} {e : TransferEntry} {o : TxOutcome} (rest : s.AtRest)
  (hh : (s.queueOf b).inHand = some { entry := e, used := true }) (hc : e.ofSequence = true) (rx : x.AtRest)
include rest hh hc rx

/-- An outcome that leaves the state of the sequencer. -/
theorem Brings.sequenceStays (hx : (s.handFree b).bypassFinal b e o = x) : Brings 12 [.transferFinal b o] s x := by
  have done : doTask (.transferFinal b o) s = x.push [.meet] := hx ▸ transferFinal_bypass hh hc o
  exact (Brings.task rest.1 rx.1 done (.rest rx)).mono (by decide)

/-- An outcome that changes the state of the sequencer: the bus is recomputed. -/
theorem Brings.sequenceMoves (hx : (s.handFree b).bypassFinal b e o = x.trigger b) (hb : x.Bypassing b) :
    Brings 12 [.transferFinal b o] s (x.recompute b) := by
  have done : doTask (.transferFinal b o) s = (x.trigger b).push [.meet] := hx ▸ transferFinal_bypass hh hc o
  exact .task (u := x.trigger b) rest.1 rx.1 done (.bypassing rx hb)

end

end Sys2Proof.Machine

namespace Sys2Proof.Machine

/-! ### A report stored (R38, R39) -/

/-- The state with a report of a cabinet stored. -/
def State.reported (s : State) (c : Nat) (k : Cabinet) (w : StateWord) : State :=
  s.setCabinet c (some { k with track := k.track.reported w s.now })

section
variable (s : State) (c : Nat) (k : Cabinet) (w : StateWord)

@[simp] theorem reported_par : (s.reported c k w).par = s.par := State.setCabinet_par ..
@[simp] theorem reported_clc : (s.reported c k w).clc = s.clc := State.setCabinet_clc ..
@[simp] theorem reported_now : (s.reported c k w).now = s.now := by rw [State.now, State.reported, State.setCabinet_clock]; rfl
@[simp] theorem reported_bus (b : Bus) : (s.reported c k w).bus b = s.bus b := bus_setCabinet ..

theorem State.AtRest.reported {s : State} (h : s.AtRest) : (s.reported c k w).AtRest := h.setCabinet c _

end

section
variable {s : State} {c : Nat} {k : Cabinet} (hk : s.cabinet c = some k) (w : StateWord)
include hk

theorem cabinet_reported : (s.reported c k w).cabinet c = some { k with track := k.track.reported w s.now } := by
  obtain ⟨h1, h24⟩ := State.cabinet_range hk
  exact State.cabinet_setCabinet_same s h1 h24 _

theorem busOf_reported : (s.reported c k w).busOf c = some k.defn.bus := by rw [State.busOf, cabinet_reported hk w]; rfl

theorem wordOf_reported : (s.reported c k w).wordOf c = some w := by rw [State.wordOf, cabinet_reported hk w]; rfl

theorem swapped_reported (hs : (k.track.reported w s.now).state = k.track.state) :
    Swapped s (s.reported c k w) c k { k with track := k.track.reported w s.now } :=
  ⟨hk, cabinet_reported hk w, fun _ hm => State.cabinet_setCabinet_other s hm _, rfl, hs, State.setCabinet_scs .., reported_par ..⟩

end

theorem Swapped.masterOf {s t : State} {c : Nat} {k j : Cabinet} (h : Swapped s t c k j) (b : Bus) : t.masterOf b = s.masterOf b := by
  have index : ∀ p : Nat × Cabinet, (swapAt c j p).1 = p.1 := fun p => by unfold swapAt; split <;> rfl
  unfold State.masterOf
  rw [← List.head?_filter, ← List.head?_filter, h.cabinetsOf, filter_swapAt (fun p hp => h.held_bus hp) (by rw [h.defn]),
    List.head?_map, Option.map_map]
  exact congrArg (Option.map · _) (funext index)

theorem Track.Plain.same_state {t : Track} (h : t.Plain) {v w : StateWord} (hv : t.lastWord = some v) (hm : v.mode = w.mode)
    (now : Nat) : (t.reported w now).state = t.state := by rw [h.state_reported, h.state hv, hm]

/-! ### The reply of a transfer command and an alert, past which the sequencer reads the flags (R50) -/

section
variable {s : State} {c : Nat} {k : Cabinet} {v w : StateWord} (rest : s.AtRest) (hk : s.cabinet c = some k) (plain : k.track.Plain)
  (hv : k.track.lastWord = some v) (hm : v.mode = w.mode)
include rest hk plain hv hm

/-- A reply whose flags the sequencer makes nothing of. -/
theorem Brings.reported {o : TxOutcome} (ho : o.isFailure = false)
    (hx : (s.reported c k w).seqOnFlags k.defn.bus c = s.reported c k w)
    (hp : ((s.reported c k w).onHold (· + 1)).PassesRest k.defn.bus) :
    Brings 9 [.trackAttempt c o false (some w)] s (s.reported c k w) := by
  have stored := rest.reported c k w
  exact .task rest.1 stored.1 (trackAttempt_plain hk plain hv hm ho)
    ((Brings.rest stored).append (.flagTasks_rest stored (busOf_reported hk w) hx hp _))

/-- The notice of an alert that leaves the tracked state (R48). -/
def State.alerted (s : State) (c : Nat) (k : Cabinet) (w : StateWord) (cause : Nat) : State :=
  (s.reported c k w).raise .cabinetState { bus := k.defn.bus.val + 1, cabinet := c }
    (cause * 65536 + k.track.state.code * 256 + k.track.state.code) 2

/-- An alert with a change of flags that moves the sequencer: the bus is recomputed. -/
theorem Brings.alerted {cause : Nat} {x : State} (hc : cause ≠ 0) (differ : StateWord.flagsDiffer (some v) w = true)
    (hx : (s.alerted c k w cause).seqOnFlags k.defn.bus c = x.trigger k.defn.bus) (rx : x.AtRest) (hb : x.Bypassing k.defn.bus) :
    Brings 19 [.trackAlert c w cause] s (x.recompute k.defn.bus) := by
  have stored : (s.alerted c k w cause).AtRest := (rest.reported c k w).raise ..
  have done : doTask (.trackAlert c w cause) s = (s.alerted c k w cause).push (.meet :: flagTasks c true) :=
    differ ▸ trackAlert_plain hk plain hv hm hc
  have pass : ((x.trigger k.defn.bus).onHold (· + 1)).PassesRest k.defn.bus := State.Bypassing.passesRest (hb.congr rfl)
  have flags := Brings.flags (c := c) (s := s.alerted c k w cause) stored.1 (busOf_reported hk w) hx rx.1 pass (.bypassing rx hb)
  exact .task rest.1 stored.1 done ((Brings.rest stored).append (flags.append (.rest (rx.recompute _))))

end

/-- A transfer command answered, its flags nothing to the sequencer, ended on a link for which nothing waits. -/
theorem exec_transfer_reported {n : Nat} {s t : State} {f : InFlight} {command : CabinetCommand} {b : Bus} {k : Cabinet}
    {word result check : Byte} {v w : StateWord} (hq : s.Quiet) (he : s.clc.Empty) (hl : s.clc.link = .own)
    (hf : s.clc.inFlight = some f) (hs : f.request.requester = .transfer b) (hp : f.request.cls = .command command)
    (hcred : f.request.credited = true) (hk : s.cabinet f.request.cabinet = some k) (hw : StateWord.ofByte word = some w)
    (hc : check = crc8 [f.request.header, word, result]) (plain : k.track.Plain) (hv : k.track.lastWord = some v)
    (hm : v.mode = w.mode) (hb : k.defn.bus = b)
    (hx : (s.landed.reported f.request.cabinet k w).seqOnFlags b f.request.cabinet = s.landed.reported f.request.cabinet k w)
    (hpass : (s.landed.reported f.request.cabinet k w).Bypassing b)
    (ends : Brings n [.transferFinal b (if result = 0#8 then .ok else .refused (min result.toNat 4))]
      (s.landed.reported f.request.cabinet k w) t) (hn : n ≤ 1000) (hclc : t.clc = s.landed.clc) :
    exec (.commandComplete (.reply { stateWord := word, result := result } check)) s = .next (t.idled false) := by
  subst hb
  have success : (if result = 0#8 then TxOutcome.ok else .refused (min result.toNat 4)).isFailure = false := by split <;> rfl
  have final : f.request.again (if result = 0#8 then TxOutcome.ok else .refused (min result.toNat 4)) = false := by
    split <;> simp [LinkRequest.again]
  have pass : ((s.landed.reported f.request.cabinet k w).onHold (· + 1)).PassesRest k.defn.bus := State.Bypassing.passesRest (hpass.congr rfl)
  have track := Brings.reported (s := s.landed) hq.atRest hk plain hv hm success hx pass
  rw [exec_commandComplete hq.1 hf (by rw [hp]; rfl), commandResult_reply hw hc]
  refine run_finish_empty (n := 9 + n) hq hf final ?_ (by unfold settleBound; omega) ?_ ?_
  · rw [handed_transfer hs hp hcred]
    exact track.append ends
  · rw [hclc]
    change s.clc.link ≠ .down
    rw [hl]
    nofun
  · rw [hclc]
    exact he

/-! ### Flags the sequencer makes nothing of -/

theorem seqOnFlags_unsynced {s : State} {b : Bus} (hst : (s.seqOf b).state = .preparing ∨ (s.seqOf b).state = .rePreparing)
    (hn : s.allSynced b = false) (c : Nat) : s.seqOnFlags b c = s := by
  have same : s.syncCheck b = s := if_neg (by rw [hn]; exact Bool.false_ne_true)
  unfold State.seqOnFlags
  rcases hst with h | h <;> rw [h] <;> exact same

theorem masterCheck_noTimer {s : State} {b : Bus} (ht : (s.seqOf b).transferDue = none) : s.masterCheck b = s := by
  unfold State.masterCheck
  rw [ht]
  cases (s.seqOf b).state <;> rfl

theorem seqOnFlags_noTimer {s : State} {b : Bus} (hst : (s.seqOf b).state = .closing ∨ (s.seqOf b).state = .opening)
    (ht : (s.seqOf b).transferDue = none) (c : Nat) : s.seqOnFlags b c = s := by
  have same : (if s.masterOf b = some c then s.masterCheck b else s) = s := by rw [masterCheck_noTimer ht, ite_self]
  unfold State.seqOnFlags
  rcases hst with h | h <;> rw [h] <;> exact same

end Sys2Proof.Machine

namespace Sys2Proof.Machine

/-! ### Outcomes of the sequencer's commands, case by case (R143, R145) -/

theorem bypassFinal_prepare {s : State} {b : Bus} {e : TransferEntry} (hc : e.command = .prepare)
    (hst : (s.seqOf b).state = .preparing ∨ (s.seqOf b).state = .rePreparing) : s.bypassFinal b e .ok = s.prepareAccepted b e.cabinet := by
  unfold State.bypassFinal
  rcases hst with h | h <;> rw [hc, h] <;> exact if_pos rfl

theorem bypassFinal_prepareRefused {s : State} {b : Bus} {e : TransferEntry} (hc : e.command = .prepare)
    (hst : (s.seqOf b).state = .preparing) (code : Nat) : s.bypassFinal b e (.refused code) = s.failTransfer b 2 := by
  unfold State.bypassFinal
  rw [hc, hst]
  exact if_neg nofun

theorem bypassFinal_move {s : State} {b : Bus} {e : TransferEntry}
    (hst : e.command = .close ∧ (s.seqOf b).state = .closing ∨ e.command = .openBypass ∧ (s.seqOf b).state = .opening) :
    s.bypassFinal b e .ok = s.moveAccepted b := by
  unfold State.bypassFinal
  rcases hst with ⟨hc, h⟩ | ⟨hc, h⟩ <;> rw [hc, h]
  exact if_pos rfl

theorem State.OneBypass.advanced_rest {s : State} {b : Bus} {p : Permit} (h : s.OneBypass b p) (rest : s.AtRest) {next : SeqState}
    (hn : next.moves = true) (m : Nat) (command : TransferCommand) :
    (s.advanced b next m command).AtRest ∧ (s.advanced b next m command).Bypassing b := by
  have seq : ((s.advanced b next m command).seqOf b).state = next := by simp [State.advanced]
  refine ⟨(rest.onSeq b _).onQueue b _, bypassing_one h.all h.kind (.inr (by rw [seq, hn])) ?_⟩
  rw [seq]
  rintro rfl
  exact nomatch hn

theorem State.OneBypass.closed_rest {s : State} {b : Bus} {p : Permit} (h : s.OneBypass b p) (rest : s.AtRest) (hs : p.state ≠ .waiting) :
    (s.bypassClosed b p).AtRest ∧ (s.bypassClosed b p).Bypassing b := by
  refine ⟨(rest.onSeq b _).raise .., bypassing_one h.all h.kind (.inl hs) ?_⟩
  simp [State.bypassClosed]

theorem State.OneBypass.opened_rest {s : State} {b : Bus} {p : Permit} (h : s.OneBypass b p) (rest : s.AtRest) :
    (s.bypassOpened b p).AtRest ∧ (s.bypassOpened b p).Bypassing b := by
  refine ⟨(((rest.onSeq b _).gone p).raise ..).raise .., h.bypassing_gone ?_ ?_⟩
  · simp [State.bypassOpened]
  · simp [State.bypassOpened]

section
variable {s y : State} {b : Bus} {p : Permit} {u : BusUnit} {e : TransferEntry} (rest : s.AtRest)
  (hh : (s.queueOf b).inHand = some { entry := e, used := true }) (hy : s.handFree b = y) (ry : y.AtRest)
include rest hh hy ry

/-- A PREPARE accepted while others are not. -/
theorem Brings.prepareMore (hc : e.command = .prepare) (hst : (y.seqOf b).state = .preparing ∨ (y.seqOf b).state = .rePreparing)
    (hn : ¬ ∀ x ∈ acceptedIn e.cabinet (y.seqOf b).prepared, x.accepted = true) :
    Brings 12 [.transferFinal b .ok] s (y.onSeq b fun q => { q with prepared := acceptedIn e.cabinet q.prepared }) :=
  .sequenceStays rest hh (by simp [TransferEntry.ofSequence, hc]) (ry.onSeq b _)
    (by rw [hy, bypassFinal_prepare hc hst, prepareAccepted_more hn])

variable (hu : y.bus b = some u)
include hu

/-- The last PREPARE accepted, with the set not in step: the sync timer runs. -/
theorem Brings.prepareWaits (hc : e.command = .prepare) (hst : (y.seqOf b).state = .preparing ∨ (y.seqOf b).state = .rePreparing)
    (ha : ∀ x ∈ acceptedIn e.cabinet (y.seqOf b).prepared, x.accepted = true)
    (hn : ¬ ∀ x ∈ acceptedIn e.cabinet (y.seqOf b).prepared, ∃ v, y.wordOf x.cabinet = some v ∧ v.syncOk = true) :
    Brings 12 [.transferFinal b .ok] s (y.onSeq b fun q =>
      { q with prepared := acceptedIn e.cabinet q.prepared, syncDue := some (y.now + u.defn.syncTimeout) }) := by
  refine .sequenceStays rest hh (by simp [TransferEntry.ofSequence, hc]) (ry.onSeq b _) ?_
  rw [hy, bypassFinal_prepare hc hst, prepareAccepted_last hu ha]
  refine if_neg fun ready => hn ?_
  have synced := (allSynced_iff.mp ready).2
  rw [seqOf_onSeq] at synced
  exact synced

variable (h : y.OneBypass b p)
include h

/-- The last PREPARE accepted, with the set in step: the master's command waits, and the bus is recomputed. -/
theorem Brings.prepareSyncs {m : Nat} {next : SeqState} {command : TransferCommand} (hc : e.command = .prepare)
    (hst : (y.seqOf b).state = .preparing ∧ next = .closing ∧ command = .close ∨
      (y.seqOf b).state = .rePreparing ∧ next = .opening ∧ command = .openBypass)
    (ha : ∀ x ∈ acceptedIn e.cabinet (y.seqOf b).prepared, x.accepted = true)
    (hs : ∀ x ∈ acceptedIn e.cabinet (y.seqOf b).prepared, ∃ v, y.wordOf x.cabinet = some v ∧ v.syncOk = true)
    (hm : y.masterOf b = some m) (ho : (y.queueOf b).ordinary = []) :
    Brings 12 [.transferFinal b .ok] s
      (((y.onSeq b fun q => { q with prepared := acceptedIn e.cabinet q.prepared }).advanced b next m command).recompute b) := by
  have preparing : (y.seqOf b).state = .preparing ∨ (y.seqOf b).state = .rePreparing := hst.imp And.left And.left
  have moving : next.moves = true := by rcases hst with ⟨-, rfl, -⟩ | ⟨-, rfl, -⟩ <;> rfl
  have last := prepareAccepted_last hu ha
  generalize hz : (y.onSeq b fun q =>
    { q with prepared := acceptedIn e.cabinet q.prepared, syncDue := some (y.now + u.defn.syncTimeout) }) = z at last
  have bypass : z.OneBypass b p := hz ▸ h.congr rfl rfl h.spacing
  have ready : z.allSynced b = true := by
    rw [← hz, allSynced_iff, seqOf_onSeq]
    exact ⟨ha, hs⟩
  have seq : (z.seqOf b).state = (y.seqOf b).state := by rw [← hz, seqOf_onSeq]
  have ordinary : (z.queueOf b).ordinary = [] := hz ▸ ho
  have master : z.masterOf b = some m := hz ▸ hm
  have advanced : z.advanced b next m command =
      (y.onSeq b fun q => { q with prepared := acceptedIn e.cabinet q.prepared }).advanced b next m command := by
    rw [← hz, State.advanced, State.advanced, onSeq_onSeq, onSeq_onSeq]
  have check : z.syncCheck b = (z.advanced b next m command).trigger b := by
    rcases hst with ⟨hst, rfl, rfl⟩ | ⟨hst, rfl, rfl⟩
    · exact bypass.syncCheck_closing ordinary ready (seq.trans hst) master
    · exact bypass.syncCheck_opening ordinary ready (seq.trans hst) master
  obtain ⟨rx, bx⟩ := bypass.advanced_rest (hz ▸ ry.onSeq b _) moving m command
  rw [← advanced]
  exact .sequenceMoves rest hh (by simp [TransferEntry.ofSequence, hc]) rx
    (by rw [hy, bypassFinal_prepare hc preparing, last, check]) bx

end

section
variable {s y : State} {b : Bus} {p : Permit} {u : BusUnit} {e : TransferEntry} (rest : s.AtRest)
  (hh : (s.queueOf b).inHand = some { entry := e, used := true }) (hy : s.handFree b = y) (ry : y.AtRest)
  (h : y.OneBypass b p) (hs : p.state ≠ .waiting)
include rest hh hy ry h hs

/-- A refused PREPARE fails the transfer. -/
theorem Brings.prepareRefused (hc : e.command = .prepare) (hst : (y.seqOf b).state = .preparing) (hn : (y.queueOf b).inHand = none)
    (only : ∀ e ∈ (y.queueOf b).ordinary, e.command = .prepare) (nd : ((y.seqOf b).prepared.map fun x => x.cabinet).Nodup) (code : Nat) :
    Brings 12 [.transferFinal b (.refused code)] s ((y.transferFailed b p (y.cancelSet b) 2).recompute b) := by
  have sequence : ∀ e ∈ (y.queueOf b).ordinary, e.ofSequence = true := fun e he => by simp [TransferEntry.ofSequence, only e he]
  obtain ⟨rx, bx⟩ := h.failed_rest ry (y.cancelSet b) 2
  exact .sequenceMoves rest hh (by simp [TransferEntry.ofSequence, hc]) rx
    (by rw [hy, bypassFinal_prepareRefused hc hst, h.failTransfer hn sequence (cancelSet_nodup nd) hs]) bx

variable (hu : y.bus b = some u)
include hu

omit h hs in
/-- The master's command is accepted, and the master does not yet show the end of the transfer: the transfer timer runs. -/
theorem Brings.moveWaits {closed : Bool} (hc : e.command = if closed then .openBypass else .close)
    (hst : (y.seqOf b).state = if closed then .opening else .closing) (hm : y.masterClosed b = some closed) :
    Brings 12 [.transferFinal b .ok] s (y.onSeq b fun q => { q with transferDue := some (y.now + u.defn.transferTimeout) }) := by
  have move : e.command = .close ∧ (y.seqOf b).state = .closing ∨ e.command = .openBypass ∧ (y.seqOf b).state = .opening := by
    cases closed
    · exact .inl ⟨hc, hst⟩
    · exact .inr ⟨hc, hst⟩
  refine .sequenceStays rest hh (by cases closed <;> simp [TransferEntry.ofSequence, hc]) (ry.onSeq b _) ?_
  rw [hy, bypassFinal_move move, moveAccepted_eq hu]
  exact masterCheck_rest hm (by rw [seqOf_onSeq]; exact hst)

/-- The master's CLOSE is accepted and it shows the bypass closed. -/
theorem Brings.moveCloses (hc : e.command = .close) (hst : (y.seqOf b).state = .closing) (hm : y.masterClosed b = some true)
    (hr : p.returnOrdered = false) : Brings 12 [.transferFinal b .ok] s ((y.bypassClosed b p).recompute b) := by
  have timed : (y.onSeq b fun q => { q with transferDue := some (y.now + u.defn.transferTimeout) }).OneBypass b p :=
    h.congr rfl rfl h.spacing
  have check := timed.masterCheck_closing (by rw [seqOf_onSeq]; exact hst) (congrArg Sequencer.transferDue (seqOf_onSeq ..)) hm hs hr
  have same : (y.onSeq b fun q => { q with transferDue := some (y.now + u.defn.transferTimeout) }).bypassClosed b p =
      y.bypassClosed b p := by
    unfold State.bypassClosed
    rw [onSeq_onSeq]
    rfl
  obtain ⟨rx, bx⟩ := h.closed_rest ry hs
  exact .sequenceMoves rest hh (by simp [TransferEntry.ofSequence, hc]) rx
    (by rw [hy, bypassFinal_move (.inl ⟨hc, hst⟩), moveAccepted_eq hu, check, same]) bx

/-- The master's OPEN is accepted and it shows the bypass open. -/
theorem Brings.moveOpens (hc : e.command = .openBypass) (hst : (y.seqOf b).state = .opening) (hm : y.masterClosed b = some false)
    (hn : (y.queueOf b).inHand = none) (ho : (y.queueOf b).ordinary = []) :
    Brings 12 [.transferFinal b .ok] s ((y.bypassOpened b p).recompute b) := by
  have timed : (y.onSeq b fun q => { q with transferDue := some (y.now + u.defn.transferTimeout) }).OneBypass b p :=
    h.congr rfl rfl h.spacing
  have check := timed.masterCheck_opening (by rw [seqOf_onSeq]; exact hst) (congrArg Sequencer.transferDue (seqOf_onSeq ..)) hm hs hn ho
  have same : (y.onSeq b fun q => { q with transferDue := some (y.now + u.defn.transferTimeout) }).bypassOpened b p =
      y.bypassOpened b p := by
    unfold State.bypassOpened
    rw [onSeq_onSeq, seqOf_onSeq]
    rfl
  obtain ⟨rx, bx⟩ := h.opened_rest ry
  exact .sequenceMoves rest hh (by simp [TransferEntry.ofSequence, hc]) rx
    (by rw [hy, bypassFinal_move (.inr ⟨hc, hst⟩), moveAccepted_eq hu, check, same]) bx

end

end Sys2Proof.Machine

namespace Sys2Proof.Machine

theorem masterClosed_self {s : State} {b : Bus} {c : Nat} {w : StateWord} (hm : s.masterOf b = some c) (hw : s.wordOf c = some w) :
    s.masterClosed b = some w.bypassClosed := by
  unfold State.masterClosed
  rw [hm, Option.bind_some, hw]
  rfl

/-! ### The link freed beside the permits -/

section
variable (s : State) (b : Bus) (low : Bool)

theorem onSeq_idled (f : Sequencer → Sequencer) : (s.onSeq b f).idled low = (s.idled low).onSeq b f := rfl

theorem onQueue_idled (f : TransferQueue → TransferQueue) : (s.onQueue b f).idled low = (s.idled low).onQueue b f := rfl

theorem gone_idled (p : Permit) : (s.gone p).idled low = (s.idled low).gone p := rfl

theorem transferFailed_idled (p : Permit) (set : List Nat) (result : Nat) :
    (s.transferFailed b p set result).idled low = (s.idled low).transferFailed b p set result := by
  simp only [State.transferFailed, raise_idled, onQueue_idled, gone_idled, onSeq_idled]

theorem bypassClosed_idled (p : Permit) : (s.bypassClosed b p).idled low = (s.idled low).bypassClosed b p := by
  simp only [State.bypassClosed, raise_idled, onSeq_idled]
  rfl

theorem bypassOpened_idled (p : Permit) : (s.bypassOpened b p).idled low = (s.idled low).bypassOpened b p := by
  simp only [State.bypassOpened, raise_idled, gone_idled, onSeq_idled]
  rfl

end

/-- Settles O54: what each timer, outcome and report makes of the sequencer, and the recomputation of its bus. -/
theorem bypassTimersFailTheTransfer : Obligations.BypassTimersFailTheTransfer := by
  intro b p u s hq hu hall hone hkind hcab hhold hpri hnd subject handed cancels sent seq gone failed closed synced
  have bypass : ∀ t : State, t.par.permits = s.par.permits → (t.queueOf b).priority = (s.queueOf b).priority →
      (t.queueOf b).spacingDue ≠ none → t.OneBypass b p := fun t ht hp hs =>
    ⟨by rw [ht]; exact hall, by rw [ht]; exact hone, hkind, hcab, hhold, hp.trans hpri, hs⟩
  have failed_eq : ∀ (t : State) (set : List Nat) (result : Nat), t.seqOf b = s.seqOf b →
      (t.transferFailed b p set result).recompute b = failed t set result := by
    intro t set result ht
    unfold State.transferFailed
    rw [onSeq_congr (f := Sequencer.failed) (g := fun q =>
      { state := .normal, orphan := q.orphan, prepared := [], syncDue := none, transferDue := none, closeHanded := false,
        returnSince := (s.seqOf b).returnSince }) (by rw [ht]; rfl)]
    rfl
  have closed_eq : ∀ t : State, t.seqOf b = s.seqOf b → (s.seqOf b).syncDue = none → t.now = s.now →
      (t.bypassClosed b p).recompute b = closed t := by
    intro t ht hs hn
    unfold State.bypassClosed
    rw [onSeq_congr (f := fun q => { q with state := .onMaintBypass, transferDue := none, closeHanded := false }) (g := fun q =>
      { state := .onMaintBypass, orphan := q.orphan, prepared := (s.seqOf b).prepared, syncDue := none, transferDue := none,
        closeHanded := false, returnSince := (s.seqOf b).returnSince }) (by rw [ht, ← hs]), hn]
  refine ⟨?timers, ?answered, ?alert⟩
  case timers =>
    intro due spacing hstate hord hin hspacing hdue
    have h := bypass s rfl rfl (by rw [hspacing]; nofun)
    have granted : p.state ≠ .waiting := by rw [hstate]; nofun
    refine ⟨fun hst ht hclose => ?_, fun m hst ht hclose hm => ?_⟩
    · rw [exec_syncTimer_fails hq h hin hord granted hnd hdue hst ht, cancelSet_prepared hclose, failed_eq s _ 1 rfl]
    · rw [exec_transferTimer_fails hq h hin hord granted hnd hdue hst ht, cancelSet_master hclose hm rfl, failed_eq s _ 4 rfl]
  case answered =>
    intro f command entry c k word result check v w he hl hf hs hp hc hcred hk hb hw hcheck hlast hm hreach hov hfirst hby htest
      hhand ended heard
    subst hc
    have plain : k.track.Plain := ⟨hreach, hov, hfirst, hby⟩
    have rest : (s.landed.reported f.request.cabinet k w).AtRest := State.AtRest.reported (s := s.landed) f.request.cabinet k w hq.atRest
    have answers := fun n t hx hpass ends => exec_transfer_reported (n := n) (t := t) hq he hl hf hs hp hcred hk hw hcheck plain hlast
      hm hb hx hpass ends
    have word_eq : (s.landed.reported f.request.cabinet k w).wordOf f.request.cabinet = some w := wordOf_reported (s := s.landed) hk w
    have master : (s.landed.reported f.request.cabinet k w).masterOf b = s.masterOf b :=
      (swapped_reported (s := s.landed) hk w (plain.same_state hlast hm _)).masterOf b
    have par : (s.landed.reported f.request.cabinet k w).par = s.par := reported_par ..
    have clc : (s.landed.reported f.request.cabinet k w).clc = s.landed.clc := reported_clc ..
    have bus : (s.landed.reported f.request.cabinet k w).bus b = some u := (reported_bus ..).trans hu
    have now : (s.landed.reported f.request.cabinet k w).now = s.now := reported_now ..
    have freed : (s.landed.reported f.request.cabinet k w).idled false =
      (s.landed.idled false).reported f.request.cabinet k w := setCabinet_idled ..
    generalize s.landed.reported f.request.cabinet k w = x at *
    have seq : x.seqOf b = s.seqOf b := by rw [State.seqOf, par, State.seqOf]
    have queue : x.queueOf b = s.queueOf b := by rw [State.queueOf, par, State.queueOf]
    have hand := (congrArg TransferQueue.inHand queue).trans hhand
    generalize hy : x.handFree b = y
    have freed : y.idled false = heard := by
      rw [← hy, State.handFree, bus, now]
      change State.onQueue (x.idled false) b (fun q => { q with inHand := none, spacingDue := some (s.now + u.defn.spacing) }) = _
      rw [freed]
      rfl
    have yqueue : y.queueOf b = { s.queueOf b with inHand := none, spacingDue := some (s.now + u.defn.spacing) } := by
      rw [← hy, State.handFree, queueOf_onQueue, queue, bus, now]
      rfl
    have yseq : y.seqOf b = s.seqOf b := by rw [← hy, ← seq]; rfl
    have ybus : y.bus b = some u := by rw [← hy]; exact bus
    have ynow : y.now = s.now := by rw [← hy, ← now]; rfl
    have yclc : y.clc = s.landed.clc := by rw [← hy, ← clc]; rfl
    have yrest : y.AtRest := hy ▸ rest.onQueue b _
    have yword : y.wordOf = x.wordOf := by rw [← hy]; exact wordOf_congr rfl
    have hword : heard.wordOf = y.wordOf := by rw [← freed]; exact wordOf_congr rfl
    have ymaster : y.masterOf b = s.masterOf b := by rw [← hy, ← master]; exact masterOf_congr rfl b
    have ypar : y.par.permits = s.par.permits := by rw [← hy, ← par]; rfl
    have h : y.OneBypass b p := bypass y ypar (by rw [yqueue]) (by rw [yqueue]; nofun)
    have yhand : (y.queueOf b).inHand = none := by rw [yqueue]
    have yord : (y.queueOf b).ordinary = (s.queueOf b).ordinary := by rw [yqueue]
    have passes : (s.seqOf b).state.moves = true → x.Bypassing b := fun hm =>
      bypassing_one (par ▸ hall) hkind (.inr (by rw [seq]; exact hm)) (by rw [seq]; rintro e; rw [e] at hm; exact nomatch hm)
    refine ⟨?prepare, ?move⟩
    case prepare =>
      intro hcommand hentry hex accepted all
      subst hentry
      have unsynced : x.allSynced b = false := by
        obtain ⟨z, hz, -, hacc⟩ := hex
        rw [← Bool.not_eq_true]
        intro hall
        have := (allSynced_iff.mp hall).1 z (by rw [seq]; exact hz)
        rw [hacc] at this
        exact nomatch this
      have ends : (s.seqOf b).state = .preparing ∨ (s.seqOf b).state = .rePreparing → ∀ t, Brings 12 [.transferFinal b
          (if result = 0#8 then .ok else .refused (min result.toNat 4))] x t → t.clc = y.clc → ended = .next (t.idled false) :=
        fun hst t brings ht => answers 12 t (seqOnFlags_unsynced (by rw [seq]; exact hst) unsynced _)
          (passes (SeqState.moves_iff.mpr (hst.elim .inl fun h => .inr (.inr (.inl h))))) brings (by decide) (ht.trans yclc)
      have prepared : acceptedIn f.request.cabinet (y.seqOf b).prepared = accepted := by rw [yseq]; rfl
      have synced_iff : synced heard.wordOf accepted ↔ ∀ z ∈ accepted, ∃ v, y.wordOf z.cabinet = some v ∧ v.syncOk = true := by
        rw [hword]
      refine ⟨fun hr hst => ?_, fun hr hst hgranted hclose honly => ?_⟩
      · have ends := ends hst
        rw [if_pos hr] at ends
        have yst : (y.seqOf b).state = .preparing ∨ (y.seqOf b).state = .rePreparing := by rw [yseq]; exact hst
        refine ⟨fun hmore => ?_, fun hall hsync => ?_, fun m hall hsync hm hord => ?_⟩
        · have more := Brings.prepareMore rest hand hy yrest rfl yst (by rw [prepared]; exact hmore)
          rw [onSeq_congr (g := fun q => { q with prepared := accepted }) (by rw [prepared])] at more
          rw [ends _ more rfl, ← freed]
          rfl
        · have waits := Brings.prepareWaits rest hand hy yrest ybus rfl yst (by rw [prepared]; exact hall)
            (by rw [prepared, ← synced_iff]; exact hsync)
          rw [onSeq_congr (g := fun q => { q with prepared := accepted, syncDue := some (s.now + u.defn.syncTimeout) })
            (by rw [prepared, ynow])] at waits
          rw [ends _ waits rfl, ← freed]
          rfl
        · have advanced_eq : ∀ next command, ((((y.onSeq b fun q => { q with prepared := acceptedIn f.request.cabinet q.prepared }).advanced
              b next m command).recompute b).idled false) = (sent m command (heard.onSeq b fun q =>
                { q with state := next, prepared := accepted, syncDue := none })).recompute b := by
            intro next command
            rw [recompute_idled, State.advanced, onSeq_onSeq, onSeq_congr (g := fun q =>
              { q with state := next, prepared := accepted, syncDue := none }) (by rw [prepared]), onQueue_idled, onSeq_idled, freed]
          have syncs := fun next command hst => Brings.prepareSyncs (m := m) (next := next) (command := command) rest hand hy yrest ybus
            h rfl hst (by rw [prepared]; exact hall) (by rw [prepared, ← synced_iff]; exact hsync) (ymaster.trans hm) (yord.trans hord)
          by_cases hprep : (s.seqOf b).state = .preparing
          · rw [if_pos hprep, ends _ (syncs .closing .close (.inl ⟨yseq ▸ hprep, rfl, rfl⟩)) (State.recompute_clc ..), advanced_eq]
          · rw [if_neg hprep, ends _ (syncs .opening .openBypass (.inr ⟨yseq ▸ hst.resolve_left hprep, rfl, rfl⟩))
              (State.recompute_clc ..), advanced_eq]
      · have ends := ends (.inl hst)
        rw [if_neg hr] at ends
        have refused := Brings.prepareRefused rest hand hy yrest h (by rw [hgranted]; nofun) rfl (by rw [yseq]; exact hst) yhand
          (by rw [yord]; exact honly) (by rw [yseq]; exact hnd) (min result.toNat 4)
        have clc : (y.transferFailed b p (y.cancelSet b) 2).clc = y.clc := by simp [State.transferFailed]
        have set : y.cancelSet b = handed := by
          rw [cancelSet_prepared (by rw [yseq]; exact hclose), yseq]
        rw [ends _ refused ((State.recompute_clc ..).trans clc), recompute_idled, transferFailed_idled, freed, set,
          failed_eq heard handed 2 (by rw [← freed]; exact yseq)]
    case move =>
      intro hmaster hdue hr hord moved
      have ends : (s.seqOf b).state = .closing ∨ (s.seqOf b).state = .opening → ∀ t, Brings 12 [.transferFinal b .ok] x t →
          t.clc = y.clc → ended = .next (t.idled false) := by
        intro hst t brings ht
        rw [← (if_pos hr : (if result = 0#8 then TxOutcome.ok else .refused (min result.toNat 4)) = .ok)] at brings
        exact answers 12 t (seqOnFlags_noTimer (by rw [seq]; exact hst) (by rw [seq]; exact hdue) _)
          (passes (SeqState.moves_iff.mpr (hst.elim (fun h => .inr (.inl h)) fun h => .inr (.inr (.inr h))))) brings (by decide)
          (ht.trans yclc)
      have shows : y.masterClosed b = some w.bypassClosed := masterClosed_self (ymaster.trans hmaster) (yword ▸ word_eq)
      have hseq : heard.seqOf b = s.seqOf b := by rw [← freed]; exact yseq
      have hnow : heard.now = s.now := by rw [← freed]; exact ynow
      have moved_eq : (y.onSeq b fun q => { q with transferDue := some (y.now + u.defn.transferTimeout) }).idled false = moved := by
        rw [onSeq_idled, freed, ynow]
      refine ⟨fun hcommand hentry hst hreturn hgranted hsync => ⟨fun hopen => ?_, fun hclosed => ?_⟩,
        fun hcommand hentry hst hreturning hsync hclose => ⟨fun hclosed => ?_, fun hopen => ?_⟩⟩
      · have waits := Brings.moveWaits (closed := false) rest hand hy yrest ybus hentry (by rw [yseq]; exact hst) (by rw [shows, hopen])
        rw [ends (.inl hst) _ waits rfl, moved_eq]
      · have closes := Brings.moveCloses rest hand hy yrest h (by rw [hgranted]; nofun) ybus hentry (by rw [yseq]; exact hst)
          (by rw [shows, hclosed]) hreturn
        rw [ends (.inl hst) _ closes (State.recompute_clc ..), recompute_idled, bypassClosed_idled, freed]
        exact congrArg Host.Outcome.next (closed_eq heard hseq hsync hnow)
      · have waits := Brings.moveWaits (closed := true) rest hand hy yrest ybus hentry (by rw [yseq]; exact hst) (by rw [shows, hclosed])
        rw [ends (.inr hst) _ waits rfl, moved_eq]
      · have opens := Brings.moveOpens rest hand hy yrest h (by rw [hreturning]; nofun) ybus hentry (by rw [yseq]; exact hst)
          (by rw [shows, hopen]) yhand (by rw [yord, hord])
        rw [ends (.inr hst) _ opens (State.recompute_clc ..), recompute_idled, bypassOpened_idled, freed]
        unfold State.bypassOpened
        rw [onSeq_congr (g := fun q =>
          { state := .normal, orphan := q.orphan, prepared := [], syncDue := none, transferDue := none, closeHanded := false,
            returnSince := none }) (by rw [hseq, hsync, hclose]), hseq, hnow, hreturning]
        rfl
  case alert =>
    intro header word cause check after c k v w hl he hc h1 h31 hcheck hw hb hlast hm hreach hov hfirst hby htest hgranted hord
      spacing hspacing ended given told
    subst hb
    have hk : s.cabinet c = some k := mem_definedCabinets (List.mem_of_mem_filter (hc ▸ List.mem_singleton_self (c, k)))
    have plain : k.track.Plain := ⟨hreach, hov, hfirst, hby⟩
    have some_cause : given ≠ 0 := by
      simp only [given]
      split <;> omega
    have tasks : s.alertTasks header word cause check = [.trackAlert c w given] := alertTasks_valid hc h1 h31 hcheck hw
    have rest : (s.alerted c k w given).AtRest := (State.AtRest.reported c k w hq.atRest).raise ..
    have ends : ∀ x : State, StateWord.flagsDiffer (some v) w = true →
        (s.alerted c k w given).seqOnFlags k.defn.bus c = x.trigger k.defn.bus → x.AtRest → x.Bypassing k.defn.bus → x.clc = s.clc →
        ended = .next ((x.idled (lineLow after)).recompute k.defn.bus) := by
      intro x differ hx rx bx clc
      have alerted := Brings.alerted hq.atRest hk plain hlast hm some_cause differ hx rx bx
      rw [← tasks] at alerted
      rw [← recompute_idled]
      exact run_alertReceived hq hl alerted (by decide) ((State.recompute_clc ..).trans clc) (.inl he)
    have par : (s.alerted c k w given).par = s.par := reported_par ..
    have clc : (s.alerted c k w given).clc = s.clc := reported_clc ..
    have now : (s.alerted c k w given).now = s.now := reported_now ..
    have word_eq : (s.alerted c k w given).wordOf c = some w := wordOf_reported hk w
    have master : (s.alerted c k w given).masterOf k.defn.bus = s.masterOf k.defn.bus :=
      (swapped_reported hk w (plain.same_state hlast hm _)).masterOf k.defn.bus
    have freed : (s.alerted c k w given).idled (lineLow after) = told := by
      rw [State.alerted, raise_idled, State.reported, setCabinet_idled]
      rfl
    generalize s.alerted c k w given = x at *
    have seq_eq : x.seqOf k.defn.bus = s.seqOf k.defn.bus := by rw [State.seqOf, par, State.seqOf]
    have queue : x.queueOf k.defn.bus = s.queueOf k.defn.bus := by rw [State.queueOf, par, State.queueOf]
    have h : x.OneBypass k.defn.bus p := bypass x (by rw [par]) (by rw [queue]) (by rw [queue, hspacing]; nofun)
    refine ⟨fun m hst hv hw hmaster hall hsync => ?_, fun due hst hv hw hmaster hdue hsync hreturn => ?_⟩
    · have ready : x.allSynced k.defn.bus = true := by
        rw [allSynced_iff, seq_eq]
        exact ⟨hall, by rw [← freed] at hsync; exact hsync⟩
      obtain ⟨rx, bx⟩ := h.advanced_rest rest (next := .closing) rfl m .close
      have check := h.syncCheck_closing (by rw [queue, hord]) ready (by rw [seq_eq, hst]) (master.trans hmaster)
      rw [ends _ (by simp [StateWord.flagsDiffer, hv, hw]) (by rw [State.seqOnFlags, seq_eq, hst]; exact check) rx bx clc,
        ← freed]
      rfl
    · have shows : x.masterClosed k.defn.bus = some true := by rw [masterClosed_self (master.trans hmaster) word_eq, hw]
      obtain ⟨rx, bx⟩ := h.closed_rest rest (by rw [hgranted]; nofun)
      have check := h.masterCheck_closing (by rw [seq_eq, hst]) (by rw [seq_eq, hdue]) shows (by rw [hgranted]; nofun) hreturn
      have flags : x.seqOnFlags k.defn.bus c = (x.bypassClosed k.defn.bus p).trigger k.defn.bus := by
        rw [State.seqOnFlags, seq_eq, hst]
        exact (if_pos (master.trans hmaster)).trans check
      rw [ends _ (by simp [StateWord.flagsDiffer, hv, hw]) flags rx bx clc, bypassClosed_idled, freed]
      have tseq : told.seqOf k.defn.bus = s.seqOf k.defn.bus := by rw [← freed]; exact seq_eq
      exact congrArg Host.Outcome.next (closed_eq told tseq hsync (by rw [← freed]; exact now))

end Sys2Proof.Machine

namespace Sys2Proof.Machine

/-! ### A change of tracked state is handed on (R49) -/

/-- What is handed on inside a change of tracked state, in order (R49; log 13). -/
def changedTasks (c : Nat) (b : Bus) (old new : Tracked) (found : Bool) (results : List OverlayResult) : List Task :=
  (if found then [.bypassFoundClosed b] else []) ++
    ([.ageingOnChange c old new, .testOnChange c b new] ++ (results.map (Task.permitOnOverlay c) ++ [.permitOnChange c old new]))

/-- Work that changes the tracked state: the record, the notices, and the change handed on with what the report found. -/
theorem completeTrack_differ {k : Cabinet} {w : TrackWork} (h : k.track.state ≠ w.track.state) (s : State) (c : Nat) (source : Source) :
    s.completeTrack c k source w =
      (((s.setCabinet c (some { k with track := w.track.settle k.track.state })).raiseTrack c k.defn.bus k.track.state w.track.state
        source w).trigger k.defn.bus).push
        ([.openHold] ++ changedTasks c k.defn.bus k.track.state w.track.state w.bypassFound w.results ++ [.closeHold] ++
          flagTasks c w.flagsChanged) := by
  unfold State.completeTrack handOn
  simp only [h, if_false, changedTasks, flagTasks, List.append_assoc, List.cons_append, List.nil_append]

/-- A change is handed on, and the triggers raised by then are met. -/
theorem Brings.held {m n : Nat} {tasks : List Task} {s z t : State} (ha : s.agenda = []) (mid : Brings m tasks (s.onHold (· + 1)) z)
    (meets : Brings n [.meet] (z.onHold (· - 1)) t) : Brings (m + n + 2) ([.openHold] ++ tasks ++ [.closeHold]) s t := by
  have hz : z.agenda = [] := mid.choose_spec.2.2
  have opened : Brings 1 [.openHold] s (s.onHold (· + 1)) := .single ha ha rfl
  have closed : doTask .closeHold z = (z.onHold (· - 1)).push [.meet] := rfl
  exact ((opened.append mid).append (.task (u := z.onHold (· - 1)) hz hz closed meets)).mono (by omega)

/-- A handing-on is open with the trigger of one bus raised. -/
def State.opened (s : State) (b : Bus) : State := (s.trigger b).onHold (· + 1)

section
variable (s : State) (b : Bus)

@[simp] theorem opened_trigger : (s.opened b).trigger b = s.opened b := congrArg (State.onHold · (· + 1)) (State.trigger_trigger s b)

theorem opened_raise (kind : NoticeKind) (subject : Subject) (value result : Nat) :
    (s.opened b).raise kind subject value result = (s.raise kind subject value result).opened b := rfl

theorem opened_onQueue (f : TransferQueue → TransferQueue) : (s.opened b).onQueue b f = (s.onQueue b f).opened b := rfl

theorem opened_onSeq (f : Sequencer → Sequencer) : (s.opened b).onSeq b f = (s.onSeq b f).opened b := rfl

theorem opened_gone (p : Permit) : (s.opened b).gone p = (s.gone p).opened b := rfl

theorem opened_onPermit (id : Nat) (f : Permit → Permit) : (s.opened b).onPermit id f = (s.onPermit id f).opened b := rfl

end

/-- A change that nothing but the result of the overlay takes up. -/
theorem Brings.overlayEnds {n : Nat} {x y t : State} {c : Nat} {b : Bus} {old new : Tracked} {r : OverlayResult} (rest : x.AtRest)
    (ry : y.AtRest) (hold : old ≠ .onBattery) (hnew : new ≠ .onBattery) (ht : x.test.subject = none)
    (onOverlay : (x.opened b).permitOnOverlay c r = y.opened b)
    (onChange : (y.opened b).permitOnChange c old new = y.opened b) (meets : Brings n [.meet] (y.trigger b) t) :
    Brings (n + 6) ([.openHold] ++ changedTasks c b old new false [r] ++ [.closeHold]) (x.trigger b) t := by
  have hx : (x.opened b).agenda = [] := rest.1
  have hy : (y.opened b).agenda = [] := ry.1
  have ageing : doTask (.ageingOnChange c old new) (x.opened b) = x.opened b := (if_neg hnew).trans (if_neg hold)
  have test : doTask (.testOnChange c b new) (x.opened b) = x.opened b := testOnChange_idle (s := x.opened b) ht c b new
  have mid : Brings 4 (changedTasks c b old new false [r]) (x.opened b) (y.opened b) :=
    ((Brings.single hx hx ageing).append (.single hx hx test)).append
      ((Brings.single (t := .permitOnOverlay c r) hx hy onOverlay).append (.single (t := .permitOnChange c old new) hy hy onChange))
  exact (Brings.held (s := x.trigger b) rest.1 mid meets).mono (by omega)

/-! ### The one withdrawal of a bus whose overlay ends (R139, R140) -/

/-- One withdrawal under way, alone on a NORMAL bus and alone naming its cabinet. -/
structure State.OneWithdrawal (s : State) (b : Bus) (c : Nat) (p : Permit) : Prop where
  all : s.par.permits.filter (fun q => q.bus == b) = [p]
  one : ∀ q ∈ s.par.permits, q.cabinet = some c ∨ q.id = p.id → q = p
  kind : p.kind = .withdraw
  cabinet : p.cabinet = some c
  holder : p.holder = 0
  state : p.state = .granted ∨ p.state = .returning
  normal : (s.seqOf b).state = .normal

/-- The withdrawal has ended (R147). -/
def State.withdrawEnded (s : State) (b : Bus) (c : Nat) (p : Permit) (result : Nat) : State :=
  ((s.onQueue b fun q =>
    { q with priority := q.priority.filter fun e => e.permit != some p.id,
             ordinary := q.ordinary.filter fun e => e.permit != some p.id,
             inHand := q.inHand.map fun h => if h.entry.permit = some p.id then { h with used := false } else h }).gone p).raise
    .permitEnded { bus := b.val + 1, cabinet := c, permit := p.id } (p.state.code * 256) result

/-- The withdrawal's return is blocked by a reported mode (R140). -/
def State.returnStopped (s : State) (b : Bus) (c : Nat) (p : Permit) (value : Nat) : State :=
  (s.onPermit p.id fun q => { q with state := .returnBlocked }).raise .returnBlocked
    { bus := b.val + 1, cabinet := c, permit := p.id } value 2

namespace State.OneWithdrawal
variable {s : State} {b : Bus} {c : Nat} {p : Permit} (h : s.OneWithdrawal b c p)
include h

theorem found : s.permit p.id = some p ∧ p.bus = b := permit_of_bus h.all fun q hq hi => h.one q hq (.inr hi)

theorem mem : p ∈ s.par.permits := List.mem_of_find?_eq_some h.found.1

theorem congr {t : State} (e : t.par = s.par) : t.OneWithdrawal b c p :=
  ⟨by rw [e]; exact h.all, by rw [e]; exact h.one, h.kind, h.cabinet, h.holder, h.state, by rw [State.seqOf, e]; exact h.normal⟩

theorem subject : p.subject = { bus := b.val + 1, cabinet := c, permit := p.id } :=
  subject_withdraw h.found.2 h.kind h.cabinet h.holder

theorem withdrawPermit : s.withdrawPermit c = some p := by
  have under : p.state ≠ .waiting := by rcases h.state with e | e <;> rw [e] <;> nofun
  refine find?_of_unique h.mem (by simp [h.kind, h.cabinet, under]) fun q hq hc => h.one q hq (.inl ?_)
  simp only [Bool.and_eq_true, beq_iff_eq] at hc
  exact hc.1.2

theorem settled (hpol : p.policy ≠ some .yield) : s.Settled b := by
  refine settled_one h.all h.kind ?_ hpol
  rcases h.state with e | e <;> rw [e] <;> nofun

/-- Its end, in a handing-on. -/
theorem endPermit (r : PermitResult) : (s.opened b).endPermit p.id r = (s.withdrawEnded b c p r.code).opened b := by
  have ended := endPermit_eq (s := s.opened b) h.found.1 h.holder r
  rw [h.found.2, h.subject, h.kind, show PermitKind.withdraw.code = 0 from rfl, Nat.zero_add] at ended
  refine ended.trans ?_
  change State.trigger (State.raise (State.gone (State.onQueue _ b _) p) ..) b = _
  rw [opened_onQueue, opened_gone, opened_raise, opened_trigger]
  rfl

omit h in
theorem ended_rest (rest : s.AtRest) (result : Nat) : (s.withdrawEnded b c p result).AtRest :=
  ((rest.onQueue b _).gone p).raise ..

theorem ended_settled (result : Nat) : (s.withdrawEnded b c p result).Settled b := by
  intro q hq hb
  obtain ⟨hm, hne⟩ := List.mem_filter.mp hq
  rw [permit_only h.all hm hb] at hne
  simp at hne

theorem ended_withdrawPermit (result : Nat) : (s.withdrawEnded b c p result).withdrawPermit c = none := by
  refine List.find?_eq_none.mpr fun q hq hc => ?_
  obtain ⟨hm, hne⟩ := List.mem_filter.mp hq
  simp only [Bool.and_eq_true, beq_iff_eq] at hc
  rw [h.one q hm (.inl hc.1.2)] at hne
  simp at hne

/-- Its return blocked, in a handing-on. -/
theorem blockReturn (value : Nat) : (s.opened b).blockReturn p value 2 = (s.returnStopped b c p value).opened b := by
  rw [State.blockReturn, h.found.2, h.subject, opened_onPermit, opened_trigger, opened_raise]
  rfl

omit h in
theorem stopped_rest (rest : s.AtRest) (value : Nat) : (s.returnStopped b c p value).AtRest := rest

theorem stopped_settled (hpol : p.policy ≠ some .yield) (value : Nat) : (s.returnStopped b c p value).Settled b := by
  intro q hq hb
  obtain ⟨r, hr, rfl⟩ := List.mem_map.mp hq
  by_cases same : r.id = p.id
  · rw [if_pos same] at hb ⊢
    obtain rfl := h.one r hr (.inr same)
    exact ⟨h.kind, nofun, hpol⟩
  · rw [if_neg same] at hb ⊢
    exact h.settled hpol r hr hb

theorem stopped_withdrawPermit (value : Nat) :
    (s.returnStopped b c p value).withdrawPermit c = some { p with state := .returnBlocked } := by
  have moved : { p with state := PermitState.returnBlocked } ∈ (s.returnStopped b c p value).par.permits :=
    List.mem_map.mpr ⟨p, h.mem, if_pos rfl⟩
  refine find?_of_unique moved (by simp [h.kind, h.cabinet]) fun q hq hc => ?_
  obtain ⟨r, hr, rfl⟩ := List.mem_map.mp hq
  simp only [Bool.and_eq_true, beq_iff_eq] at hc
  by_cases same : r.id = p.id
  · rw [if_pos same, h.one r hr (.inr same)]
  · rw [if_neg same] at hc
    exact absurd (congrArg Permit.id (h.one r hr (.inl hc.1.2))) same

end State.OneWithdrawal

/-- A change that unblocks no return and that the sequencer makes nothing of is nothing to the permits. -/
theorem permitOnChange_rest {s : State} {c : Nat} {old new : Tracked} (hu : s.unblock c new = s)
    (hn : ∀ b, s.busOf c = some b → s.seqOnChange b c old new = s) : s.permitOnChange c old new = s := by
  unfold State.permitOnChange
  cases hb : s.busOf c with
  | none => rfl
  | some b =>
    dsimp only
    rw [hu, hn b hb]

theorem seqOnChange_normal {s : State} {b : Bus} (hn : (s.seqOf b).state = .normal) (c : Nat) (old new : Tracked) :
    s.seqOnChange b c old new = s := by rw [State.seqOnChange, hn]

theorem seqOnChange_bypassed {s : State} {b : Bus} (hn : (s.seqOf b).state = .onMaintBypass) (c : Nat) (old new : Tracked) :
    s.seqOnChange b c old new = s := by rw [State.seqOnChange, hn]

theorem unblock_none {s : State} {c : Nat} (h : s.withdrawPermit c = none) (new : Tracked) : s.unblock c new = s := by
  rw [State.unblock, h]

theorem unblock_other {s : State} {c : Nat} {p : Permit} (h : s.withdrawPermit c = some p) {new : Tracked}
    (hs : p.state ≠ .returnBlocked ∨ new ≠ .standby ∧ new ≠ .online) : s.unblock c new = s := by
  unfold State.unblock
  rw [h]
  rcases hs with hs | ⟨h1, h2⟩
  · simp [hs]
  · simp [h1, h2]

end Sys2Proof.Machine

namespace Sys2Proof.Machine

/-! ### A change of tracked state told (R48) -/

/-- The cabinet `c` stored as `j`, and CABINET_STATE raised. -/
def State.stored (s : State) (c : Nat) (j : Cabinet) (value result : Nat) : State :=
  (s.setCabinet c (some j)).raise .cabinetState { bus := j.defn.bus.val + 1, cabinet := c } value result

section
variable (s : State) (c : Nat) (j : Cabinet) (value result : Nat)

theorem stored_par : (s.stored c j value result).par = s.par := by rw [State.stored, State.raise_par, State.setCabinet_par]

theorem stored_clc : (s.stored c j value result).clc = s.clc := by rw [State.stored, State.raise_clc, State.setCabinet_clc]

theorem stored_test : (s.stored c j value result).test = s.test := State.setCabinet_test ..

theorem stored_cabinet {s : State} {c : Nat} {k : Cabinet} (hk : s.cabinet c = some k) (j : Cabinet) (value result : Nat) :
    (s.stored c j value result).cabinet c = some j := by
  obtain ⟨h1, h24⟩ := State.cabinet_range hk
  rw [State.stored, State.raise_cabinet, State.cabinet_setCabinet_same s h1 h24]

theorem stored_busOf {s : State} {c : Nat} {k : Cabinet} (hk : s.cabinet c = some k) (j : Cabinet) (value result : Nat) :
    (s.stored c j value result).busOf c = some j.defn.bus := by rw [State.busOf, stored_cabinet hk]; rfl

theorem stored_idled (low : Bool) : (s.stored c j value result).idled low = (s.idled low).stored c j value result := by
  rw [State.stored, raise_idled, setCabinet_idled, State.stored]

theorem State.AtRest.stored {s : State} (h : s.AtRest) (c : Nat) (j : Cabinet) (value result : Nat) :
    (s.stored c j value result).AtRest := (h.setCabinet c _).raise ..

end

/-! ### An overlay ends (R43 to R45) -/

theorem seqOnFlags_normal {s : State} {b : Bus} (hn : (s.seqOf b).state = .normal) (c : Nat) : s.seqOnFlags b c = s := by
  rw [State.seqOnFlags, hn]

theorem busOf_recompute (s : State) (b : Bus) (c : Nat) : (s.recompute b).busOf c = s.busOf c := by
  unfold State.busOf State.cabinet
  rw [State.recompute_cabinets]

/-- The end of an overlay is handed on: only its result is taken up, the bus is recomputed, and a change of flags moves nothing. -/
theorem Brings.overlayDone {x y : State} {c : Nat} {b : Bus} {old new : Tracked} {r : OverlayResult} (rest : x.AtRest)
    (ry : y.AtRest) (hold : old ≠ .onBattery) (hnew : new ≠ .onBattery) (ht : x.test.subject = none)
    (onOverlay : (x.opened b).permitOnOverlay c r = y.opened b) (unblock : (y.opened b).unblock c new = y.opened b)
    (hb : y.busOf c = some b) (hs : y.Settled b) (hn : (y.seqOf b).state = .normal) (differ : Bool) :
    Brings 24 ([.openHold] ++ changedTasks c b old new false [r] ++ [.closeHold] ++ flagTasks c differ) (x.trigger b)
      (y.recompute b) := by
  have onChange : (y.opened b).permitOnChange c old new = y.opened b := permitOnChange_rest unblock fun d hd => by
    have same : d = b := Option.some.inj (hd.symm.trans hb)
    rw [same]
    exact seqOnChange_normal (s := y.opened b) hn c old new
  have pass : ((y.recompute b).onHold (· + 1)).PassesRest b := by
    refine State.Settled.passesRest (fun q hq => ?_) ?_
    · change q ∈ (y.recompute b).par.permits at hq
      rw [State.recompute_par] at hq
      exact hs q hq
    · change ((y.recompute b).seqOf b).state = .normal
      rw [seqOf_recompute, hn]
  have normal : ((y.recompute b).seqOf b).state = .normal := by rw [seqOf_recompute, hn]
  have flags := Brings.flagTasks_rest (c := c) (ry.recompute b) ((busOf_recompute y b c).trans hb) (seqOnFlags_normal normal c) pass differ
  exact (Brings.overlayEnds rest ry hold hnew ht onOverlay onChange (.settled ry hs hn)).append flags

/-- The orphan flag is kept but for ONLINE (R46). -/
theorem settle_differ {t : Track} {m : Mode} {old : Tracked} (h : t.state = m.tracked) (ho : old ≠ m.tracked) :
    t.settle old = { t with orphan := t.orphan && m != .online } := by
  have online : m.tracked = .online ↔ m = .online := by cases m <;> simp [Mode.tracked]
  by_cases hm : m = .online
  · rw [Track.settle, if_pos ⟨h.trans (online.mpr hm), online.mpr hm ▸ ho⟩]
    simp [hm]
  · have kept : (t.orphan && m != .online) = t.orphan := by simp [hm]
    rw [Track.settle, if_neg fun e => hm (online.mp (h.symm.trans e.1)), kept]

/-- Work that finds no orphan and no bypass: the record, the change told, and handed on with the results (R48, R49). -/
theorem completeTrack_result {k : Cabinet} {t : Track} {m : Mode} (new : t.state = m.tracked)
    (differ : k.track.state ≠ m.tracked) (s : State) (c : Nat) (source : Source) (results : List OverlayResult) (flags : Bool) :
    s.completeTrack c k source { TrackWork.quiet t with results := results, flagsChanged := flags } =
      ((s.stored c { k with track := { t with orphan := t.orphan && m != .online } }
        (source.cause * 65536 + k.track.state.code * 256 + m.tracked.code) source.code).trigger k.defn.bus).push
        ([.openHold] ++ changedTasks c k.defn.bus k.track.state m.tracked false results ++ [.closeHold] ++ flagTasks c flags) := by
  have changed : k.track.state ≠ t.state := by rw [new]; exact differ
  rw [completeTrack_differ changed]
  have settled := settle_differ new differ
  simp only [TrackWork.quiet, State.raiseTrack, settled, new, busCode, ne_eq, differ, not_false_eq_true, true_or, if_true,
    Bool.false_and, Bool.false_eq_true, if_false, State.stored]

theorem Overlay.tracked_away (o : Overlay) : o.tracked ≠ .onBattery := by cases o <;> nofun

theorem Overlay.tracked_ne (o : Overlay) (m : Mode) : o.tracked ≠ m.tracked := by cases o <;> cases m <;> nofun

/-- A record with its overlay ended as it reports a mode (R43, R44, R46). -/
def Track.overlayOver (t : Track) (w : StateWord) (now : Nat) : Track :=
  { t.reported w now with overlay := none, overlayDeadline := none, orphan := t.orphan && w.mode != .online }

/-- The state with that record stored, and the change told (R48). -/
def State.overlayTold (s : State) (c : Nat) (k : Cabinet) (w : StateWord) (cause : Nat) : State :=
  s.stored c { k with track := k.track.overlayOver w s.now } (cause * 65536 + k.track.state.code * 256 + w.mode.tracked.code) 2

/-- A mode that ends the overlay is reported by an alert. -/
theorem trackAlert_overlay {s : State} {c : Nat} {k : Cabinet} {w : StateWord} {o : Overlay} {r : OverlayResult} {v : StateWord}
    (hk : s.cabinet c = some k) (ho : k.track.overlay = some o) (hu : k.track.unreachable = false) (hv : k.track.lastWord = some v)
    (hf : k.track.firstReportPending = false) (hb : k.track.bypassCheckPending = false) (he : overlayEnd o w.mode = some r)
    (cause : Nat) :
    s.trackSuccess c (some w) (.alert cause) = ((s.overlayTold c k w cause).trigger k.defn.bus).push
      ([.openHold] ++ changedTasks c k.defn.bus o.tracked w.mode.tracked false [r] ++ [.closeHold] ++
        flagTasks c (StateWord.flagsDiffer (some v) w)) := by
  have work : (s.report c { k.track with lastSuccess := some s.now, failures := 0 } w).recover s.now =
      { TrackWork.quiet { k.track.reported w s.now with overlay := none, overlayDeadline := none } with
        results := [r], flagsChanged := StateWord.flagsDiffer (some v) w } := by
    simp [State.report, TrackWork.recover, Track.examine, TrackWork.quiet, Track.reported, ho, hu, hv, hf, hb, he]
  have old : k.track.state = o.tracked := by cases o <;> simp [Track.state, hu, hv, ho, Overlay.tracked]
  have new : Track.state { k.track.reported w s.now with overlay := none, overlayDeadline := none } = w.mode.tracked := by
    simp [Track.state, Track.reported, hu]
  unfold State.trackSuccess
  rw [hk]
  refine (congrArg (s.completeTrack c k (.alert cause)) work).trans ?_
  rw [completeTrack_result new (by rw [old]; exact o.tracked_ne w.mode)]
  simp only [Source.cause, Source.code, State.overlayTold, Track.overlayOver, Track.reported, old]

end Sys2Proof.Machine

namespace Sys2Proof.Machine

/-! ### The result of an overlay reaches the withdrawal (R139, R140) -/

namespace State.OneWithdrawal
variable {s : State} {b : Bus} {c : Nat} {p : Permit} (h : s.OneWithdrawal b c p)
include h

theorem opened_withdrawPermit : (s.opened b).withdrawPermit c = some p := h.withdrawPermit

theorem on_withdrawn (m : Mode) : (s.opened b).permitOnOverlay c (.withdrawn m) = s.opened b := by
  unfold State.permitOnOverlay
  rw [h.opened_withdrawPermit]

theorem on_withdrawFailed (m : Mode) :
    (s.opened b).permitOnOverlay c (.withdrawFailed (.mode m)) = (s.withdrawEnded b c p 6).opened b := by
  unfold State.permitOnOverlay
  rw [h.opened_withdrawPermit]
  exact h.endPermit .failed

theorem on_timeout : (s.opened b).permitOnOverlay c (.withdrawFailed .timeout) = (s.withdrawEnded b c p 5).opened b := by
  unfold State.permitOnOverlay
  rw [h.opened_withdrawPermit]
  exact h.endPermit .refusedByCabinet

theorem on_returned : (s.opened b).permitOnOverlay c .returned = (s.withdrawEnded b c p 1).opened b := by
  unfold State.permitOnOverlay
  rw [h.opened_withdrawPermit]
  exact h.endPermit .returned

theorem on_returnFailed (m : Mode) :
    (s.opened b).permitOnOverlay c (.returnFailed (.mode m)) = (s.returnStopped b c p m.tracked.code).opened b := by
  unfold State.permitOnOverlay
  rw [h.opened_withdrawPermit]
  exact h.blockReturn m.tracked.code

theorem unblock (new : Tracked) : (s.opened b).unblock c new = s.opened b := by
  have under : p.state ≠ .returnBlocked := by rcases h.state with e | e <;> rw [e] <;> nofun
  exact unblock_other (s := s.opened b) h.withdrawPermit (.inl under)

theorem ended_unblock (result : Nat) (new : Tracked) :
    ((s.withdrawEnded b c p result).opened b).unblock c new = (s.withdrawEnded b c p result).opened b :=
  unblock_none (s := (s.withdrawEnded b c p result).opened b) (h.ended_withdrawPermit result) new

theorem stopped_unblock (value : Nat) {new : Tracked} (hn : new ≠ .standby ∧ new ≠ .online) :
    ((s.returnStopped b c p value).opened b).unblock c new = (s.returnStopped b c p value).opened b :=
  unblock_other (s := (s.returnStopped b c p value).opened b) (h.stopped_withdrawPermit value) (.inr hn)

theorem ended_normal (result : Nat) : ((s.withdrawEnded b c p result).seqOf b).state = .normal := by
  rw [State.withdrawEnded, State.raise_seqOf, State.gone_seqOf, State.onQueue_seqOf, h.normal]

theorem stopped_normal (value : Nat) : ((s.returnStopped b c p value).seqOf b).state = .normal := h.normal

end State.OneWithdrawal

theorem withdrawEnded_busOf (s : State) (b : Bus) (c d : Nat) (p : Permit) (result : Nat) :
    (s.withdrawEnded b c p result).busOf d = s.busOf d := rfl

theorem returnStopped_busOf (s : State) (b : Bus) (c d : Nat) (p : Permit) (value : Nat) :
    (s.returnStopped b c p value).busOf d = s.busOf d := rfl

/-- The state as the overlay's deadline leaves a withdrawal whose cabinet stayed ONLINE (R45, R48). -/
def State.overlayExpired (s : State) (c : Nat) (k : Cabinet) : State :=
  s.stored c { k with track := { k.track with overlay := none, overlayDeadline := none, orphan := false } } (7 * 256 + 1) 5

theorem overlayTimeout_withdrawing {s : State} {c : Nat} {k : Cabinet} {w : StateWord} (hk : s.cabinet c = some k)
    (ho : k.track.overlay = some .withdrawing) (hu : k.track.unreachable = false) (hw : k.track.lastWord = some w)
    (hm : w.mode = .online) :
    s.overlayTimeout c = ((s.overlayExpired c k).trigger k.defn.bus).push
      ([.openHold] ++ changedTasks c k.defn.bus .withdrawing .online false [.withdrawFailed .timeout] ++ [.closeHold] ++
        flagTasks c false) := by
  have old : k.track.state = .withdrawing := by simp [Track.state, hu, hw, ho]
  have new : Track.state { k.track with overlay := none, overlayDeadline := none } = Mode.online.tracked := by
    simp [Track.state, hu, hw, hm]
  have result := completeTrack_result new (by rw [old]; nofun) s c .overlayDeadline [.withdrawFailed .timeout] false
  unfold State.overlayTimeout
  rw [hk]
  dsimp only
  rw [ho]
  refine result.trans ?_
  rw [old, State.overlayExpired]
  simp [Source.cause, Source.code, Mode.tracked, Tracked.code]

/-- An overlay's deadline ends the withdrawal whose cabinet stayed ONLINE. -/
theorem exec_overlayDeadline {s : State} {c due : Nat} {k : Cabinet} {w : StateWord} {p : Permit} (hq : s.Quiet)
    (hk : s.cabinet c = some k) (ho : k.track.overlay = some .withdrawing) (hd : k.track.overlayDeadline = some due)
    (hdue : due ≤ s.now) (hu : k.track.unreachable = false) (hw : k.track.lastWord = some w) (hm : w.mode = .online)
    (ht : s.test.subject = none) (h : s.OneWithdrawal k.defn.bus c p) :
    exec (.overlayDeadlineExpiry c) s =
      .next (((s.overlayExpired c k).withdrawEnded k.defn.bus c p 5).recompute k.defn.bus) := by
  have rest : (s.overlayExpired c k).AtRest := hq.atRest.stored ..
  have one : (s.overlayExpired c k).OneWithdrawal k.defn.bus c p := h.congr (stored_par ..)
  have test : (s.overlayExpired c k).test.subject = none := (congrArg TestContext.subject (stored_test ..)).trans ht
  have bus : (s.overlayExpired c k).busOf c = some k.defn.bus := stored_busOf hk ..
  have ends := Brings.overlayDone (x := s.overlayExpired c k) rest (State.OneWithdrawal.ended_rest rest 5) (old := .withdrawing)
    (new := .online) nofun nofun test one.on_timeout (one.ended_unblock 5 .online) ((withdrawEnded_busOf ..).trans bus)
    (one.ended_settled 5) (one.ended_normal 5) false
  have reached : (s.cabinet c).any (fun k => s.reached k.track.overlayDeadline) = true := by
    rw [hk]
    exact (congrArg s.reached hd).trans (reached_iff.mpr hdue)
  exact (run_allowed (work := fun s => s.overlayTimeout c) (fun s => (s.cabinet c).any fun k => s.reached k.track.overlayDeadline)
    hq.1 reached).trans
    (run_brings (u := (s.overlayExpired c k).trigger k.defn.bus) hq.1 rest.1 (overlayTimeout_withdrawing hk ho hu hw hm) ends (by decide))

/-! ### A reported mode ends an overlay (R43, R44) -/

section
variable {s : State} {c : Nat} {k : Cabinet} {v w : StateWord} {o : Overlay} {p : Permit} {cause : Nat} (hq : s.AtRest)
  (hk : s.cabinet c = some k) (ho : k.track.overlay = some o) (hu : k.track.unreachable = false) (hv : k.track.lastWord = some v)
  (hf : k.track.firstReportPending = false) (hb : k.track.bypassCheckPending = false) (ht : s.test.subject = none)
include hq hk ho hu hv hf hb ht

/-- An alert whose mode ends the overlay, with what its result makes of the permits. -/
theorem Brings.overlayAlert {r : OverlayResult} {y : State} (he : overlayEnd o w.mode = some r) (hm : w.mode.tracked ≠ .onBattery)
    (ry : y.AtRest) (onOverlay : ((s.overlayTold c k w cause).opened k.defn.bus).permitOnOverlay c r = y.opened k.defn.bus)
    (unblock : (y.opened k.defn.bus).unblock c w.mode.tracked = y.opened k.defn.bus)
    (hbus : y.busOf c = (s.overlayTold c k w cause).busOf c) (hs : y.Settled k.defn.bus) (hn : (y.seqOf k.defn.bus).state = .normal) :
    Brings 25 [.trackAlert c w cause] s (y.recompute k.defn.bus) := by
  have rest : (s.overlayTold c k w cause).AtRest := hq.stored ..
  have test : (s.overlayTold c k w cause).test.subject = none := (congrArg TestContext.subject (stored_test ..)).trans ht
  have bus : (s.overlayTold c k w cause).busOf c = some k.defn.bus := stored_busOf hk ..
  have done := Brings.overlayDone rest ry o.tracked_away hm test onOverlay unblock (hbus.trans bus) hs hn
    (StateWord.flagsDiffer (some v) w)
  exact .task (u := (s.overlayTold c k w cause).trigger k.defn.bus) hq.1 rest.1 (trackAlert_overlay hk ho hu hv hf hb he cause) done

variable (h : s.OneWithdrawal k.defn.bus c p)
include h

theorem Brings.withdrawn (he : ∃ m, overlayEnd o w.mode = some (.withdrawn m)) (hm : w.mode.tracked ≠ .onBattery)
    (hpol : p.policy ≠ some .yield) :
    Brings 25 [.trackAlert c w cause] s ((s.overlayTold c k w cause).recompute k.defn.bus) := by
  obtain ⟨m, he⟩ := he
  have one : (s.overlayTold c k w cause).OneWithdrawal k.defn.bus c p := h.congr (stored_par ..)
  exact .overlayAlert hq hk ho hu hv hf hb ht he hm (hq.stored ..) (one.on_withdrawn m) (one.unblock _) rfl (one.settled hpol) one.normal

theorem Brings.withdrawFails (he : ∃ m, overlayEnd o w.mode = some (.withdrawFailed (.mode m))) (hm : w.mode.tracked ≠ .onBattery) :
    Brings 25 [.trackAlert c w cause] s (((s.overlayTold c k w cause).withdrawEnded k.defn.bus c p 6).recompute k.defn.bus) := by
  obtain ⟨m, he⟩ := he
  have one : (s.overlayTold c k w cause).OneWithdrawal k.defn.bus c p := h.congr (stored_par ..)
  exact .overlayAlert hq hk ho hu hv hf hb ht he hm (State.OneWithdrawal.ended_rest (hq.stored ..) 6) (one.on_withdrawFailed m)
    (one.ended_unblock 6 _) (withdrawEnded_busOf ..) (one.ended_settled 6) (one.ended_normal 6)

theorem Brings.returns (he : overlayEnd o w.mode = some .returned) (hm : w.mode.tracked ≠ .onBattery) :
    Brings 25 [.trackAlert c w cause] s (((s.overlayTold c k w cause).withdrawEnded k.defn.bus c p 1).recompute k.defn.bus) := by
  have one : (s.overlayTold c k w cause).OneWithdrawal k.defn.bus c p := h.congr (stored_par ..)
  exact .overlayAlert hq hk ho hu hv hf hb ht he hm (State.OneWithdrawal.ended_rest (hq.stored ..) 1) one.on_returned
    (one.ended_unblock 1 _) (withdrawEnded_busOf ..) (one.ended_settled 1) (one.ended_normal 1)

theorem Brings.returnFails {m : Mode} (he : overlayEnd o w.mode = some (.returnFailed (.mode m))) (hm : w.mode.tracked ≠ .onBattery)
    (hn : w.mode.tracked ≠ .standby ∧ w.mode.tracked ≠ .online) (hpol : p.policy ≠ some .yield) :
    Brings 25 [.trackAlert c w cause] s
      (((s.overlayTold c k w cause).returnStopped k.defn.bus c p m.tracked.code).recompute k.defn.bus) := by
  have one : (s.overlayTold c k w cause).OneWithdrawal k.defn.bus c p := h.congr (stored_par ..)
  exact .overlayAlert hq hk ho hu hv hf hb ht he hm (State.OneWithdrawal.stopped_rest (hq.stored ..) _) (one.on_returnFailed m)
    (one.stopped_unblock _ hn) (returnStopped_busOf ..) (one.stopped_settled hpol _) (one.stopped_normal _)

end

end Sys2Proof.Machine

namespace Sys2Proof.Machine

/-! ### A report under no overlay that changes the tracked state (R39, R41, R46, R47) -/

/-- A first report shows the cabinet off its bus (R46). -/
def Track.findsOrphan (t : Track) (w : StateWord) : Bool := t.firstReportPending && (w.mode == .standby || w.mode == .isolated)

/-- The pending check of a master shows its bypass closed (R47). -/
def Track.findsClosed (t : Track) (w : StateWord) : Bool := t.bypassCheckPending && w.bypassClosed

theorem findsOrphan_iff {t : Track} {w : StateWord} :
    t.findsOrphan w = true ↔ t.firstReportPending = true ∧ (w.mode = .standby ∨ w.mode = .isolated) := by simp [Track.findsOrphan]

theorem findsClosed_iff {t : Track} {w : StateWord} :
    t.findsClosed w = true ↔ t.bypassCheckPending = true ∧ w.bypassClosed = true := by simp [Track.findsClosed]

/-- The record after a report, reachable and past its checks. -/
def Track.reportedAfresh (t : Track) (w : StateWord) (now : Nat) : Track :=
  { t with lastWord := some w, failures := 0, unreachable := false, lastSuccess := some now,
           unreachableSince := if t.unreachable then none else t.unreachableSince, firstReportPending := false,
           bypassCheckPending := false, orphan := (t.orphan || t.findsOrphan w) && w.mode != .online }

/-- The report of an alert with its record stored and its notices raised, ORPHAN_BYPASS apart (R48). -/
def State.reportTold (s : State) (c : Nat) (k : Cabinet) (w : StateWord) (cause : Nat) : State :=
  let subject : Subject := { bus := k.defn.bus.val + 1, cabinet := c }
  let stored := s.setCabinet c (some { k with track := k.track.reportedAfresh w s.now })
  let back := if k.track.unreachable then
    stored.raise .cabinetRecovered subject (s.now - k.track.unreachableSince.getD s.now) 2 else stored
  let told := back.raise .cabinetState subject (cause * 65536 + k.track.state.code * 256 + w.mode.tracked.code) 2
  if k.track.findsOrphan w then told.raise .orphanCabinet subject w.mode.tracked.code 0 else told

/-- The report beside its notices. -/
theorem reportTold_frame (s : State) (c : Nat) (k : Cabinet) (w : StateWord) (cause : Nat) :
    ∃ q, s.reportTold c k w cause =
      { s.setCabinet c (some { k with track := k.track.reportedAfresh w s.now }) with notices := q } := by
  unfold State.reportTold
  dsimp only
  split_ifs <;> exact ⟨_, rfl⟩

theorem reportTold_idled (s : State) (c : Nat) (k : Cabinet) (w : StateWord) (cause : Nat) (low : Bool) :
    (s.reportTold c k w cause).idled low = (s.idled low).reportTold c k w cause := by
  have now : (s.idled low).now = s.now := rfl
  unfold State.reportTold
  rw [now]
  split_ifs <;> simp only [raise_idled, setCabinet_idled]

/-- The work of such a report (R39, R41, R46, R47). -/
theorem report_afresh {s : State} {c : Nat} {t : Track} {w : StateWord} (ho : t.overlay = none) (hp : s.par.permits = []) :
    (s.report c { t with lastSuccess := some s.now, failures := 0 } w).recover s.now =
      { track := { t.reportedAfresh w s.now with orphan := t.orphan || t.findsOrphan w }, results := [],
        recovered := if t.unreachable then some (s.now - t.unreachableSince.getD s.now) else none,
        orphanFound := if t.findsOrphan w then some w.mode else none, bypassFound := t.findsClosed w,
        flagsChanged := StateWord.flagsDiffer t.lastWord w } := by
  have noPermit : s.hasWithdraw c = false := by rw [State.hasWithdraw, hp, List.any_nil]
  unfold State.report TrackWork.recover Track.examine Track.reportedAfresh Track.findsOrphan Track.findsClosed
  dsimp only
  rw [noPermit, ho]
  cases t.unreachable <;> simp only [Bool.false_eq_true, if_false, if_true, Bool.not_false, Bool.and_true]

theorem hasBypass_raise (s : State) (kind : NoticeKind) (subject : Subject) (value result : Nat) (b : Bus) :
    (s.raise kind subject value result).hasBypass b = s.hasBypass b := rfl

/-- Such a report by an alert: the notices, and the change handed on with the bypass found. -/
theorem trackAlert_changed {s : State} {c : Nat} {k : Cabinet} {w : StateWord} (hk : s.cabinet c = some k)
    (ho : k.track.overlay = none) (hp : s.par.permits = []) (differ : k.track.state ≠ w.mode.tracked) (cause : Nat) :
    s.trackSuccess c (some w) (.alert cause) =
      ((if k.track.findsClosed w then (s.reportTold c k w cause).raise .orphanBypass { bus := k.defn.bus.val + 1, cabinet := c } 0 0
        else s.reportTold c k w cause).trigger k.defn.bus).push
        ([.openHold] ++ changedTasks c k.defn.bus k.track.state w.mode.tracked (k.track.findsClosed w) [] ++ [.closeHold] ++
          flagTasks c (StateWord.flagsDiffer k.track.lastWord w)) := by
  have new : Track.state { k.track.reportedAfresh w s.now with orphan := k.track.orphan || k.track.findsOrphan w } =
      w.mode.tracked := by simp [Track.state, Track.reportedAfresh, ho]
  have settled : Track.settle { k.track.reportedAfresh w s.now with orphan := k.track.orphan || k.track.findsOrphan w }
      k.track.state = k.track.reportedAfresh w s.now := by
    rw [settle_differ new differ]
    rfl
  have noBypass : (s.setCabinet c (some { k with track := k.track.reportedAfresh w s.now })).hasBypass k.defn.bus = false := by
    rw [State.hasBypass, State.setCabinet_par, hp, List.any_nil]
  have told : k.track.state ≠ w.mode.tracked ∨ cause ≠ 0 := .inl differ
  unfold State.trackSuccess
  rw [hk]
  refine (congrArg (s.completeTrack c k (.alert cause)) (report_afresh ho hp)).trans ?_
  rw [completeTrack_differ (by rw [new]; exact differ)]
  dsimp only
  rw [settled, new]
  refine congrArg (fun x => (State.trigger x _).push _) ?_
  unfold State.raiseTrack State.reportTold
  simp only [Source.cause, Source.code, busCode, told, if_true]
  cases k.track.unreachable <;> cases k.track.findsOrphan w <;> cases k.track.findsClosed w <;>
    simp only [hasBypass_raise, noBypass, Bool.false_eq_true, if_true, if_false, Bool.true_and, Bool.false_and, Bool.not_false]

/-! ### The change is handed on where no permit is live (R49; log 13) -/

theorem State.NoTransfers.congr {s t : State} (h : s.NoTransfers) (e : t.par = s.par) : t.NoTransfers :=
  ⟨by rw [e]; exact h.1, fun b => by rw [State.seqOf, e]; exact h.2 b⟩

/-- A change of flags where no permit is live and every sequencer is NORMAL. -/
theorem Brings.flagTasks_vacant {s : State} (h : s.AtRest) (hn : s.NoTransfers) (c : Nat) (differ : Bool) :
    Brings 7 (flagTasks c differ) s s := by
  cases hb : s.busOf c with
  | some b => exact .flagTasks_rest h hb (seqOnFlags_normal (hn.2 b) c) (passesRest_of_none hn.1 (hn.2 b)) differ
  | none =>
    cases differ with
    | false => exact (Brings.nothing h.1).mono (by decide)
    | true =>
      have idle : doTask (.permitOnFlags c) s = s := by
        change s.permitOnFlags c = s
        rw [State.permitOnFlags, hb]
      exact ((Brings.single h.1 h.1 idle).append (.rest h)).mono (by decide)

/-- A bypass has been found closed on the bus (R47, R142). -/
def State.orphaned (s : State) (b : Bus) : State := s.onSeq b fun q => { q with state := .onMaintBypass, orphan := true }

section
variable {x : State} {c : Nat} {b : Bus} {old new : Tracked} (rest : x.AtRest) (hn : x.NoTransfers) (ht : x.test.subject = none)
  (hold : old ≠ .onBattery) (hnew : new ≠ .onBattery) (differ : Bool)
include rest hn ht hold hnew

/-- With no bypass found nothing takes the change up, and the bus is recomputed. -/
theorem Brings.changeRests :
    Brings 53 ([.openHold] ++ changedTasks c b old new false [] ++ [.closeHold] ++ flagTasks c differ) (x.trigger b)
      (x.recompute b) := by
  have change := Brings.change (s := x.trigger b) (c := c) (b := b) rest.1 rest.2.1 hn ht hold hnew
  rw [State.met_trigger rest.2.2] at change
  have after : (x.recompute b).NoTransfers := hn.congr (State.recompute_par x b)
  exact change.append (.flagTasks_vacant (rest.recompute b) after c differ)

/-- A bypass found closed moves the sequencer, and the bus is recomputed. -/
theorem Brings.changeFindsBypass {w : StateWord} (hb : x.busOf c = some b) (hw : x.wordOf c = some w) (hclosed : w.bypassClosed = true) :
    Brings 53 ([.openHold] ++ changedTasks c b old new true [] ++ [.closeHold] ++ flagTasks c differ) (x.trigger b)
      ((x.orphaned b).recompute b) := by
  have ha : (x.opened b).agenda = [] := rest.1
  have hy : ((x.orphaned b).opened b).agenda = [] := rest.1
  have permits : (x.orphaned b).par.permits = [] := hn.1
  have bypassed : ((x.orphaned b).seqOf b).state = .onMaintBypass := by rw [State.orphaned, seqOf_onSeq]
  have rx : (x.orphaned b).AtRest := rest.onSeq b _
  have bypassing : (x.orphaned b).Bypassing b := by
    refine ⟨?_, ?_, by rw [bypassed]; nofun⟩ <;> (rw [permits]; exact fun q hq => nomatch hq)
  have found : (x.opened b).bypassFoundClosed b = (x.orphaned b).opened b := by
    have none : (x.opened b).bypassPermit b = none := by
      change List.find? _ x.par.permits = none
      rw [hn.1]
      rfl
    rw [State.bypassFoundClosed, none]
    dsimp only
    rw [State.seqTo, onSeq_onSeq, opened_onSeq, opened_trigger]
    rfl
  have onChange : ((x.orphaned b).opened b).permitOnChange c old new = (x.orphaned b).opened b := by
    refine permitOnChange_rest (unblock_none ?_ new) fun d hd => ?_
    · change List.find? _ x.par.permits = none
      rw [hn.1]
      rfl
    · have same : d = b := Option.some.inj (hd.symm.trans hb)
      rw [same]
      exact seqOnChange_bypassed (s := (x.orphaned b).opened b) bypassed c old new
  have ageing : doTask (.ageingOnChange c old new) ((x.orphaned b).opened b) = (x.orphaned b).opened b :=
    (if_neg hnew).trans (if_neg hold)
  have test : doTask (.testOnChange c b new) ((x.orphaned b).opened b) = (x.orphaned b).opened b :=
    testOnChange_idle (s := (x.orphaned b).opened b) ht c b new
  have mid : Brings 4 (changedTasks c b old new true []) (x.opened b) ((x.orphaned b).opened b) :=
    ((Brings.single (t := .bypassFoundClosed b) ha hy found).append (.single hy hy ageing)).append
      ((Brings.single (t := .testOnChange c b new) hy hy test).append (.single (t := .permitOnChange c old new) hy hy onChange))
  have held := Brings.held (s := x.trigger b) rest.1 mid (.bypassing rx bypassing)
  have shows : ((x.orphaned b).recompute b).wordOf c = some w := by
    rw [wordOf_congr (State.recompute_cabinets ..)]
    exact hw
  have flags : ((x.orphaned b).recompute b).seqOnFlags b c = (x.orphaned b).recompute b := by
    unfold State.seqOnFlags
    rw [seqOf_recompute, bypassed]
    refine if_neg fun ⟨_, _, master, opened⟩ => ?_
    rw [masterClosed_self master shows, hclosed] at opened
    exact nomatch opened
  have pass := State.Bypassing.passesRest (bypassing.congr (t := ((x.orphaned b).recompute b).onHold (· + 1)) (State.recompute_par ..))
  exact (held.append (.flagTasks_rest (rx.recompute b) ((busOf_recompute ..).trans hb) flags pass differ)).mono (by omega)

end

/-! ### The alert of such a report -/

section
variable (s : State) (c : Nat) (k : Cabinet) (w : StateWord) (cause : Nat)

theorem reportTold_par : (s.reportTold c k w cause).par = s.par := by
  obtain ⟨q, e⟩ := reportTold_frame s c k w cause
  rw [e]
  exact State.setCabinet_par ..

theorem reportTold_clc : (s.reportTold c k w cause).clc = s.clc := by
  obtain ⟨q, e⟩ := reportTold_frame s c k w cause
  rw [e]
  exact State.setCabinet_clc ..

theorem reportTold_test : (s.reportTold c k w cause).test = s.test := by
  obtain ⟨q, e⟩ := reportTold_frame s c k w cause
  rw [e]
  exact State.setCabinet_test ..

theorem reportTold_cabinet {s : State} {c : Nat} {k : Cabinet} (hk : s.cabinet c = some k) (w : StateWord) (cause : Nat) :
    (s.reportTold c k w cause).cabinet c = some { k with track := k.track.reportedAfresh w s.now } := by
  obtain ⟨h1, h24⟩ := State.cabinet_range hk
  obtain ⟨q, e⟩ := reportTold_frame s c k w cause
  rw [e]
  exact State.cabinet_setCabinet_same s h1 h24 _

theorem State.AtRest.reportTold {s : State} (h : s.AtRest) : (s.reportTold c k w cause).AtRest := by
  obtain ⟨q, e⟩ := reportTold_frame s c k w cause
  rw [e]
  exact h.setCabinet c _

end

section
variable {s : State} {c : Nat} {k : Cabinet} {w : StateWord} (rest : s.AtRest) (hk : s.cabinet c = some k)
  (ho : k.track.overlay = none) (hn : s.NoTransfers) (ht : s.test.subject = none) (differ : k.track.state ≠ w.mode.tracked)
  (hold : k.track.state ≠ .onBattery) (hnew : w.mode.tracked ≠ .onBattery) (cause : Nat)
include rest hk ho hn ht differ hold hnew

/-- A report that finds no bypass closed: the bus is recomputed. -/
theorem Brings.reportChanges (found : k.track.findsClosed w = false) :
    Brings 54 [.trackAlert c w cause] s ((s.reportTold c k w cause).recompute k.defn.bus) := by
  have told := trackAlert_changed hk ho hn.1 differ cause
  rw [found, if_neg Bool.false_ne_true] at told
  have rx := rest.reportTold c k w cause
  have changes := Brings.changeRests (c := c) (b := k.defn.bus) rx (hn.congr (reportTold_par ..))
    ((congrArg TestContext.subject (reportTold_test ..)).trans ht) hold hnew (StateWord.flagsDiffer k.track.lastWord w)
  exact .task (u := (s.reportTold c k w cause).trigger k.defn.bus) rest.1 rx.1 told changes

/-- A report that finds the bypass closed: ORPHAN_BYPASS, and the bus ON_MAINT_BYPASS. -/
theorem Brings.reportFindsBypass (found : k.track.findsClosed w = true) :
    Brings 54 [.trackAlert c w cause] s ((((s.reportTold c k w cause).raise .orphanBypass
      { bus := k.defn.bus.val + 1, cabinet := c } 0 0).orphaned k.defn.bus).recompute k.defn.bus) := by
  have told := trackAlert_changed hk ho hn.1 differ cause
  rw [found, if_pos rfl] at told
  have stored := reportTold_cabinet hk w cause
  have par := reportTold_par s c k w cause
  have test := (congrArg TestContext.subject (reportTold_test s c k w cause)).trans ht
  have rx := rest.reportTold c k w cause
  generalize s.reportTold c k w cause = x at *
  have bus : (x.raise .orphanBypass { bus := k.defn.bus.val + 1, cabinet := c } 0 0).busOf c = some k.defn.bus := by
    rw [State.busOf, State.raise_cabinet, stored]
    rfl
  have word : (x.raise .orphanBypass { bus := k.defn.bus.val + 1, cabinet := c } 0 0).wordOf c = some w := by
    rw [State.wordOf, State.raise_cabinet, stored]
    rfl
  have changes := Brings.changeFindsBypass (rx.raise .orphanBypass { bus := k.defn.bus.val + 1, cabinet := c } 0 0)
    (hn.congr par) test hold hnew (StateWord.flagsDiffer k.track.lastWord w) bus word (findsClosed_iff.mp found).2
  exact .task (u := (x.raise .orphanBypass { bus := k.defn.bus.val + 1, cabinet := c } 0 0).trigger k.defn.bus) rest.1 rx.1 told changes

end

end Sys2Proof.Machine

namespace Sys2Proof.Machine

/-! ### Into and out of ON_BATTERY (R85 to R87) -/

/-- An event of every string of a cabinet (R49, R85). -/
def State.stringsEvent (s : State) (c : Nat) (e : StringEvent) : State :=
  s.forSlots c fun s c n => s.ageString c n (stringEvent s.clock e)

theorem ageingOnChange_into {new : Tracked} (h : new = .onBattery) (s : State) (c : Nat) (old : Tracked) :
    s.ageingOnChange c old new = s.stringsEvent c .dischargeStart := if_pos h

theorem ageingOnChange_out {old new : Tracked} (h : old = .onBattery) (hn : new ≠ .onBattery) (s : State) (c : Nat) :
    s.ageingOnChange c old new = s.stringsEvent c .dischargeEnd := (if_neg hn).trans (if_pos h)

/-- The events of several strings are all taken at one clock. -/
theorem foldl_stringEvent (e : StringEvent) (k : Clock) (places : List (Nat × Nat)) : ∀ s : State, s.clock = k →
    places.foldl (fun s p => s.ageString p.1 p.2 (stringEvent s.clock e)) s =
      places.foldl (fun s p => s.ageString p.1 p.2 (stringEvent k e)) s := by
  induction places with
  | nil => exact fun _ _ => rfl
  | cons p places ih =>
    intro s hs
    rw [List.foldl_cons, List.foldl_cons, hs]
    exact ih _ ((agedFrom_ageString s ..).clock.trans hs)

/-- What a string's event leaves of it. -/
theorem stringsEvent_string {s : State} {c n : Nat} {u : StringUnit} (h : s.string c n = some u) (e : StringEvent) :
    (s.stringsEvent c e).string c n = some { u with age := (stringEvent s.clock e u.defn u.age).age } := by
  obtain ⟨k, hk, hu⟩ := Option.bind_eq_some_iff.mp h
  obtain ⟨h1, h4⟩ := Cabinet.slot_range hu
  have here : (c, n) ∈ slotIndices.map fun n => (c, n) := by
    refine List.mem_map.mpr ⟨n, ?_, rfl⟩
    simp only [slotIndices, List.mem_cons, List.not_mem_nil, or_false]
    omega
  have distinct : (slotIndices.map fun n => (c, n)).Nodup := by simp [slotIndices]
  have places : s.stringsEvent c e =
      (slotIndices.map fun n => (c, n)).foldl (fun s p => s.ageString p.1 p.2 (stringEvent s.clock e)) s := by
    rw [List.foldl_map]
    rfl
  rw [places, foldl_stringEvent e s.clock _ s rfl, foldl_ageString (fun _ _ _ => stringEvent s.clock e) _ s distinct, if_pos here, h]
  rfl

theorem agedFrom_stringsEvent (s : State) (c : Nat) (e : StringEvent) : s.AgedFrom (s.stringsEvent c e) :=
  (((agedFrom_ageString s c 1 _).trans (agedFrom_ageString _ c 2 _)).trans (agedFrom_ageString _ c 3 _)).trans
    (agedFrom_ageString _ c 4 _)

/-- `t` differs from `s` in the cabinets, the buses, the notices and the triggers alone. -/
def State.WorkedFrom (s t : State) : Prop := ∃ v u q r, t = { s with cabinets := v, buses := u, notices := q, triggers := r }

theorem State.AgedFrom.worked {s t u : State} (h : s.AgedFrom t) (g : t.WorkedFrom u) : s.WorkedFrom u := by
  obtain ⟨v, q, r, rfl⟩ := h
  obtain ⟨v', u', q', r', rfl⟩ := g
  exact ⟨v', u', q', r', rfl⟩

/-- Every trigger met leaves none (R121). -/
theorem State.NoTransfers.met_atRest {s : State} (hn : s.NoTransfers) (ha : s.agenda = []) (hh : s.hold = 0) : s.met.AtRest := by
  obtain ⟨_, _, _, hold, triggers⟩ := hands_meet 4 (s.onAgenda fun _ => [.meet]) [] (unmet_le _) rfl hh hn
  have agenda := s.met_agenda.trans ha
  rw [State.met_onAgenda] at hold triggers
  generalize s.met = y at *
  exact ⟨agenda, hold, triggers⟩

/-- A change into or out of ON_BATTERY is handed on: an event of every string, and the triggers met. -/
theorem Brings.stringsChange {x : State} {c : Nat} {b : Bus} {old new : Tracked} {e : StringEvent} (rest : x.AtRest) (hn : x.NoTransfers)
    (ht : x.test.subject = none) (he : ∀ s : State, s.ageingOnChange c old new = s.stringsEvent c e) (differ : Bool) :
    ∃ t, Brings 53 ([.openHold] ++ changedTasks c b old new false [] ++ [.closeHold] ++ flagTasks c differ) (x.trigger b) t ∧
      x.WorkedFrom t ∧ ∀ n u, x.string c n = some u →
        t.string c n = some { u with age := (stringEvent x.clock e u.defn u.age).age } := by
  have ha : (x.opened b).agenda = [] := rest.1
  have ageing : doTask (.ageingOnChange c old new) (x.opened b) = (x.opened b).stringsEvent c e := he _
  have aged := agedFrom_stringsEvent (x.opened b) c e
  have strings : ∀ n u, x.string c n = some u → ((x.opened b).stringsEvent c e).string c n =
      some { u with age := (stringEvent x.clock e u.defn u.age).age } := fun n u hu => stringsEvent_string (s := x.opened b) hu e
  generalize (x.opened b).stringsEvent c e = z at *
  have hz : z.agenda = [] := aged.agenda.trans ha
  have vacant : z.NoTransfers := hn.congr aged.par
  have hold : (z.onHold (· - 1)).hold = 0 := by
    have opened : (x.opened b).hold = 1 := congrArg (· + 1) rest.2.1
    change z.hold - 1 = 0
    rw [aged.hold, opened]
  have test : doTask (.testOnChange c b new) z = z :=
    testOnChange_idle ((congrArg TestContext.subject aged.test).trans ht) c b new
  have onChange : z.permitOnChange c old new = z := by
    refine permitOnChange_rest (unblock_none ?_ new) fun d _ => seqOnChange_normal (vacant.2 d) c old new
    rw [State.withdrawPermit, vacant.1, List.find?_nil]
  have mid : Brings 3 (changedTasks c b old new false []) (x.opened b) z :=
    (Brings.single (t := .ageingOnChange c old new) ha hz ageing).append
      ((Brings.single (t := .testOnChange c b new) hz hz test).append (.single (t := .permitOnChange c old new) hz hz onChange))
  have meets : Brings 41 [.meet] (z.onHold (· - 1)) (z.onHold (· - 1)).met := .meets hz hold vacant
  have still : (z.onHold (· - 1)).met.AtRest := State.NoTransfers.met_atRest vacant hz hold
  have par : (z.onHold (· - 1)).met.par = z.par := by
    obtain ⟨u, q, r, e⟩ := met_frame (z.onHold (· - 1))
    rw [e]
    rfl
  have held := Brings.held (s := x.trigger b) rest.1 mid meets
  refine ⟨_, held.append (.flagTasks_vacant still (vacant.congr par) c differ), ?_, fun n u hu => ?_⟩
  · obtain ⟨u, q, r, met⟩ := met_frame (z.onHold (· - 1))
    obtain ⟨v, q', r', aged⟩ := aged
    rw [met, aged]
    exact ⟨v, u, q, r, rfl⟩
  · obtain ⟨_, q, r, met⟩ := met_frame (z.onHold (· - 1))
    rw [met]
    exact strings n u hu

/-- An alert that takes a cabinet into or out of ON_BATTERY. -/
theorem Brings.stringsAlert {s : State} {c slot : Nat} {k : Cabinet} {w : StateWord} {u : StringUnit} {e : StringEvent} (rest : s.AtRest)
    (hk : s.cabinet c = some k) (hu : k.slot slot = some u) (plain : k.track.Plain) (hn : s.NoTransfers) (ht : s.test.subject = none)
    (differ : k.track.state ≠ w.mode.tracked)
    (he : ∀ s : State, s.ageingOnChange c k.track.state w.mode.tracked = s.stringsEvent c e) (cause : Nat) :
    ∃ t, Brings 54 [.trackAlert c w cause] s t ∧ s.WorkedFrom t ∧
      t.string c slot = some { u with age := (stringEvent s.clock e u.defn u.age).age } := by
  have told := (trackSuccess_plain hk plain w (.alert cause)).trans
    (completeTrack_result (plain.state_reported w s.now) differ s c (.alert cause) [] _)
  generalize hx : s.stored c { k with track := { k.track.reported w s.now with
    orphan := (k.track.reported w s.now).orphan && w.mode != .online } } _ _ = x at told
  have rx : x.AtRest := hx ▸ rest.stored ..
  have par : x.par = s.par := hx ▸ stored_par ..
  have test : x.test = s.test := hx ▸ stored_test ..
  have aged : s.AgedFrom x := by
    rw [← hx]
    exact (agedFrom_setCabinet s c _).trans ⟨_, _, _, rfl⟩
  have string : x.string c slot = some u := by
    rw [← hx, State.string, stored_cabinet hk]
    exact hu
  obtain ⟨t, brings, worked, strings⟩ := Brings.stringsChange (b := k.defn.bus) rx (hn.congr par)
    ((congrArg TestContext.subject test).trans ht) he (StateWord.flagsDiffer k.track.lastWord w)
  refine ⟨t, .task (u := x.trigger k.defn.bus) rest.1 rx.1 told brings, aged.worked worked, ?_⟩
  rw [strings slot u string, aged.clock]

/-! ### The record of a string that begins or ends a discharge (R85, R86) -/

theorem stringEvent_dischargeStart {a : AgeRec} (h : a.state ≠ .discharging) (c : Clock) (d : StringRec) :
    stringEvent c .dischargeStart d a = healthRecompute d (a.enterDischarging c) := by
  unfold stringEvent
  cases hs : a.state with
  | discharging => exact absurd hs h
  | float => rfl
  | testing => rfl
  | recharging => rfl

theorem stringEvent_dischargeEnd {a : AgeRec} (h : a.state = .discharging) (c : Clock) (d : StringRec) :
    stringEvent c .dischargeEnd d a = healthRecompute d (a.enterRecharging d c false) := by
  unfold stringEvent
  rw [h]

end Sys2Proof.Machine

namespace Sys2Proof.Machine

/-! ### The history of a string that begins or ends a discharge (R86) -/

theorem newOutage_eq (c : Clock) : DischargeRec.new .outage c =
    { kind := .outage, start := if c.valid then (c.uptime + c.offset) % 2 ^ 32 else c.uptime, startIsUptime := !c.valid,
      openedAt := c.uptime, duration := 0, charge := 0, minVoltage := none, isOpen := true, awaitingClose := false,
      cutByStart := false } := by
  unfold DischargeRec.new Clock.stamp
  cases c.valid <;> simp [Clock.floorTime]

/-- A record not yet closed is closed as a discharge begins, and an OUTAGE record opens. -/
theorem enterDischarging_history (a : AgeRec) (c : Clock) :
    let ended := fun (r : DischargeRec) => if r.isOpen then { r with duration := c.uptime - r.openedAt, isOpen := false } else r
    let closed := onNewest a.history fun r =>
      { ended r with awaitingClose := false, kind := if r.isOpen ∧ r.kind = .test then .testAborted else r.kind }
    (a.enterDischarging c).history = closed.drop (closed.length - 7) ++ [DischargeRec.new .outage c] := by
  intro ended closed
  have old : onNewest a.history (fun r => { r.closeAt c.uptime with
      kind := if r.isOpen && r.kind == .test then .testAborted else r.kind }) = closed := by
    refine congrArg (onNewest a.history) (funext fun r => ?_)
    rw [closeAt_eq]
    simp [ended]
  change joinHistory _ _ = _
  rw [joinHistory_eq, old]

/-- An open record awaits its close as a discharge ends. -/
theorem enterRecharging_history (a : AgeRec) (d : StringRec) (c : Clock) :
    let ended := fun (r : DischargeRec) => if r.isOpen then { r with duration := c.uptime - r.openedAt, isOpen := false } else r
    (a.enterRecharging d c false).history = onNewest a.history fun r => if r.isOpen then { ended r with awaitingClose := true } else r := by
  refine congrArg (onNewest a.history) (funext fun r => ?_)
  by_cases hr : r.isOpen = true <;> simp only [DischargeRec.endAt, if_pos, hr] <;> rfl

/-! ### O48 -/

/-- The cabinet that holds the address of an alert alone. -/
theorem cabinet_of_address {s : State} {address c : Nat} {k : Cabinet}
    (h : s.definedCabinets.filter (fun p => p.2.defn.address == address) = [(c, k)]) : s.cabinet c = some k :=
  mem_definedCabinets (List.mem_of_mem_filter (h ▸ List.mem_singleton_self (c, k)))

theorem withdrawEnded_idled (s : State) (b : Bus) (c : Nat) (p : Permit) (result : Nat) (low : Bool) :
    (s.withdrawEnded b c p result).idled low = (s.idled low).withdrawEnded b c p result := by
  simp only [State.withdrawEnded, raise_idled, gone_idled, onQueue_idled]

theorem returnStopped_idled (s : State) (b : Bus) (c : Nat) (p : Permit) (value : Nat) (low : Bool) :
    (s.returnStopped b c p value).idled low = (s.idled low).returnStopped b c p value := rfl

theorem overlayTold_idled (s : State) (c : Nat) (k : Cabinet) (w : StateWord) (cause : Nat) (low : Bool) :
    (s.overlayTold c k w cause).idled low = (s.idled low).overlayTold c k w cause := by
  have now : (s.idled low).now = s.now := rfl
  rw [State.overlayTold, stored_idled, State.overlayTold, now]

theorem orphaned_idled (s : State) (b : Bus) (low : Bool) : (s.orphaned b).idled low = (s.idled low).orphaned b := onSeq_idled ..

theorem reportedOrphan_eq (t : Track) (w : StateWord) : ((t.orphan || t.findsOrphan w) && w.mode != .online) =
    decide (w.mode ≠ .online ∧ (t.orphan = true ∨ t.firstReportPending = true ∧ (w.mode = .standby ∨ w.mode = .isolated))) := by
  rw [← Bool.coe_iff_coe, decide_eq_true_eq, ← findsOrphan_iff]
  simp [and_comm]

/-- Settles O48: the overlay deadline, and the four alerts by what their report hands on. -/
theorem overlayDeadlineEndsTheOverlay : Obligations.OverlayDeadlineEndsTheOverlay := by
  refine ⟨?deadline, ?alert⟩
  case deadline =>
    intro c due k w p s hq hk ho hd hdue hu hw hm ht hn hall hone hkind hcab hhold hst
    exact exec_overlayDeadline hq hk ho hd hdue hu hw hm ht ⟨hall, hone, hkind, hcab, hhold, hst, hn⟩
  case alert =>
    intro header word cause check after c k w s hq hl he hc h1 h31 hcheck hw ht b given old new idle subject heard known
    have hk : s.cabinet c = some k := cabinet_of_address hc
    have tasks : s.alertTasks header word cause check = [.trackAlert c w given] := alertTasks_valid hc h1 h31 hcheck hw
    have ends : ∀ n t, n ≤ 1000 → Brings n [.trackAlert c w given] s t → t.clc = s.clc →
        heard = .next (t.idled (lineLow after)) :=
      fun n t hn brings clc => run_alertReceived hq hl (tasks ▸ brings) hn clc (.inl he)
    refine ⟨?report, ?overlay, ?strings⟩
    case report =>
      intro ho hn differ hold hnew found closed stored back told alone
      have alone_eq : (s.reportTold c k w given).idled (lineLow after) = alone := by
        have record : k.track.reportedAfresh w s.now =
            { known with orphan := decide (w.mode ≠ .online ∧ (k.track.orphan = true ∨ found)) } := by
          simp only [Track.reportedAfresh, reportedOrphan_eq]
          rfl
        rw [reportTold_idled]
        unfold State.reportTold
        rw [show (s.idled (lineLow after)).now = s.now from rfl, record]
        by_cases hf : found
        · rw [if_pos (findsOrphan_iff.mpr hf)]
          exact (if_pos hf).symm
        · rw [if_neg fun x => hf (findsOrphan_iff.mp x)]
          exact (if_neg hf).symm
      by_cases hf : closed
      · rw [if_pos hf, ends 54 _ (by decide) (.reportFindsBypass hq.atRest hk ho hn ht differ hold hnew given (findsClosed_iff.mpr hf))
          ((State.recompute_clc ..).trans (reportTold_clc ..)), recompute_idled, orphaned_idled, raise_idled, alone_eq]
        rfl
      · rw [if_neg hf, ends 54 _ (by decide) (.reportChanges hq.atRest hk ho hn ht differ hold hnew given
          (Bool.eq_false_iff.mpr fun x => hf (findsClosed_iff.mp x))) ((State.recompute_clc ..).trans (reportTold_clc ..)),
          recompute_idled, alone_eq]
    case overlay =>
      intro o p ho hu ⟨v, hv⟩ hf hb hn hall hone hkind hcab hhold hst hpol told ended blocked
      have one : s.OneWithdrawal b c p := ⟨hall, hone, hkind, hcab, hhold, hst, hn⟩
      have told_eq : (s.overlayTold c k w given).idled (lineLow after) = told := by
        have record : k.track.overlayOver w s.now =
            { known with overlay := none, overlayDeadline := none, orphan := k.track.orphan && w.mode != .online } := by
          simp only [Track.overlayOver, Track.reported, known, hu, hf, hb, Bool.false_eq_true, if_false]
        rw [overlayTold_idled, State.overlayTold, show (s.idled (lineLow after)).now = s.now from rfl, record]
        rfl
      have clc : ∀ t : State, t.clc = (s.overlayTold c k w given).clc → (t.recompute b).clc = s.clc := fun t ht =>
        (State.recompute_clc ..).trans (ht.trans (stored_clc ..))
      have ended_eq : ∀ result,
          (((s.overlayTold c k w given).withdrawEnded b c p result).recompute b).idled (lineLow after) = (ended result).recompute b := by
        intro result
        rw [recompute_idled, withdrawEnded_idled, told_eq]
        rfl
      refine ⟨fun hw hm => ?_, fun hw hm => ?_, fun hr hm => ?_, fun hr hm => ?_⟩
      · have ends_in : (∃ m, overlayEnd o w.mode = some (.withdrawn m)) ∧ w.mode.tracked ≠ .onBattery := by
          rcases hm with hm | hm <;> rw [hw, hm] <;> exact ⟨⟨_, rfl⟩, nofun⟩
        have brings := Brings.withdrawn (cause := given) hq.atRest hk ho hu hv hf hb ht one ends_in.1 ends_in.2 hpol
        rw [ends 25 _ (by decide) brings (clc _ rfl), recompute_idled, told_eq]
      · have ends_in : (∃ m, overlayEnd o w.mode = some (.withdrawFailed (.mode m))) ∧ w.mode.tracked ≠ .onBattery := by
          rcases hm with hm | hm <;> rw [hw, hm] <;> exact ⟨⟨_, rfl⟩, nofun⟩
        have brings := Brings.withdrawFails (cause := given) hq.atRest hk ho hu hv hf hb ht one ends_in.1 ends_in.2
        rw [ends 25 _ (by decide) brings (clc _ rfl), ended_eq]
      · have brings := Brings.returns (cause := given) hq.atRest hk ho hu hv hf hb ht one (by rw [hr, hm]; rfl) (by rw [hm]; nofun)
        rw [ends 25 _ (by decide) brings (clc _ rfl), ended_eq]
      · have ends_in : overlayEnd o w.mode = some (.returnFailed (.mode w.mode)) ∧ w.mode.tracked ≠ .onBattery ∧
            w.mode.tracked ≠ .standby ∧ w.mode.tracked ≠ .online := by
          rcases hm with hm | hm <;> rw [hr, hm] <;> exact ⟨rfl, nofun, nofun, nofun⟩
        have brings := Brings.returnFails (cause := given) hq.atRest hk ho hu hv hf hb ht one ends_in.1 ends_in.2.1 ends_in.2.2 hpol
        rw [ends 25 _ (by decide) brings (clc _ rfl), recompute_idled, returnStopped_idled, told_eq]
        rfl
    case strings =>
      intro slot u hslot ho hn hu hf hb ended onNewest' same
      have plain : k.track.Plain := ⟨hu, ho, hf, hb⟩
      have happens : ∀ (e : StringEvent) (x : AgeRec), old ≠ new →
          (∀ s : State, s.ageingOnChange c old new = s.stringsEvent c e) →
          stringEvent s.clock e u.defn u.age = healthRecompute u.defn x →
          (x.calendarWear = u.age.calendarWear ∧ x.cycleCharge = u.age.cycleCharge ∧ x.window = u.age.window) →
          ∃ t, heard = .next t ∧ same t { u with age := (healthRecompute u.defn x).age } := by
        intro e x differ he hx ⟨wear, charge, window⟩
        obtain ⟨t, brings, worked, string⟩ := Brings.stringsAlert hq.atRest hk hslot plain hn ht differ he given
        rw [hx] at string
        obtain ⟨v, b', q, r, rfl⟩ := worked
        refine ⟨_, ends 54 _ (by decide) brings rfl, string, rfl, ?_, ?_, ?_, rfl, rfl, rfl, rfl, rfl, rfl⟩
        all_goals rw [healthRecompute_age]
        · exact wear
        · exact charge
        · exact window
      refine ⟨?into, ?out⟩
      case into =>
        intro hold hnew hst closed opened
        obtain ⟨t, next, kept⟩ := happens .dischargeStart (u.age.enterDischarging s.clock) (fun h => hold (h.trans hnew))
          (fun s => ageingOnChange_into hnew s c old) (stringEvent_dischargeStart hst ..) ⟨rfl, rfl, rfl⟩
        have history : (u.age.enterDischarging s.clock).history = closed.drop (closed.length - 7) ++ [opened] := by
          rw [enterDischarging_history, newOutage_eq]
          rfl
        refine ⟨t, _, next, kept, ?_⟩
        dsimp only
        rw [healthRecompute_age]
        exact ⟨rfl, rfl, rfl, history, rfl⟩
      case out =>
        intro hold hnew hst
        have history : (u.age.enterRecharging u.defn s.clock false).history =
            onNewest' (fun r => if r.isOpen then { ended r with awaitingClose := true } else r) := enterRecharging_history ..
        obtain ⟨t, next, kept⟩ := happens .dischargeEnd (u.age.enterRecharging u.defn s.clock false) (fun h => hnew (h.symm.trans hold))
          (fun s => ageingOnChange_out hold hnew s c) (stringEvent_dischargeEnd hst ..) ⟨rfl, rfl, rfl⟩
        refine ⟨t, _, next, kept, ?_⟩
        dsimp only
        rw [healthRecompute_age]
        exact ⟨rfl, rfl, rfl, history, rfl⟩

end Sys2Proof.Machine
